-- ==== Sys2Proof/Word.lean ====
section
/-! DEFINITION. The words of the JK-640 (bytes, converter readings, station numbers), the saturating
count of spec 0.6, and the fixed banks of four, six and eight like things (heads and leaves, call
inputs, call slots and adjacency candidates). -/

namespace Sys2Proof

/-- A byte of a frame, of the profile memory or of a survey answer. -/
abbrev Byte := BitVec 8

/-- One conversion of the front end, 0 to 1023 counts (R1). -/
abbrev Reading := BitVec 10

/-- A station number: 0 is the unstrapped station, 1 to 63 a strapped one (spec 0.5). -/
abbrev Station := Fin 64

/-- Counters are 16 bits wide and ages are whole seconds; both stop here (spec 0.6). -/
def ceiling16 : Nat := 65535

/-- One more, stopping at 65,535 (spec 0.6, R187). -/
def satInc (n : Nat) : Nat := if n < ceiling16 then n + 1 else ceiling16

/-- The byte that holds the low eight bits of a number. -/
def byteOf (n : Nat) : Byte := BitVec.ofNat 8 n

/-- A two-byte quantity, high byte first (spec 0.6, R159). -/
def bytesOf16 (n : Nat) : List Byte := [byteOf (n / 256), byteOf n]

/-- Four like things, numbered 0 to 3: heads (R7), leaves (R80). -/
structure Four (α : Type) where
  p0 : α
  p1 : α
  p2 : α
  p3 : α
  deriving DecidableEq, Repr

def Four.get {α : Type} (v : Four α) : Fin 4 → α
  | 0 => v.p0
  | 1 => v.p1
  | 2 => v.p2
  | 3 => v.p3

def Four.set {α : Type} (v : Four α) (i : Fin 4) (x : α) : Four α :=
  match i with
  | 0 => { v with p0 := x }
  | 1 => { v with p1 := x }
  | 2 => { v with p2 := x }
  | 3 => { v with p3 := x }

def Four.fill {α : Type} (x : α) : Four α := ⟨x, x, x, x⟩

def Four.map {α β : Type} (f : α → β) (v : Four α) : Four β := ⟨f v.p0, f v.p1, f v.p2, f v.p3⟩

/-- The bank whose member `i` is `f i`. -/
def Four.tabulate {α : Type} (f : Fin 4 → α) : Four α := ⟨f 0, f 1, f 2, f 3⟩

def Four.toList {α : Type} (v : Four α) : List α := [v.p0, v.p1, v.p2, v.p3]

/-- Six like things, numbered 0 to 5: the call inputs (R107). -/
structure Six (α : Type) where
  p0 : α
  p1 : α
  p2 : α
  p3 : α
  p4 : α
  p5 : α
  deriving DecidableEq, Repr

def Six.get {α : Type} (v : Six α) : Fin 6 → α
  | 0 => v.p0
  | 1 => v.p1
  | 2 => v.p2
  | 3 => v.p3
  | 4 => v.p4
  | 5 => v.p5

def Six.set {α : Type} (v : Six α) (i : Fin 6) (x : α) : Six α :=
  match i with
  | 0 => { v with p0 := x }
  | 1 => { v with p1 := x }
  | 2 => { v with p2 := x }
  | 3 => { v with p3 := x }
  | 4 => { v with p4 := x }
  | 5 => { v with p5 := x }

def Six.fill {α : Type} (x : α) : Six α := ⟨x, x, x, x, x, x⟩

def Six.map {α β : Type} (f : α → β) (v : Six α) : Six β :=
  ⟨f v.p0, f v.p1, f v.p2, f v.p3, f v.p4, f v.p5⟩

def Six.tabulate {α : Type} (f : Fin 6 → α) : Six α := ⟨f 0, f 1, f 2, f 3, f 4, f 5⟩

def Six.toList {α : Type} (v : Six α) : List α := [v.p0, v.p1, v.p2, v.p3, v.p4, v.p5]

/-- Eight like things, numbered 0 to 7: the call slots (R111), the candidates via entries (R59). -/
structure Eight (α : Type) where
  p0 : α
  p1 : α
  p2 : α
  p3 : α
  p4 : α
  p5 : α
  p6 : α
  p7 : α
  deriving DecidableEq, Repr

def Eight.get {α : Type} (v : Eight α) : Fin 8 → α
  | 0 => v.p0
  | 1 => v.p1
  | 2 => v.p2
  | 3 => v.p3
  | 4 => v.p4
  | 5 => v.p5
  | 6 => v.p6
  | 7 => v.p7

def Eight.set {α : Type} (v : Eight α) (i : Fin 8) (x : α) : Eight α :=
  match i with
  | 0 => { v with p0 := x }
  | 1 => { v with p1 := x }
  | 2 => { v with p2 := x }
  | 3 => { v with p3 := x }
  | 4 => { v with p4 := x }
  | 5 => { v with p5 := x }
  | 6 => { v with p6 := x }
  | 7 => { v with p7 := x }

def Eight.fill {α : Type} (x : α) : Eight α := ⟨x, x, x, x, x, x, x, x⟩

def Eight.map {α β : Type} (f : α → β) (v : Eight α) : Eight β :=
  ⟨f v.p0, f v.p1, f v.p2, f v.p3, f v.p4, f v.p5, f v.p6, f v.p7⟩

def Eight.tabulate {α : Type} (f : Fin 8 → α) : Eight α :=
  ⟨f 0, f 1, f 2, f 3, f 4, f 5, f 6, f 7⟩

def Eight.toList {α : Type} (v : Eight α) : List α :=
  [v.p0, v.p1, v.p2, v.p3, v.p4, v.p5, v.p6, v.p7]

/-- The numbers of the four heads and of the four leaves, ascending. -/
def allFour : List (Fin 4) := [0, 1, 2, 3]

/-- The numbers of the six call inputs, ascending. -/
def allSix : List (Fin 6) := [0, 1, 2, 3, 4, 5]

/-- The numbers of the eight call slots and of the eight entry places, ascending. -/
def allEight : List (Fin 8) := [0, 1, 2, 3, 4, 5, 6, 7]

end Sys2Proof
end

