-- ==== Sys2Proof/Syntax.lean ====
section
/-! DEFINITION. The commands of the station: one constructor for each row of spec/opcode_table.json,
with what the event brings with it as its operands. The rows' names are in LAWS.json. -/

namespace Sys2Proof

/-- The nine keys of a post's panel (R135). Where each stands on the matrix is `keyAt`'s. -/
inductive Key where
  | take | next | cancel | hush | day | night | restore | test | unused
  deriving DecidableEq, Repr

/-- A crossing of the key matrix: the KX line that drives it and the KY line that reads it (R135). -/
structure Crossing where
  kx : Fin 3
  ky : Fin 3
  deriving DecidableEq, Repr

/-- The input pins as they stand when a reset ends (R177, R7, R102, R125, R135). Bit `i` of a field
is pin `i` of its group; a set bit is the active level. -/
structure Pins where
  /-- ST0 to ST5, a strap to VSS reads as 1 (R177). -/
  straps : BitVec 6
  /-- BAUD: high is 38,400 bits per second (R177). -/
  baudHigh : Bool
  /-- HP0 to HP3: a head is fitted (R7). -/
  present : BitVec 4
  /-- DC0 to DC3: active is closed (R81). -/
  doorClosed : BitVec 4
  /-- BC0 to BC3: active is thrown (R81). -/
  boltThrown : BitVec 4
  /-- CI0 to CI5 (R107). -/
  callActive : BitVec 6
  /-- GRS, the gallery reset key (R122). -/
  grsOn : Bool
  /-- AUTH, the authority key (R136). -/
  authOn : Bool
  /-- The key matrix: bit `3 x + y` is the crossing of KXx and KYy, set where its key is down (R135). -/
  keysDown : BitVec 9
  deriving DecidableEq, Repr

/-- The readings of one head in one scan: Smoke dark and lit, or Heat temperature and nothing (R1). -/
structure HeadReading where
  first : Reading
  second : Reading
  deriving DecidableEq, Repr

/-- All that one completed scan converted, in the order of R1. -/
structure ScanReadings where
  refh : Reading
  refl : Reading
  heads : Four HeadReading
  isg : Reading
  isa : Reading
  isb : Reading
  /-- How many of the strip's changes between lit and dark chains (`Lamp.turns`) came between the conversion
  of ISA and the end of the scan (R153, log entry 19). -/
  sinceA : Nat
  /-- The same for ISB, which is converted after ISA (R1). -/
  sinceB : Nat
  deriving DecidableEq, Repr

/-- How an own frame was cut (R168): the own drive failed, or the dominant run ended after 10 to 23
bit times. -/
inductive BitErrorCause where
  | driveFailed | lineError
  deriving DecidableEq, Repr

/-- How an own trigger was lost (R171): on its code byte, or by a failed drive. -/
inductive TriggerLoss where
  | lostCode | driveFailed
  deriving DecidableEq, Repr

/-- The steps of the station, in the table's order. `wire` is a received frame's bytes as the
receiver took them, header first; at PIN_RESET, BREAK and FRAMING_ERROR they are the bytes that a frame
had brought when it was cut, none where none was being received. `block` is what a profile read clocked
in. -/
inductive Instr where
  | powerOnReset
  | pinReset (wire : List Byte := [])
  | resetEnd (pins : Pins)
  | profileReadDone (block : List Byte)
  | loadWaitExpiry
  | scanIntervalExpiry (present : BitVec 4)
  | scanResult (readings : ScanReadings) (present : BitVec 4)
  | joinTimerExpiry
  | lineIdle
  | frameComplete
  | arbitrationLost
  | transmitBitError (cause : BitErrorCause)
  | lineBreak (wire : List Byte := [])
  | triggerDriven
  | triggerLost (cause : TriggerLoss)
  | alertTrigger
  | hushTrigger
  | codeWaitTimeout
  | lineStuck
  | framingError (wire : List Byte := [])
  | frameDiscarded (wire : List Byte)
  | bulletin (wire : List Byte)
  | fireBulletin (wire : List Byte)
  | postureOrderDay (wire : List Byte)
  | postureOrderNight (wire : List Byte)
  | postureOrderRestore (wire : List Byte)
  | callNotice (wire : List Byte)
  | callTake (wire : List Byte)
  | callCancel (wire : List Byte)
  | surveyIdentity (wire : List Byte)
  | surveyCounters (wire : List Byte)
  | surveyPeerEntry (wire : List Byte)
  | surveyCallSlot (wire : List Byte)
  | surveyDoorLeaf (wire : List Byte)
  | surveyHead (wire : List Byte)
  | surveyRoute (wire : List Byte)
  | surveyUnknownSection (wire : List Byte)
  | surveyAnswer (wire : List Byte)
  | bulletinRefreshExpiry
  | staleExpiry (entry : Fin 8)
  | lostExpiry (entry : Fin 8)
  | duplicateTimerExpiry
  | doorContactChange (leaf : Fin 4) (closed : Bool)
  | boltContactChange (leaf : Fin 4) (thrown : Bool)
  | exitRequestEdge (leaf : Fin 4)
  | exitRequest (leaf : Fin 4)
  | boltTimeExpiry (leaf : Fin 4)
  | propTimerExpiry (leaf : Fin 4)
  | passExpiry (leaf : Fin 4)
  | callInputChange (input : Fin 6) (active : Bool)
  | helpPointPress (input : Fin 6)
  | firePointPress (input : Fin 6)
  | repeatTimerExpiry (slot : Fin 8)
  | galleryReset (on : Bool)
  | keyDown (key : Crossing)
  | keyUp (key : Crossing)
  | authChange (on : Bool)
  | returnTimerExpiry
  | silent (station : Station) (slot : Fin 8)
  | refusalBlinkPhase
  | refusalBlinkEnd
  | lampTestEnd
  | helpChimeEnd
  | drivePeriod
  | chaseStepExpiry
  | flashPhaseExpiry
  | supplyLoss
  | ageAdvance
  | sounderCadenceExpiry
  | otherTriggerCode (code : Byte)
  deriving DecidableEq, Repr

end Sys2Proof
end

