-- ==== Sys2Proof/Decode.lean ====
section
/-! DEFINITION. Reading commands from the table's bits. No row of spec/opcode_table.json gives bits: the
station takes events, not words. The bytes of frames and of the profile are operands, judged in
Machine/Operands.lean. -/

namespace Sys2Proof

/-- The command that a word spells by the table's bits: none does. -/
def decodeTableWord (_nbits _w : Nat) : Option Instr := none

end Sys2Proof
end

