-- ==== Sys2Proof/Config.lean ====
section
/-! DEFINITION. The numbers the manual fixes for every station (times, limits, default thresholds),
by the rule that states each, and the one value the manual leaves open. -/

namespace Sys2Proof.Config

/-- Join wait, in seconds (R27). -/
def joinWait : Nat := 20
/-- Age at which a Current entry becomes Stale (R50). -/
def staleAge : Nat := 25
/-- Age at which a Stale entry becomes Lost (R50). -/
def lostAge : Nat := 60
/-- Duplicate timer (R54, R56). -/
def duplicateTime : Nat := 60
/-- Length of a pass (R95). -/
def passTime : Nat := 8
/-- Repeat interval of a Raised call (R117). -/
def raisedRepeat : Nat := 5
/-- Repeat interval of a Taken call (R117). -/
def takenRepeat : Nat := 30
/-- Bulletin refresh (R165). -/
def refreshTime : Nat := 10
/-- Return timer of a held selection (R132). -/
def returnTime : Nat := 20
/-- Last-heard time at which a board entry becomes Silent (R131). -/
def silentTime : Nat := 90
/-- Length of a refusal blink (R133). -/
def blinkTime : Nat := 2
/-- Length of a lamp test (R157). -/
def lampTestTime : Nat := 3
/-- Length of a Help chime demand (R142). -/
def helpChimeTime : Nat := 2
/-- Entries of the transmit queue (R163). -/
def queueLimit : Nat := 12
/-- Entries of a call board (R127). -/
def boardLimit : Nat := 16
/-- Readings a heat window holds (R13). -/
def windowLimit : Nat := 8
/-- Graded scans between two baseline updates (R10). -/
def updateEvery : Nat := 64
/-- Clear-air counts above which a smoke head is Dirty (R11). -/
def dirtyAbove : Nat := 400
/-- A smoke reading below this is low (R12). -/
def lowSmoke : Nat := 4
/-- Low readings running that put a smoke head in Fault (R12). -/
def lowSmokeRun : Nat := 10
/-- Out-of-range readings running that put a heat head in Fault (R14). -/
def heatFaultRun : Nat := 3
/-- Good readings running that take a head out of Fault (R12, R14). -/
def recoveryRun : Nat := 3
/-- Invalid scans running that set Front-end fault (R5). -/
def invalidLimit : Nat := 3
/-- Counts a reading must fall below the threshold before its level is let go (R17). -/
def holdMargin : Nat := 4
/-- A chain current below this is low (R154). -/
def chainFloor : Nat := 32
/-- Driven readings running that set or clear a chain Fault (R154, R155). -/
def chainRun : Nat := 3
/-- No route; also every cost that reaches it by saturation (R59, R65). -/
def noRoute : Nat := 255
/-- The hop ceiling (R67). -/
def hopCeiling : Nat := 24
/-- Switch margin: a rival must be lower by more than this (R73). -/
def switchMargin : Nat := 2
/-- Length of the profile block in bytes (R185, spec 11.3). -/
def blockLength : Nat := 480
/-- Marker word of a profile block (spec 11.3). -/
def marker : Nat := 0x5C3E
/-- Code byte of the Alert trigger (spec 11.2). -/
def alertCode : Byte := 75
/-- Code byte of the Hush trigger (spec 11.2). -/
def hushCode : Byte := 150

/-- FREE VALUE. The two baseline bytes that survey section 5 shows for a head whose baseline is
unseeded (R186 lists the field, no rule gives its value there). Applied to the counter
`State.freeUsed`, so that each answer may show another value. DESIGN CHOICE, log entry 22. -/
opaque unseededBaseline : Nat → BitVec 16

end Sys2Proof.Config
end

