-- ==== Sys2Proof/Machine/Types.lean ====
section
/-! DEFINITION. The named values of the manual (levels, postures, kinds, classes, states of each
block) and their coded values (chapter 11). Plain data; what the station does with them stands in
the block files. -/

namespace Sys2Proof.Machine

/-- A head's level and the zone hazard, rising (chapter 1). -/
inductive Level where
  | clear | watch | prealarm | fire
  deriving DecidableEq, Repr

/-- Coded value of a level (spec 11.2); also its place in the order of chapter 1. -/
def Level.code : Level → Nat
  | .clear => 0
  | .watch => 1
  | .prealarm => 2
  | .fire => 3

/-- The higher of two levels. -/
def Level.higher (a b : Level) : Level := if a.code ≤ b.code then b else a

/-- The lower of two levels. -/
def Level.lower (a b : Level) : Level := if a.code ≤ b.code then a else b

/-- The postures (chapter 2). -/
inductive Posture where
  | startup | day | night | evacuate
  deriving DecidableEq, Repr

/-- Coded value of a posture (spec 11.2). -/
def Posture.code : Posture → Nat
  | .startup => 0
  | .day => 1
  | .night => 2
  | .evacuate => 3

/-- The base postures (chapter 2). -/
inductive Base where
  | day | night
  deriving DecidableEq, Repr

/-- Coded value of a base posture (spec 11.2). -/
def Base.code : Base → Nat
  | .day => 1
  | .night => 2

/-- The posture that equals a base posture. -/
def Base.posture : Base → Posture
  | .day => .day
  | .night => .night

/-- What a posture order carries (chapter 2). -/
inductive Order where
  | day | night | restore
  deriving DecidableEq, Repr

/-- Coded value A of a posture order (spec 9.2). -/
def Order.code : Order → Nat
  | .day => 1
  | .night => 2
  | .restore => 3

/-- The kinds of a detector head. -/
inductive HeadKind where
  | smoke | heat
  deriving DecidableEq, Repr

/-- Coded value of a head kind (spec 11.3). -/
def HeadKind.code : HeadKind → Nat
  | .smoke => 1
  | .heat => 2

/-- Three thresholds of a head: xW, xP, xF of a Smoke head; tP, tF, dR of a Heat head (R8). -/
structure Thresholds where
  one : Nat
  two : Nat
  three : Nat
  deriving DecidableEq, Repr

/-- A head as the profile lists it (R179); the thresholds are not yet judged by R8. -/
structure HeadConfig where
  kind : HeadKind
  thresholds : Thresholds
  deriving DecidableEq, Repr

/-- A head's record (sections 1.3 and 1.4). A field of the other kind of head is at its reset value. -/
structure Head where
  kind : HeadKind
  thresholds : Thresholds
  /-- The profile's thresholds were refused (R8). -/
  refused : Bool
  level : Level
  /-- Confirm count (R16). -/
  confirm : Nat
  /-- Last Fire-worthy mark (R16). -/
  fireWorthy : Bool
  /-- The head has been graded since its record began (R22, R23). -/
  graded : Bool
  /-- Last graded excess of a Smoke head (R9). -/
  excess : Nat
  /-- Last graded temperature of a Heat head (R13). -/
  temperature : Nat
  /-- Last graded rise of a Heat head (R13). -/
  rise : Nat
  /-- Baseline in sixty-fourths of a count; absent while unseeded (R10). -/
  baseline : Option Nat
  /-- Update count (R10). -/
  updates : Nat
  dirty : Bool
  /-- Heat window, oldest reading first (R13). -/
  window : List Nat
  /-- The head is in its own Fault (R12, R14). -/
  fault : Bool
  /-- Run of low (Smoke) or out-of-range (Heat) readings. -/
  badRun : Nat
  /-- Run of recovery (Smoke) or in-range (Heat) readings. -/
  goodRun : Nat
  deriving DecidableEq, Repr

/-- The kinds of a call, with ranks 4 to 1 (section 6.1). -/
inductive CallKind where
  | fire | intrusion | fault | help
  deriving DecidableEq, Repr

/-- Rank of a call kind (section 6.1); also its coded value in a notice (spec 11.2). -/
def CallKind.rank : CallKind → Nat
  | .fire => 4
  | .intrusion => 3
  | .fault => 2
  | .help => 1

/-- The 33 sources of calls (section 6.1). -/
inductive Source where
  | input (i : Fin 6)
  | head (k : Fin 4)
  | headFault (k : Fin 4)
  | headDirty (k : Fin 4)
  | frontEnd
  | leaf (n : Fin 4)
  | leafFault (n : Fin 4)
  | chainSign
  | chainA
  | chainB
  | profile
  | duplicate
  | line
  deriving DecidableEq, Repr

/-- Coded value of a source (spec 11.2). -/
def Source.code : Source → Nat
  | .input i => 1 + i.val
  | .head k => 7 + k.val
  | .headFault k => 11 + k.val
  | .headDirty k => 15 + k.val
  | .frontEnd => 19
  | .leaf n => 20 + n.val
  | .leafFault n => 24 + n.val
  | .chainSign => 28
  | .chainA => 29
  | .chainB => 30
  | .profile => 31
  | .duplicate => 32
  | .line => 33

/-- Every source, in the order of the source codes. -/
def allSources : List Source :=
  (allSix.map .input) ++ (allFour.map .head) ++ (allFour.map .headFault) ++ (allFour.map .headDirty)
    ++ [.frontEnd] ++ (allFour.map .leaf) ++ (allFour.map .leafFault)
    ++ [.chainSign, .chainA, .chainB, .profile, .duplicate, .line]

/-- What the profile makes of a call input (R107). -/
inductive InputKind where
  | unconfigured | helpPoint | firePoint | motion
  deriving DecidableEq, Repr

/-- The states of a call slot; a Taken call names its taker (section 6.3). -/
inductive SlotState where
  | free
  | raised
  | taken (taker : Station)
  deriving DecidableEq, Repr

/-- A call slot (section 6.3). -/
structure Slot where
  /-- Sequence number 0 to 15. -/
  seq : Fin 16
  state : SlotState
  kind : Option CallKind
  source : Option Source
  /-- Whole seconds since the call was raised; 0 in a Free slot. -/
  age : Nat
  /-- Repeat timer: whole seconds run, absent when stopped (R117). -/
  repeatTimer : Option Nat
  /-- Notices captured for the slot since its call was raised, modulo 256 (R166). -/
  notices : Byte
  deriving DecidableEq, Repr

/-- A call input: its debounced level and its press latch (R107, R108). -/
structure Input where
  active : Bool
  pressed : Bool
  deriving DecidableEq, Repr

/-- The states a notice may show (R116). -/
inductive NoticeState where
  | raised | taken | cleared
  deriving DecidableEq, Repr

/-- Coded value of a notice state (spec 11.2). -/
def NoticeState.code : NoticeState → Nat
  | .raised => 1
  | .taken => 2
  | .cleared => 3

/-- The fields of a call notice (R116). -/
structure Notice where
  slot : Fin 8
  seq : Fin 16
  kind : Option CallKind
  state : NoticeState
  /-- 0 when there is none. -/
  taker : Station
  source : Option Source
  age : BitVec 16
  deriving DecidableEq, Repr

/-- The usability classes of a leaf (R99). -/
inductive DoorClass where
  | usable | slow | blocked
  deriving DecidableEq, Repr

/-- Coded value of a class (spec 11.2); 0 is Free, an unconfigured leaf. -/
def DoorClass.code : DoorClass → Nat
  | .usable => 1
  | .slow => 2
  | .blocked => 3

/-- A neighbour's advertised next hop, as a bulletin shows it (section 3.1). -/
inductive AdvertisedHop where
  | none
  | station (n : Station)
  | exit
  deriving DecidableEq, Repr

/-- Coded value of an advertised next hop (spec 11.2). -/
def AdvertisedHop.code : AdvertisedHop → Nat
  | .none => 0
  | .station n => n.val
  | .exit => 64

/-- The fields of a bulletin (spec 11.2). -/
structure Bulletin where
  hazard : Level
  /-- bit 7 Blind, 6 any head Dirty, 5 Front-end fault, 4 chain sign, 3 chain A, 2 chain B,
  1 Duplicate, 0 profile fault. -/
  flags : Byte
  posture : Posture
  base : Base
  cost : Byte
  hops : Byte
  nextHop : AdvertisedHop
  /-- Class of each leaf; absent for Free. -/
  doors : Four (Option DoorClass)
  openCalls : Byte
  levels : Four Level
  headFaults : Four Bool
  headDirty : Four Bool
  manualFire : Bool
  deriving DecidableEq, Repr

/-- The frames of the line by kind (section 9.2), with the value B of the long kinds. The target of
a short frame is a whole byte, and its slot and index are four bits, as they travel. -/
inductive Frame where
  | bulletin (asFire : Bool) (count : Byte) (content : Bulletin)
  | order (o : Order)
  | notice (count : Byte) (content : Notice)
  | take (target : Byte) (slot seq : Fin 16)
  | cancel (target : Byte) (slot seq : Fin 16)
  | request (target : Byte) (area index : Fin 16)
  | answer (tag : Byte) (payload : List Byte)
  deriving DecidableEq, Repr

/-- The directions a sign may show (R44, R179). -/
inductive Aspect where
  | left | right | ahead | up | down | exit | danger
  deriving DecidableEq, Repr

/-- Coded value of an aspect: in the profile (spec 11.3) and as the sign's gap count (R144). -/
def Aspect.code : Aspect → Nat
  | .left => 1
  | .right => 2
  | .ahead => 3
  | .up => 4
  | .down => 5
  | .exit => 6
  | .danger => 7

/-- The directions of a chase (R44, R150). -/
inductive Direction where
  | forward | backward
  deriving DecidableEq, Repr

/-- The leaf that stands in a passage (section 3.1). -/
inductive PassageDoor where
  | absent
  | own (n : Fin 4)
  | neighbour (n : Fin 4)
  deriving DecidableEq, Repr

/-- Coded value of a passage door (spec 11.3). -/
def PassageDoor.code : PassageDoor → Nat
  | .absent => 0
  | .own n => 1 + n.val
  | .neighbour n => 5 + n.val

/-- An adjacency: the fixed fields of a peer entry (section 3.1). -/
structure Adjacency where
  neighbour : Station
  weight : Nat
  aspect : Aspect
  strip : Option Direction
  door : PassageDoor
  deriving DecidableEq, Repr

/-- A leaf as the profile configures it (R179). -/
structure LeafConfig where
  secure : Bool
  escape : Bool
  fire : Bool
  failSecure : Bool
  boltTime : Nat
  deriving DecidableEq, Repr

/-- A station profile (R179). -/
structure Profile where
  post : Bool
  defaultAspect : Aspect
  heads : List HeadConfig
  inputs : Six InputKind
  leaves : Four (Option LeafConfig)
  adjacencies : List Adjacency
  exitWeight : Nat
  exitLeaf : Option (Fin 4)
  propTime : Nat
  deriving DecidableEq, Repr

/-- The statuses of a peer entry (section 3.3). -/
inductive EntryStatus where
  | unheard | current | stale | lost
  deriving DecidableEq, Repr

/-- Coded value of an entry status (R186). -/
def EntryStatus.code : EntryStatus → Nat
  | .unheard => 0
  | .current => 1
  | .stale => 2
  | .lost => 3

/-- The heard fields of a peer entry, present together (section 3.1). -/
structure Heard where
  hazard : Level
  blind : Bool
  posture : Posture
  cost : Nat
  hops : Nat
  nextHop : AdvertisedHop
  doors : Four (Option DoorClass)
  deriving DecidableEq, Repr

/-- A peer entry (section 3.1). -/
structure Entry where
  fixed : Adjacency
  status : EntryStatus
  /-- Seconds since the last accepted bulletin; absent while Unheard. -/
  age : Option Nat
  heard : Option Heard
  deriving DecidableEq, Repr

/-- The first step of the station's own route (R59). -/
inductive NextHop where
  | none
  | exit
  | entry (j : Fin 8)
  deriving DecidableEq, Repr

/-- Coded value of the own next hop in survey section 6 (R186). -/
def NextHop.code : NextHop → Nat
  | .none => 0
  | .entry j => 1 + j.val
  | .exit => 9

/-- The value of one way out at the last computation (R59). -/
structure Candidate where
  cost : Nat
  hops : Nat
  deriving DecidableEq, Repr

/-- The position a Jammed leaf failed to reach (R89). -/
inductive JamDirection where
  | lock | release
  deriving DecidableEq, Repr

/-- The states of a leaf (section 5.3). -/
inductive LeafState where
  | opened | closed | securing | secured | releasing
  | jammed (d : JamDirection)
  | forced | propped
  deriving DecidableEq, Repr

/-- Coded value of a leaf state in survey section 4 (R186). -/
def LeafState.code : LeafState → Nat
  | .opened => 0
  | .closed => 1
  | .securing => 2
  | .secured => 3
  | .releasing => 4
  | .jammed _ => 5
  | .forced => 6
  | .propped => 7

/-- What stands at a leaf position: the provisional record of R102, a configured leaf, or nothing
(R80). -/
inductive LeafRole where
  | provisional
  | configured (fields : LeafConfig) (exitDoor : Bool) (links : List (Fin 8))
  | dropped
  deriving DecidableEq, Repr

/-- A leaf record (section 5.1). Lock drive and lock demand follow from it (R83, R84). -/
structure Leaf where
  role : LeafRole
  /-- Debounced door contact: closed. -/
  doorClosed : Bool
  /-- Debounced bolt contact: thrown. -/
  boltThrown : Bool
  pressLatch : Bool
  state : LeafState
  /-- Pass: whole seconds run, absent when none runs (R95). -/
  pass : Option Nat
  /-- Prop timer: whole seconds run, absent when stopped (R93). -/
  prop : Option Nat
  /-- Bolt time: whole seconds run, absent when stopped (R86, R88). -/
  bolt : Option Nat
  /-- Hold magnet on (R97). -/
  magnet : Bool
  deriving DecidableEq, Repr

/-- The states of a board entry (section 7.2). -/
inductive BoardState where
  | raised | takenByMe | takenByOther
  deriving DecidableEq, Repr

/-- A board entry (section 7.2). -/
structure BoardEntry where
  station : Station
  slot : Fin 8
  seq : Fin 16
  kind : CallKind
  state : BoardState
  /-- Whole seconds since the last notice for the entry. -/
  lastHeard : Nat
  silentMark : Bool
  takePending : Bool
  deriving DecidableEq, Repr

/-- The strip patterns (R149). -/
inductive Pattern where
  | steady | chase | flash
  deriving DecidableEq, Repr

/-- The sounds on the sounder output (R156). -/
inductive Sound where
  | off | tone | continuousChime | helpChime | steady
  deriving DecidableEq, Repr

/-- One lamp chain's supervision (R154, R155). -/
structure Chain where
  fault : Bool
  lowRun : Nat
  recovery : Nat
  deriving DecidableEq, Repr

/-- What a chain carries in one period: a gap count and a brightness share in per cent (R144). -/
structure Drive where
  gaps : Nat
  share : Nat
  deriving DecidableEq, Repr

/-- The receiver states (R160). -/
inductive Receiver where
  | quiet | frame | discard | brk | codeWait | stuck
  deriving DecidableEq, Repr

/-- The two triggers a station drives (R171). -/
inductive Trigger where
  | alert | hush
  deriving DecidableEq, Repr

/-- An entry of the transmit queue (R163). -/
structure QueueEntry where
  frame : Frame
  /-- Place time, as the number of the entry among all that entered the queue. -/
  place : Nat
  inFlight : Bool
  deriving DecidableEq, Repr

/-- The load states (R178), and the time before the straps are read. -/
inductive LoadState where
  | notStarted | firstRead | waiting | secondRead | loaded | fallback
  deriving DecidableEq, Repr

/-- The profile results (R180). -/
inductive ProfileResult where
  | loading | loaded | loadedDefaults | fallback
  deriving DecidableEq, Repr

/-- Coded value of a profile result (R186). -/
def ProfileResult.code : ProfileResult → Nat
  | .loading => 0
  | .loaded => 1
  | .loadedDefaults => 2
  | .fallback => 3

/-- The reset causes (R176). -/
inductive ResetCause where
  | powerOn | pin
  deriving DecidableEq, Repr

/-- Coded value of a reset cause (R186). -/
def ResetCause.code : ResetCause → Nat
  | .powerOn => 1
  | .pin => 2

/-- Whether the station works: the supply is off, a reset holds it, or it runs (R176). -/
inductive Power where
  | off | held | running
  deriving DecidableEq, Repr

/-- What one display position shows (R133). -/
inductive Glyph where
  | dark
  | dash
  | digit (d : Nat)
  | letter (k : CallKind)
  | every
  deriving DecidableEq, Repr

/-- A display position with its decimal point (R133). -/
structure Position where
  glyph : Glyph
  point : Bool
  deriving DecidableEq, Repr

/-- A timer that counts whole seconds has run its time. -/
def due (timer : Option Nat) (limit : Nat) : Bool :=
  match timer with
  | some n => decide (limit ≤ n)
  | none => false

/-- One more second on a timer that runs, stopping at 65,535; a stopped one stays stopped. -/
def tick (timer : Option Nat) : Option Nat := timer.map satInc

end Sys2Proof.Machine
end

