-- ==== Sys2Proof/Machine/Operands.lean ====
section
/-! DEFINITION. The commands' byte operands: a received frame's bytes judged by the receiver
(R161, R184, spec 9.2, 11.1, 11.2), the same layouts written for sending, and the profile block
judged by the loader (R179, R185, spec 11.3); and the key matrix (R135). -/

namespace Sys2Proof.Machine

/-! ## Coded values read -/

def Level.ofCode : Nat → Option Level
  | 0 => some .clear
  | 1 => some .watch
  | 2 => some .prealarm
  | 3 => some .fire
  | _ => none

def Posture.ofCode : Nat → Option Posture
  | 0 => some .startup
  | 1 => some .day
  | 2 => some .night
  | 3 => some .evacuate
  | _ => none

def Base.ofCode : Nat → Option Base
  | 1 => some .day
  | 2 => some .night
  | _ => none

def Order.ofCode : Nat → Option Order
  | 1 => some .day
  | 2 => some .night
  | 3 => some .restore
  | _ => none

def AdvertisedHop.ofCode (n : Nat) : Option AdvertisedHop :=
  if n = 0 then some .none
  else if h : n < 64 then some (.station ⟨n, h⟩)
  else if n = 64 then some .exit
  else none

/-- Two bits of a door summary (spec 11.2): 0 is Free. -/
def DoorClass.ofCode : Nat → Option DoorClass
  | 1 => some .usable
  | 2 => some .slow
  | 3 => some .blocked
  | _ => none

/-- Kind byte of a notice: 0 is none. -/
def CallKind.ofCode : Nat → Option (Option CallKind)
  | 0 => some none
  | 1 => some (some .help)
  | 2 => some (some .fault)
  | 3 => some (some .intrusion)
  | 4 => some (some .fire)
  | _ => none

def NoticeState.ofCode : Nat → Option NoticeState
  | 1 => some .raised
  | 2 => some .taken
  | 3 => some .cleared
  | _ => none

/-- Source byte of a notice: 0 is none. -/
def Source.ofCode (n : Nat) : Option (Option Source) :=
  if n = 0 then some none else (allSources.find? (fun s => s.code == n)).map some

def Aspect.ofCode : Nat → Option Aspect
  | 1 => some .left
  | 2 => some .right
  | 3 => some .ahead
  | 4 => some .up
  | 5 => some .down
  | 6 => some .exit
  | 7 => some .danger
  | _ => none

def stationOf (n : Nat) : Option Station := if h : n < 64 then some ⟨n, h⟩ else none

def slotOf (n : Nat) : Option (Fin 8) := if h : n < 8 then some ⟨n, h⟩ else none

/-- The high four bits of a byte. -/
def highNibble (b : Byte) : Fin 16 := ⟨b.toNat / 16, by have := b.isLt; omega⟩

/-- The low four bits of a byte. -/
def lowNibble (b : Byte) : Fin 16 := ⟨b.toNat % 16, by omega⟩

/-- Slot times 16 plus sequence number, or section times 16 plus index (spec 9.2). -/
def nibbles (hi lo : Fin 16) : Byte := byteOf (hi.val * 16 + lo.val)

/-- A condition of a check, as a step that fails where it does not hold. -/
def require (b : Bool) : Option Unit := if b then some () else none

/-- Every member, where each is there. -/
def collect {α : Type} : List (Option α) → Option (List α)
  | [] => some []
  | none :: _ => none
  | some a :: rest => (collect rest).map (a :: ·)

/-! ## The header check (R184) -/

/-- The bits of a byte in sending order, most significant first (R159). -/
def bitsOf (b : Byte) : List Bool :=
  [b.getLsbD 7, b.getLsbD 6, b.getLsbD 5, b.getLsbD 4, b.getLsbD 3, b.getLsbD 2, b.getLsbD 1, b.getLsbD 0]

/-- The number that bits in sending order spell. -/
def numberOf (bits : List Bool) : Nat := bits.foldl (fun n b => 2 * n + b.toNat) 0

/-- The data positions of the 38-position codeword (R184). -/
def dataPositions : List Nat :=
  [3, 5, 6, 7, 9, 10, 11, 12, 13, 14, 15, 17, 18, 19, 20, 21, 22, 23, 24, 25, 26, 27, 28, 29, 30, 31,
   33, 34, 35, 36, 37, 38]

/-- Exclusive-or of some bits. -/
def xorAll (bits : List Bool) : Bool := bits.foldl Bool.xor false

/-- The parity bit at position `2 ^ j`: the exclusive-or of every data bit whose position number has
that power of two in its binary form (R184). -/
def parityBit (j : Nat) (data : List Bool) : Bool :=
  xorAll ((dataPositions.zip data).map (fun p => p.1.testBit j && p.2))

/-- The parity bits of positions 32, 16, 8, 4, 2 and 1, in the order the check byte carries them. -/
def parityBits (data : List Bool) : List Bool :=
  [parityBit 5 data, parityBit 4 data, parityBit 3 data, parityBit 2 data, parityBit 1 data, parityBit 0 data]

/-- The header check byte over 32 data bits (R184). -/
def headerCheck (data : List Bool) : Byte :=
  let parity := parityBits data
  byteOf (numberOf (false :: parity ++ [Bool.xor (xorAll data) (xorAll parity)]))

/-- The data bits of the four header bytes in sending order. -/
def headerData (kind source valueA valueB : Byte) : List Bool :=
  bitsOf kind ++ bitsOf source ++ bitsOf valueA ++ bitsOf valueB

/-- The five header bytes of a frame (spec 11.1). -/
def headerBytes (kind source valueA valueB : Byte) : List Byte :=
  [kind, source, valueA, valueB, headerCheck (headerData kind source valueA valueB)]

/-- The data bits with the one at a codeword position inverted. A parity position holds none. -/
def invertAt (position : Nat) (data : List Bool) : List Bool :=
  (dataPositions.zip data).map (fun p => if p.1 = position then !p.2 else p.2)

/-- The receiver's judgment of a header (R184). -/
inductive HeaderVerdict where
  | clean
  | corrected (data : List Bool)
  | twoBit
  deriving DecidableEq, Repr

/-- The judgment table of R184 over the 32 data bits and the check byte received. -/
def judgeHeader (data : List Bool) (check : Byte) : HeaderVerdict :=
  let received := (bitsOf check).tail.take 6
  let syndrome := numberOf (List.zipWith Bool.xor (parityBits data) received)
  let holds := !Bool.xor (xorAll data) (Bool.xor (xorAll received) (check.getLsbD 0))
  if check.getLsbD 7 then
    if holds && syndrome == 0 then .corrected data else .twoBit
  else if holds then
    if syndrome = 0 then .clean else .twoBit
  else if syndrome = 0 then .corrected data
  else if syndrome ≤ 38 then .corrected (invertAt syndrome data)
  else .twoBit

/-! ## Payloads (spec 11.2) -/

/-- Sum of the payload bytes modulo 65,536 (spec 9.2). -/
def payloadSum (payload : List Byte) : Nat := (payload.foldl (fun n b => n + b.toNat) 0) % 65536

/-- Four two-bit fields of a byte, the first highest. -/
def packPairs (a b c d : Nat) : Byte := byteOf (a * 64 + b * 16 + c * 4 + d)

/-- The two-bit field `k` of a byte, field 0 highest. -/
def pairAt (b : Byte) (k : Nat) : Nat := b.toNat / 4 ^ (3 - k) % 4

/-- Code of a door summary field. -/
def doorCode : Option DoorClass → Nat
  | none => 0
  | some c => c.code

/-- The door summary byte: leaf 0 in bits 7 and 6. -/
def doorSummary (v : Four (Option DoorClass)) : Byte :=
  packPairs (doorCode v.p0) (doorCode v.p1) (doorCode v.p2) (doorCode v.p3)

/-- The twelve payload bytes of a bulletin. -/
def Bulletin.payload (b : Bulletin) : List Byte :=
  [byteOf b.hazard.code, b.flags, byteOf b.posture.code, byteOf b.base.code, b.cost, b.hops,
   byteOf b.nextHop.code, doorSummary b.doors, b.openCalls,
   packPairs b.levels.p0.code b.levels.p1.code b.levels.p2.code b.levels.p3.code,
   byteOf (numberOf (b.headFaults.toList ++ b.headDirty.toList)), byteOf b.manualFire.toNat]

/-- The bulletin that twelve payload bytes spell; absent where a field is outside its coded values. -/
def Bulletin.ofPayload : List Byte → Option Bulletin
  | [b0, b1, b2, b3, b4, b5, b6, b7, b8, b9, b10, b11] => do
    let hazard ← Level.ofCode b0.toNat
    let posture ← Posture.ofCode b2.toNat
    let base ← Base.ofCode b3.toNat
    require (b5.toNat ≤ Config.hopCeiling)
    let nextHop ← AdvertisedHop.ofCode b6.toNat
    require (b8.toNat ≤ 8)
    let l0 ← Level.ofCode (pairAt b9 0)
    let l1 ← Level.ofCode (pairAt b9 1)
    let l2 ← Level.ofCode (pairAt b9 2)
    let l3 ← Level.ofCode (pairAt b9 3)
    require (b11.toNat ≤ 1)
    some
      { hazard := hazard, flags := b1, posture := posture, base := base, cost := b4, hops := b5
        nextHop := nextHop
        doors := ⟨DoorClass.ofCode (pairAt b7 0), DoorClass.ofCode (pairAt b7 1),
          DoorClass.ofCode (pairAt b7 2), DoorClass.ofCode (pairAt b7 3)⟩
        openCalls := b8
        levels := ⟨l0, l1, l2, l3⟩
        headFaults := ⟨b10.getLsbD 7, b10.getLsbD 6, b10.getLsbD 5, b10.getLsbD 4⟩
        headDirty := ⟨b10.getLsbD 3, b10.getLsbD 2, b10.getLsbD 1, b10.getLsbD 0⟩
        manualFire := b11.toNat == 1 }
  | _ => none

/-- Code of a notice's kind. -/
def kindCode : Option CallKind → Nat
  | none => 0
  | some k => k.rank

/-- Code of a notice's source. -/
def sourceCode : Option Source → Nat
  | none => 0
  | some s => s.code

/-- The eight payload bytes of a call notice. -/
def Notice.payload (n : Notice) : List Byte :=
  [byteOf n.slot.val, byteOf n.seq.val, byteOf (kindCode n.kind), byteOf n.state.code, byteOf n.taker.val,
   byteOf (sourceCode n.source)] ++ bytesOf16 n.age.toNat

/-- The notice that eight payload bytes spell; absent where a field is outside its coded values. -/
def Notice.ofPayload : List Byte → Option Notice
  | [b0, b1, b2, b3, b4, b5, b6, b7] => do
    let slot ← slotOf b0.toNat
    require (b1.toNat ≤ 15)
    let kind ← CallKind.ofCode b2.toNat
    let state ← NoticeState.ofCode b3.toNat
    let taker ← stationOf b4.toNat
    let source ← Source.ofCode b5.toNat
    some
      { slot := slot, seq := lowNibble b1, kind := kind, state := state, taker := taker, source := source
        age := b6 ++ b7 }
  | _ => none

/-! ## Frames (spec 9.2) -/

/-- The kind byte of a frame. A bulletin captured at hazard Fire is kind 1, else 6 (R163). -/
def Frame.kindValue : Frame → Nat
  | .bulletin true _ _ => 1
  | .order _ => 2
  | .notice _ _ => 3
  | .take _ _ _ => 4
  | .cancel _ _ _ => 5
  | .bulletin false _ _ => 6
  | .request _ _ _ => 7
  | .answer _ _ => 8

def Frame.valueA : Frame → Byte
  | .bulletin _ _ _ => 12
  | .order o => byteOf o.code
  | .notice _ _ => 8
  | .take t _ _ => t
  | .cancel t _ _ => t
  | .request t _ _ => t
  | .answer _ p => byteOf p.length

def Frame.valueB : Frame → Byte
  | .bulletin _ c _ => c
  | .order _ => 0
  | .notice c _ => c
  | .take _ s q => nibbles s q
  | .cancel _ s q => nibbles s q
  | .request _ s i => nibbles s i
  | .answer tag _ => tag

/-- A long frame's payload followed by its two-byte check; a short frame has neither. -/
def Frame.tail : Frame → List Byte
  | .bulletin _ _ b => b.payload ++ bytesOf16 (payloadSum b.payload)
  | .notice _ n => n.payload ++ bytesOf16 (payloadSum n.payload)
  | .answer _ p => p ++ bytesOf16 (payloadSum p)
  | _ => []

/-- The bytes of a frame on the line, sent by a station. -/
def Frame.wire (source : Station) (f : Frame) : List Byte :=
  headerBytes (byteOf f.kindValue) (byteOf source.val) f.valueA f.valueB ++ f.tail

/-- The payload of a long frame: the bytes the length names, if they and the two check bytes are
there and the check matches (R161 stage 4). -/
def checkedPayload (length : Nat) (rest : List Byte) : Option (List Byte) :=
  match rest.drop length with
  | hi :: lo :: _ =>
    let payload := rest.take length
    if payloadSum payload = hi.toNat * 256 + lo.toNat then some payload else none
  | _ => none

/-- Stages 2 to 4 of R161 over a header's four bytes, as received or as corrected, and what follows
the header. Bytes after the frame's last are let pass. The payload of a survey answer may be any bytes: the model's
choice, log entry 53. -/
def frameOf (kind source valueA valueB : Byte) (rest : List Byte) : Option (Station × Frame) := do
  let src ← stationOf source.toNat
  match kind.toNat with
  | 1 =>
    require (valueA == 12)
    let b ← Bulletin.ofPayload (← checkedPayload 12 rest)
    some (src, .bulletin true valueB b)
  | 2 => some (src, .order (← Order.ofCode valueA.toNat))
  | 3 =>
    require (valueA == 8)
    let n ← Notice.ofPayload (← checkedPayload 8 rest)
    some (src, .notice valueB n)
  | 4 => some (src, .take valueA (highNibble valueB) (lowNibble valueB))
  | 5 => some (src, .cancel valueA (highNibble valueB) (lowNibble valueB))
  | 6 =>
    require (valueA == 12)
    let b ← Bulletin.ofPayload (← checkedPayload 12 rest)
    some (src, .bulletin false valueB b)
  | 7 => some (src, .request valueA (highNibble valueB) (lowNibble valueB))
  | 8 =>
    require (valueA.toNat ≤ 24)
    let p ← checkedPayload valueA.toNat rest
    some (src, .answer valueB p)
  | _ => none

/-- What the receiver makes of a frame's bytes (R161). -/
inductive Verdict where
  /-- A two-bit header error (stage 1). -/
  | headerLost
  /-- Discarded in stages 2 to 4, or cut short; the mark says that its header was corrected. -/
  | discarded (corrected : Bool)
  /-- Accepted; the mark says that its header was corrected. -/
  | accepted (corrected : Bool) (source : Station) (frame : Frame)
  deriving DecidableEq, Repr

/-- A frame whose header passed stage 1, judged by the stages that follow. -/
def judgeRest (corrected : Bool) (data : List Bool) (rest : List Byte) : Verdict :=
  let at' := fun k => byteOf (numberOf ((data.drop (8 * k)).take 8))
  match frameOf (at' 0) (at' 1) (at' 2) (at' 3) rest with
  | some (src, f) => .accepted corrected src f
  | none => .discarded corrected

/-- The receiver's judgment of a frame's bytes, stage by stage (R161). A frame whose bytes stop
before its end is a framing error (R160). -/
def judgeFrame : List Byte → Verdict
  | b0 :: b1 :: b2 :: b3 :: check :: rest =>
    let data := headerData b0 b1 b2 b3
    match judgeHeader data check with
    | .clean => judgeRest false data rest
    | .corrected data' => judgeRest true data' rest
    | .twoBit => .headerLost
  | _ => .discarded false

/-- A frame that was cut after these bytes had its header corrected after the fifth (R161 stage 1). -/
def cutCorrected (wire : List Byte) : Bool := judgeFrame wire == .discarded true

/-! ## The key matrix (R135) -/

/-- The key at a crossing: the table of R135. -/
def keyAt (x : Crossing) : Key :=
  match x.kx, x.ky with
  | 0, 0 => .take
  | 0, 1 => .next
  | 0, 2 => .cancel
  | 1, 0 => .hush
  | 1, 1 => .day
  | 1, 2 => .night
  | 2, 0 => .restore
  | 2, 1 => .test
  | 2, 2 => .unused

/-- The nine crossings, line by line. -/
def allCrossings : List Crossing :=
  [⟨0, 0⟩, ⟨0, 1⟩, ⟨0, 2⟩, ⟨1, 0⟩, ⟨1, 1⟩, ⟨1, 2⟩, ⟨2, 0⟩, ⟨2, 1⟩, ⟨2, 2⟩]

/-- The matrix shows the key at a crossing down. -/
def isDownAt (matrix : BitVec 9) (x : Crossing) : Bool := matrix.getLsbD (3 * x.kx.val + x.ky.val)

/-- The keys that the matrix shows down, line by line. -/
def keysRead (matrix : BitVec 9) : List Key := (allCrossings.filter (isDownAt matrix)).map keyAt

/-! ## The profile block (R179, R185, spec 11.3) -/

/-- Byte `i` of the block. A byte that the memory does not drive reads as all ones (R178). -/
def blockByte (block : List Byte) (i : Nat) : Nat := (block.getD i 255).toNat

/-- The two-byte quantity at offset `i`, high byte first. -/
def blockWord (block : List Byte) (i : Nat) : Nat := blockByte block i * 256 + blockByte block (i + 1)

/-- The 480 bytes that a read takes: those given, and all ones after them (R178). -/
def readBlock (block : List Byte) : List Byte :=
  (block ++ List.replicate (Config.blockLength - block.length) 255).take Config.blockLength

/-- Head record `k` (spec 11.3). The threshold bytes are judged by R8, not here. -/
def headOf (block : List Byte) (k : Nat) : Option HeadConfig :=
  let o := 5 + 6 * k
  match blockByte block o with
  | 1 => some ⟨.smoke, ⟨blockByte block (o + 1), blockByte block (o + 2), blockByte block (o + 3)⟩⟩
  | 2 => some ⟨.heat, ⟨blockWord block (o + 1), blockWord block (o + 3), blockByte block (o + 5)⟩⟩
  | _ => none

/-- Call input byte (spec 11.3). -/
def inputOf (n : Nat) : Option InputKind :=
  match n with
  | 0 => some .unconfigured
  | 1 => some .helpPoint
  | 2 => some .firePoint
  | 3 => some .motion
  | _ => none

/-- Leaf record `n`; the inner value is absent for an unconfigured position. Unused flag bits are 0,
and the bolt time of an unconfigured leaf is not judged (R185). -/
def leafOf (block : List Byte) (n : Nat) : Option (Option LeafConfig) :=
  let flags := byteOf (blockByte block (35 + 2 * n))
  let time := blockByte block (36 + 2 * n)
  if flags.toNat % 8 ≠ 0 then none
  else if flags.getLsbD 7 then
    if 1 ≤ time ∧ time ≤ 8 then
      some (some
        { secure := flags.getLsbD 6, escape := flags.getLsbD 5, fire := flags.getLsbD 4
          failSecure := flags.getLsbD 3, boltTime := time })
    else none
  else some none

/-- Strip direction nibble (spec 11.3). -/
def stripOf : Nat → Option (Option Direction)
  | 0 => some none
  | 1 => some (some .forward)
  | 2 => some (some .backward)
  | _ => none

/-- Passage door byte (spec 11.3). -/
def passageDoorOf (n : Nat) : Option PassageDoor :=
  if n = 0 then some .absent
  else if h : n - 1 < 4 then some (.own ⟨n - 1, h⟩)
  else if h : n - 5 < 4 then some (.neighbour ⟨n - 5, h⟩)
  else none

/-- A passage door reference names no own leaf that the profile does not configure (R44). -/
def doorConfigured (leaves : Four (Option LeafConfig)) : PassageDoor → Bool
  | .own n => (leaves.get n).isSome
  | _ => true

/-- Adjacency record `j`, judged by R44 apart from the comparison with the others. -/
def adjacencyOf (own : Station) (leaves : Four (Option LeafConfig)) (block : List Byte) (j : Nat) :
    Option Adjacency := do
  let o := 44 + 4 * j
  let neighbour ← stationOf (blockByte block o)
  require (neighbour != 0 && neighbour != own)
  let weight := blockByte block (o + 1)
  require (1 ≤ weight && weight ≤ 15)
  let look := blockByte block (o + 2)
  let aspect ← Aspect.ofCode (look / 16)
  require (aspect.code ≤ 5)
  let strip ← stripOf (look % 16)
  let door ← passageDoorOf (blockByte block (o + 3))
  require (doorConfigured leaves door)
  some ⟨neighbour, weight, aspect, strip, door⟩

/-- The exit leaf byte: absent, or a configured leaf (R179). -/
def exitLeafOf (leaves : Four (Option LeafConfig)) (n : Nat) : Option (Option (Fin 4)) :=
  if n = 0 then some none
  else if h : n - 1 < 4 then
    if (leaves.get ⟨n - 1, h⟩).isSome then some (some ⟨n - 1, h⟩) else none
  else none

/-- Marker and sum of a block (R179). -/
def blockSound (block : List Byte) : Bool :=
  blockWord block 0 == Config.marker && payloadSum (block.take 478) == blockWord block 478

/-- The profile check: the profile that a block spells at a station of the given number, absent where
the block is refused (R179, R44, R185). -/
def profileOf (own : Station) (given : List Byte) : Option Profile := do
  let block := readBlock given
  require (blockSound block)
  require (blockByte block 2 ≤ 1)
  let aspect ← Aspect.ofCode (blockByte block 3)
  require (blockByte block 4 ≤ 4)
  let heads ← collect ((List.range (blockByte block 4)).map (headOf block))
  let i0 ← inputOf (blockByte block 29)
  let i1 ← inputOf (blockByte block 30)
  let i2 ← inputOf (blockByte block 31)
  let i3 ← inputOf (blockByte block 32)
  let i4 ← inputOf (blockByte block 33)
  let i5 ← inputOf (blockByte block 34)
  let l0 ← leafOf block 0
  let l1 ← leafOf block 1
  let l2 ← leafOf block 2
  let l3 ← leafOf block 3
  let leaves : Four (Option LeafConfig) := ⟨l0, l1, l2, l3⟩
  require (blockByte block 43 ≤ 8)
  let adjacencies ← collect ((List.range (blockByte block 43)).map (adjacencyOf own leaves block))
  require (decide (adjacencies.map (·.neighbour)).Nodup)
  require (blockByte block 76 ≤ 15)
  let exitLeaf ← exitLeafOf leaves (blockByte block 77)
  require (10 ≤ blockByte block 78)
  some
    { post := blockByte block 2 == 1
      defaultAspect := aspect
      heads := heads
      inputs := ⟨i0, i1, i2, i3, i4, i5⟩
      leaves := leaves
      adjacencies := adjacencies
      exitWeight := blockByte block 76
      exitLeaf := exitLeaf
      propTime := blockByte block 78 }

/-- A leaf of the fallback profile (R182). -/
def fallbackLeaf : LeafConfig :=
  { secure := false, escape := true, fire := false, failSecure := false, boltTime := 2 }

/-- The fallback profile (R182). Its heads follow the presence senses and are not listed here. -/
def fallbackProfile : Profile :=
  { post := false
    defaultAspect := .danger
    heads := []
    inputs := Six.fill .helpPoint
    leaves := Four.fill (some fallbackLeaf)
    adjacencies := []
    exitWeight := 0
    exitLeaf := none
    propTime := 30 }

end Sys2Proof.Machine
end

