-- ==== Sys2Proof/Machine/State.lean ====
section
/-! DEFINITION. The state of a station: one structure for each block of spec 0.3 with what it owns,
the output pins, the commands that wait, and the state right after a power-on reset. -/

namespace Sys2Proof.Machine

/-- Reasons the machine would stop with a fault. There is none: the manual gives the station no event
after which it stops, and every command has an effect (possibly none) in every state. -/
inductive Fault
  deriving DecidableEq, Repr

/-- Reasons a command has no meaning. -/
inductive Refusal where
  /-- Raised by an arm of `exec` that has no meaning yet; safe, since nothing is claimed of it. -/
  | notModelled (mnemonic : String)
  deriving DecidableEq, Repr

/-- A scan in progress (R1). -/
structure Scan where
  /-- The first scan after a reset (R3). -/
  warmUp : Bool
  /-- It started before the load completed, so its result is discarded (R7). -/
  void : Bool
  deriving DecidableEq, Repr

/-- Last raw readings of every converted input (R2, R24). -/
structure RawReadings where
  refh : Reading
  refl : Reading
  heads : Four HeadReading
  isg : Reading
  isa : Reading
  isb : Reading
  deriving DecidableEq, Repr

/-- Front end (section 1.1). -/
structure FrontEnd where
  scan : Option Scan
  /-- The interval expired while a scan was converting: the next one starts at its end (R1). -/
  scanHeld : Bool
  /-- The scan interval timer runs. -/
  interval : Bool
  lastRaw : RawReadings
  /-- Run of invalid scans, 0 to 3 (R4). -/
  invalidRun : Nat
  /-- Front-end fault (R5). -/
  fault : Bool
  deriving DecidableEq, Repr

/-- Hazard evaluator (chapter 1). -/
structure Hazard where
  /-- The head set with its records; absent outside the set. -/
  heads : Four (Option Head)
  zone : Level
  manualFire : Bool
  blind : Bool
  deriving DecidableEq, Repr

/-- Posture controller (chapter 2). -/
structure Control where
  posture : Posture
  base : Base
  /-- Fire set: the members, ascending, each once (section 2.5). -/
  fireSet : List Station
  hushed : Bool
  /-- Join timer: whole seconds run, absent when stopped (R27). -/
  joinTimer : Option Nat
  provisionalBase : Bool
  alertPending : Bool
  deriving DecidableEq, Repr

/-- Peer table (chapter 3). -/
structure PeerTable where
  entries : List Entry
  duplicate : Bool
  /-- Duplicate timer: whole seconds run, absent when stopped (R54). -/
  duplicateTimer : Option Nat
  deriving DecidableEq, Repr

/-- Route record with the candidate list (R59). The advertised cost follows from it and the zone
hazard (R74). -/
structure RouteRecord where
  cost : Nat
  hops : Nat
  next : NextHop
  viaExit : Candidate
  viaEntry : Eight Candidate
  deriving DecidableEq, Repr

/-- Door unit (chapter 5). -/
structure Doors where
  leaves : Four Leaf
  deriving DecidableEq, Repr

/-- Call unit (chapter 6). -/
structure Calls where
  slots : Eight Slot
  /-- Pending sources in the order their flags were set (R114). -/
  pending : List Source
  inputs : Six Input
  /-- Debounced level of the gallery reset key (R122). -/
  grsOn : Bool
  deriving DecidableEq, Repr

/-- Panel states (R135). -/
inductive Panel where
  | ready
  | held (key : Key)
  | locked
  deriving DecidableEq, Repr

/-- A refusal blink (R133). -/
structure Blink where
  /-- Whole seconds run. -/
  elapsed : Nat
  lit : Bool
  deriving DecidableEq, Repr

/-- Post unit (chapter 7). -/
structure Post where
  /-- The post role has begun (R126). -/
  role : Bool
  /-- The board, oldest arrival first (section 7.2). -/
  board : List BoardEntry
  /-- A held selection, by station and slot; absent while the selection is the default (R132). -/
  held : Option (Station × Fin 8)
  /-- Return timer: whole seconds run, absent when stopped (R132). -/
  returnTimer : Option Nat
  /-- The keys that are down, in the order of the matrix (R135). -/
  down : List Key
  panel : Panel
  /-- Debounced level of the authority input (R136). -/
  authOn : Bool
  blink : Option Blink
  /-- Overflow indicator (R130). -/
  overflow : Bool
  /-- Help chime demand: whole seconds run, absent when none (R142). -/
  helpChime : Option Nat
  deriving DecidableEq, Repr

/-- Which strip chains are dark under the present pattern, step, phase and lamp test (R153). -/
structure StripShow where
  darkA : Bool
  darkB : Bool
  deriving DecidableEq, Repr

/-- Lamp and sounder driver (chapter 8). -/
structure Lamp where
  aspect : Aspect
  placeholder : Bool
  /-- Brightness share in per cent (R145). -/
  brightness : Nat
  pattern : Pattern
  /-- Chase direction and position (R150); the step timer runs while the pattern is Chase. -/
  direction : Direction
  position : Fin 8
  /-- Flash phase (R151); the phase timer runs while the pattern is Flash. -/
  flashOn : Bool
  sign : Chain
  chainA : Chain
  chainB : Chain
  sound : Sound
  /-- The sounding pattern is in its driven part (R156). -/
  soundOn : Bool
  /-- Lamp test: whole seconds run, absent when none (R157). -/
  test : Option Nat
  /-- What each chain carries in the present period; absent is dark (R144). -/
  driveSign : Option Drive
  driveA : Option Drive
  driveB : Option Drive
  /-- The MODEL's own: which strip chains were dark before each change of that since the last scan started,
  the latest first (R153, log entry 19). -/
  turns : List StripShow
  deriving DecidableEq, Repr

/-- Line port (chapter 9). -/
structure LinePort where
  /-- Transmit queue in sending order (R163). -/
  queue : List QueueEntry
  /-- Entries placed so far: the next place time. -/
  placed : Nat
  receiver : Receiver
  /-- The own frame on the line, as it was when it started (R163). -/
  onLine : Option Frame
  /-- The own trigger whose drive is under way (R171). -/
  driving : Option Trigger
  hushPending : Bool
  /-- The Alert request handed over and not yet driven (R171). -/
  alertHeld : Bool
  /-- Bulletin refresh timer: whole seconds run, absent when stopped (R165). -/
  refresh : Option Nat
  /-- Bulletin count (R166). -/
  bulletins : Byte
  /-- Line fault (R173). -/
  fault : Bool
  /-- The MODEL's own input: at each start of a frame on a line that has been Idle since an earlier event,
  whether another station's start bit was seen first (R167); the next one first, and none where the list
  has ended (log entry 8). -/
  startBits : List Bool
  deriving DecidableEq, Repr

/-- Profile loader and straps (chapter 10). -/
structure Loader where
  state : LoadState
  /-- The configuration in force, from the completion on (R180). -/
  config : Option Profile
  result : ProfileResult
  profileFault : Bool
  cause : ResetCause
  /-- Station number read from the straps; 0 is unstrapped (R177). -/
  station : Station
  /-- Line rate read from BAUD: high is 38,400 bits per second (R177). -/
  baudHigh : Bool
  deriving DecidableEq, Repr

/-- The eleven counters (R187). -/
structure Counters where
  invalidScan : Nat
  duplicate : Nat
  overflow : Nat
  correctedHeader : Nat
  discardedHeader : Nat
  discardedFrame : Nat
  refusedFrames : Nat
  arbitrationLost : Nat
  bitError : Nat
  abortedByBreak : Nat
  stuckLine : Nat
  deriving DecidableEq, Repr

/-- The output pins, true where driven, and what the display positions show. -/
structure Outputs where
  /-- LK0 to LK3 (R82). -/
  locks : Four Bool
  /-- HM0 to HM3 (R82). -/
  magnets : Four Bool
  /-- FRL: driven holds the relay closed (R174). -/
  relay : Bool
  /-- SND (R156). -/
  sounder : Bool
  /-- The four display positions, position 1 first (R133). -/
  display : Four Position
  /-- IND0 to IND5 (R134). -/
  indicators : Six Bool
  deriving DecidableEq, Repr

end Sys2Proof.Machine

namespace Sys2Proof.Machine

/-- The state of one station, and the commands that wait, first in first out. -/
structure State where
  power : Power
  loader : Loader
  front : FrontEnd
  hazard : Hazard
  control : Control
  peers : PeerTable
  route : RouteRecord
  doors : Doors
  calls : Calls
  post : Post
  lamp : Lamp
  line : LinePort
  counters : Counters
  outputs : Outputs
  /-- The MODEL's own: how many free values were used (log entry 22). -/
  freeUsed : Nat
  /-- Commands that wait, the next one first. -/
  pending : List Instr
  deriving DecidableEq, Repr

/-! ## One update for each field -/

def State.setPower (s : State) (x : Power) : State := { s with power := x }
def State.setLoader (s : State) (x : Loader) : State := { s with loader := x }
def State.setFront (s : State) (x : FrontEnd) : State := { s with front := x }
def State.setHazard (s : State) (x : Hazard) : State := { s with hazard := x }
def State.setControl (s : State) (x : Control) : State := { s with control := x }
def State.setPeers (s : State) (x : PeerTable) : State := { s with peers := x }
def State.setRoute (s : State) (x : RouteRecord) : State := { s with route := x }
def State.setDoors (s : State) (x : Doors) : State := { s with doors := x }
def State.setCalls (s : State) (x : Calls) : State := { s with calls := x }
def State.setPost (s : State) (x : Post) : State := { s with post := x }
def State.setLamp (s : State) (x : Lamp) : State := { s with lamp := x }
def State.setLine (s : State) (x : LinePort) : State := { s with line := x }
def State.setCounters (s : State) (x : Counters) : State := { s with counters := x }
def State.setOutputs (s : State) (x : Outputs) : State := { s with outputs := x }
def State.setFreeUsed (s : State) (x : Nat) : State := { s with freeUsed := x }
def State.setPending (s : State) (x : List Instr) : State := { s with pending := x }

/-! ## Reset values, block by block -/

/-- R24. -/
def FrontEnd.atReset : FrontEnd :=
  { scan := none, scanHeld := false, interval := false
    lastRaw := { refh := 0, refl := 0, heads := Four.fill ⟨0, 0⟩, isg := 0, isa := 0, isb := 0 }
    invalidRun := 0, fault := false }

/-- R24. The head set follows the presence senses when the reset ends (R7). -/
def Hazard.atReset : Hazard :=
  { heads := Four.fill none, zone := .clear, manualFire := false, blind := false }

/-- R43. -/
def Control.atReset : Control :=
  { posture := .startup, base := .night, fireSet := [], hushed := false, joinTimer := none
    provisionalBase := false, alertPending := false }

/-- R58. -/
def PeerTable.atReset : PeerTable := { entries := [], duplicate := false, duplicateTimer := none }

/-- R79. -/
def RouteRecord.atReset : RouteRecord :=
  { cost := Config.noRoute, hops := 0, next := .none, viaExit := ⟨Config.noRoute, 0⟩
    viaEntry := Eight.fill ⟨Config.noRoute, 0⟩ }

/-- R102, with the contacts of an unwired position until the pins are read (log entry 3). -/
def Leaf.atReset : Leaf :=
  { role := .provisional, doorClosed := false, boltThrown := false, pressLatch := false
    state := .opened, pass := none, prop := none, bolt := none, magnet := false }

/-- R102. -/
def Doors.atReset : Doors := { leaves := Four.fill Leaf.atReset }

/-- R125. -/
def Slot.atReset : Slot :=
  { seq := 0, state := .free, kind := none, source := none, age := 0, repeatTimer := none, notices := 0 }

/-- R125, with the inputs inactive until the pins are read (log entry 3). -/
def Calls.atReset : Calls :=
  { slots := Eight.fill Slot.atReset, pending := [], inputs := Six.fill ⟨false, false⟩, grsOn := false }

/-- R143, with the keys up and the authority key off until the pins are read (log entry 3). -/
def Post.atReset : Post :=
  { role := false, board := [], held := none, returnTimer := none, down := [], panel := .ready
    authOn := false, blink := none, overflow := false, helpChime := none }

/-- R158. -/
def Lamp.atReset : Lamp :=
  { aspect := .danger, placeholder := true, brightness := 60, pattern := .steady
    direction := .forward, position := 0, flashOn := false
    sign := ⟨false, 0, 0⟩, chainA := ⟨false, 0, 0⟩, chainB := ⟨false, 0, 0⟩
    sound := .off, soundOn := false, test := none
    driveSign := none, driveA := none, driveB := none, turns := [] }

/-- R175, with no start bit of another station to come (log entry 8). -/
def LinePort.atReset : LinePort :=
  { queue := [], placed := 0, receiver := .discard, onLine := none, driving := none
    hushPending := false, alertHeld := false, refresh := none, bulletins := 0, fault := false
    startBits := [] }

/-- R176 to R180, before the straps are read (log entry 2). -/
def Loader.atReset : Loader :=
  { state := .notStarted, config := none, result := .loading, profileFault := false, cause := .powerOn
    station := 0, baudHigh := false }

/-- R187: power-on reset zeroes every counter. -/
def Counters.zero : Counters :=
  { invalidScan := 0, duplicate := 0, overflow := 0, correctedHeader := 0, discardedHeader := 0
    discardedFrame := 0, refusedFrames := 0, arbitrationLost := 0, bitError := 0, abortedByBreak := 0
    stuckLine := 0 }

/-- R176: while held in reset the station drives no output. -/
def Outputs.undriven : Outputs :=
  { locks := Four.fill false, magnets := Four.fill false, relay := false, sounder := false
    display := Four.fill ⟨.dark, false⟩, indicators := Six.fill false }

/-- The station right after a power-on reset has begun and before it ends (R176): every block in its
starting state, every counter zero, no output driven, no command waiting (log entry 2). -/
def State.reset : State :=
  { power := .held
    loader := Loader.atReset
    front := FrontEnd.atReset
    hazard := Hazard.atReset
    control := Control.atReset
    peers := PeerTable.atReset
    route := RouteRecord.atReset
    doors := Doors.atReset
    calls := Calls.atReset
    post := Post.atReset
    lamp := Lamp.atReset
    line := LinePort.atReset
    counters := Counters.zero
    outputs := Outputs.undriven
    freeUsed := 0
    pending := [] }

end Sys2Proof.Machine
end

