-- ==== Sys2Proof/Machine/Flags.lean ====
section
/-! DEFINITION. What the manual derives from the blocks' state: the zone hazard and Blind flag, lock
demand and usability class, the advertised route, the bulletin's content, the fault relay, the board's
display order and selection, the sound, and every output pin. -/

namespace Sys2Proof.Machine

/-! ## Station -/

/-- The straps give a number from 1 to 63 (R177, R183). -/
def strapped (s : State) : Bool := s.loader.station != 0

/-- The profile load has completed (R178, R180). -/
def loadComplete (s : State) : Bool := s.loader.state == .loaded || s.loader.state == .fallback

/-- The exit weight, exit leaf and prop time in force; before the load there is no exit (R61). -/
def exitWeight (s : State) : Nat := (s.loader.config.map (·.exitWeight)).getD 0

def exitLeaf (s : State) : Option (Fin 4) := s.loader.config.bind (·.exitLeaf)

def propTime (s : State) : Nat := (s.loader.config.map (·.propTime)).getD 0

/-! ## Hazard (R20, R21) -/

/-- The highest level among the heads of the head set, raised to Fire by the manual Fire latch (R20). -/
def zoneOf (h : Hazard) : Level :=
  if h.manualFire then .fire
  else h.heads.toList.foldl (fun z o => match o with | some r => z.higher r.level | none => z) .clear

/-- The Blind flag as R21 gives it. -/
def blindOf (frontEndFault : Bool) (heads : Four (Option Head)) : Bool :=
  frontEndFault ||
    (heads.toList.any (·.isSome) && heads.toList.all (fun o => match o with | some r => r.fault | none => true))

/-- The Dirty indication of each head. -/
def dirtyHeads (h : Hazard) : Four Bool := h.heads.map (fun o => match o with | some r => r.dirty | none => false)

/-- The own Fault of each head. -/
def faultHeads (h : Hazard) : Four Bool := h.heads.map (fun o => match o with | some r => r.fault | none => false)

/-- The level of each head, Clear outside the head set (spec 11.2). -/
def headLevels (h : Hazard) : Four Level := h.heads.map (fun o => match o with | some r => r.level | none => .clear)

/-- The confirm count a grading must reach, by the posture at that moment (R16). -/
def confirmRequired (p : Posture) : Nat := if p = .day then 3 else 1

/-! ## Doors (R83, R84, R97, R99) -/

/-- The class of a leaf by its state (R99). -/
def LeafState.doorClass : LeafState → DoorClass
  | .opened | .closed | .forced | .propped | .jammed .lock => .usable
  | .securing | .releasing => .slow
  | .secured | .jammed .release => .blocked

/-- The lock drive stands at lock (R84). -/
def LeafState.atLock : LeafState → Bool
  | .securing | .secured | .jammed .lock => true
  | _ => false

/-- The lock demand L of a leaf under a posture and base posture (R83). A provisional record has none. -/
def lockDemand (p : Posture) (b : Base) (lf : Leaf) : Bool :=
  match lf.role with
  | .configured c _ _ =>
    c.secure && b == .night && p != .startup && p != .day && lf.pass.isNone && !(c.escape && p == .evacuate)
  | _ => false

/-- The class a leaf shows outside: absent (Free) for a position that is not a configured leaf (R99). -/
def shownClass (lf : Leaf) : Option DoorClass :=
  match lf.role with
  | .configured _ _ _ => some lf.state.doorClass
  | _ => none

/-- The entries of a leaf's passage links. -/
def Leaf.links (lf : Leaf) : List (Fin 8) :=
  match lf.role with
  | .configured _ _ links => links
  | _ => []

/-- A class change of the leaf is handed to the route unit (R99). -/
def Leaf.onRoute (lf : Leaf) : Bool :=
  match lf.role with
  | .configured _ exitDoor links => exitDoor || !links.isEmpty
  | _ => false

/-- An entry shows a heard hazard of Fire, whatever its status (R97). -/
def heardFire (entries : List Entry) (j : Fin 8) : Bool :=
  match entries[j.val]? with
  | some e => (match e.heard with | some h => h.hazard == .fire | none => false)
  | none => false

/-- The value R97 gives the magnet of a leaf. -/
def magnetOf (p : Posture) (zone : Level) (entries : List Entry) (lf : Leaf) : Bool :=
  match lf.role with
  | .configured c _ links =>
    c.fire && p != .evacuate && (zone == .clear || zone == .watch) && !links.any (heardFire entries)
  | _ => false

/-! ## Route (R74) -/

/-- The advertised cost (R74). -/
def advertisedCost (zone : Level) (r : RouteRecord) : Nat := if zone = .fire then Config.noRoute else r.cost

/-- The advertised next hop (R74). -/
def advertisedHop (s : State) : AdvertisedHop :=
  if s.hazard.zone = .fire then .none
  else
    match s.route.next with
    | .none => .none
    | .exit => .exit
    | .entry j => match s.peers.entries[j.val]? with | some e => .station e.fixed.neighbour | none => .none

/-- The advertised hops (R74). -/
def advertisedHops (s : State) : Nat :=
  if s.hazard.zone = .fire then 0
  else match s.route.next with | .entry _ => s.route.hops | _ => 0

/-! ## Calls -/

/-- What the profile makes of an input; nothing before the load (R107). -/
def inputKind (s : State) (i : Fin 6) : InputKind :=
  match s.loader.config with
  | some p => p.inputs.get i
  | none => .unconfigured

/-- The kind of calls a source gives (section 6.1). -/
def kindOf (s : State) : Source → CallKind
  | .input i =>
    match inputKind s i with
    | .firePoint => .fire
    | .motion => .intrusion
    | _ => .help
  | .head _ => .fire
  | .leaf _ => .intrusion
  | _ => .fault

/-- A Motion source is asserted (R110). -/
def asserted (s : State) (i : Fin 6) : Bool :=
  inputKind s i == .motion && (s.calls.inputs.get i).active && s.control.posture == .night

/-- The slot holds an open call. -/
def Slot.isOpen (sl : Slot) : Bool := sl.state != .free

/-- Number of open calls (R124). -/
def openCalls (s : State) : Nat := s.calls.slots.toList.countP (·.isOpen)

/-- Repeat interval by the slot's state (R117). -/
def repeatInterval : SlotState → Nat
  | .taken _ => Config.takenRepeat
  | _ => Config.raisedRepeat

/-! ## Bulletin content (spec 11.2) -/

/-- The flags byte of a bulletin. -/
def bulletinFlags (s : State) : Byte :=
  byteOf (numberOf
    [s.hazard.blind, (dirtyHeads s.hazard).toList.any id, s.front.fault, s.lamp.sign.fault,
     s.lamp.chainA.fault, s.lamp.chainB.fault, s.peers.duplicate, s.loader.profileFault])

/-- The content of a bulletin captured now (R163, spec 11.2). -/
def captureBulletin (s : State) : Bulletin :=
  { hazard := s.hazard.zone
    flags := bulletinFlags s
    posture := s.control.posture
    base := s.control.base
    cost := byteOf (advertisedCost s.hazard.zone s.route)
    hops := byteOf (advertisedHops s)
    nextHop := advertisedHop s
    doors := s.doors.leaves.map shownClass
    openCalls := byteOf (openCalls s)
    levels := headLevels s.hazard
    headFaults := faultHeads s.hazard
    headDirty := dirtyHeads s.hazard
    manualFire := s.hazard.manualFire }

/-! ## Board (sections 7.2 and 7.3) -/

/-- Entries in display order: by rank, highest first, then by place in the list (R132). -/
def displayOrder (board : List BoardEntry) : List BoardEntry :=
  board.filter (·.kind == .fire) ++ board.filter (·.kind == .intrusion)
    ++ board.filter (·.kind == .fault) ++ board.filter (·.kind == .help)

/-- The entry is for that station and slot. -/
def BoardEntry.isFor (e : BoardEntry) (station : Station) (slot : Fin 8) : Bool :=
  e.station == station && e.slot == slot

/-- The default selection (R132). -/
def defaultSelection (board : List BoardEntry) : Option BoardEntry :=
  match (displayOrder board).find? (·.state == .raised) with
  | some e => some e
  | none => (displayOrder board).head?

/-- The selected entry (R132). -/
def selected (p : Post) : Option BoardEntry :=
  match p.held with
  | some (st, sl) =>
    match p.board.find? (·.isFor st sl) with
    | some e => some e
    | none => defaultSelection p.board
  | none => defaultSelection p.board

/-- A Raised entry of a kind is on the board (R134). -/
def anyRaised (board : List BoardEntry) (k : CallKind) : Bool :=
  board.any (fun e => e.kind == k && e.state == .raised)

/-- The continuous chime is demanded (R142). -/
def continuousChime (p : Post) : Bool := anyRaised p.board .fire || anyRaised p.board .intrusion

/-! ## Sound (R156) -/

/-- The sound that the first applying line of R156 gives. -/
def soundOf (s : State) : Sound :=
  if s.lamp.test.isSome then .steady
  else if s.control.posture = .evacuate ∧ s.control.hushed = false then .tone
  else if continuousChime s.post then .continuousChime
  else if s.post.helpChime.isSome then .helpChime
  else .off

/-! ## Chain drives (R144) -/

/-- The gap count that lights every module of the sign, and of a strip chain (R144). -/
def signAll : Nat := 8
def stripAll : Nat := 5

/-- What the sign chain carries (R144, R145, R157). -/
def signDrive (l : Lamp) : Drive := if l.test.isSome then ⟨signAll, 100⟩ else ⟨l.aspect.code, l.brightness⟩

/-- What a strip chain carries: `odd` is false for chain A, the even positions, and true for chain B
(R144, R149, R150, R151, R157). Absent is dark. -/
def stripDrive (odd : Bool) (l : Lamp) : Option Drive :=
  if l.test.isSome then some ⟨stripAll, 100⟩
  else
    match l.pattern with
    | .steady => some ⟨stripAll, l.brightness⟩
    | .flash => if l.flashOn then some ⟨stripAll, l.brightness⟩ else none
    | .chase =>
      if (l.position.val % 2 == 1) = odd then some ⟨l.position.val / 2 + 1, l.brightness⟩ else none

/-- Which strip chains are dark as the driver now stands (R144, R153, R157). -/
def stripShow (l : Lamp) : StripShow := ⟨(stripDrive false l).isNone, (stripDrive true l).isNone⟩

/-- The driver passes from one state to another; what the strip showed is kept where it changes. -/
def Lamp.turnedFrom (old new : Lamp) : Lamp :=
  if stripShow new = stripShow old then new else { new with turns := stripShow old :: old.turns }

/-- Which strip chains were dark that many changes ago; at most as far back as the scan's start. -/
def Lamp.showBefore (since : Nat) (l : Lamp) : StripShow :=
  (stripShow l :: l.turns).getD (min since l.turns.length) (stripShow l)

/-! ## Output pins -/

/-- LKn of a leaf (R82): fail-safe drives for lock, fail-secure for release. -/
def lockPin (lf : Leaf) : Bool :=
  match lf.role with
  | .configured c _ _ => Bool.xor lf.state.atLock c.failSecure
  | _ => false

/-- HMn of a leaf (R82). -/
def magnetPin (lf : Leaf) : Bool :=
  match lf.role with
  | .configured _ _ _ => lf.magnet
  | _ => false

/-- The relay is held closed: none of the causes of R174 holds. -/
def relayHealthy (s : State) : Bool :=
  loadComplete s && strapped s && !s.line.fault && !s.front.fault && !s.loader.profileFault && !s.peers.duplicate

/-- SND: the pattern's part in which it stands (R156). -/
def soundPin (l : Lamp) : Bool :=
  match l.sound with
  | .off => false
  | .steady => true
  | _ => l.soundOn

/-- A display of four like glyphs with dark points. -/
def plainDisplay (g : Glyph) : Four Position := Four.fill ⟨g, false⟩

/-- The display's content without blink and test (R133). -/
def contentDisplay (p : Post) : Four Position :=
  match selected p with
  | none => plainDisplay .dash
  | some e =>
    let n := e.station.val
    ⟨⟨if n < 10 then .dark else .digit (n / 10), e.state == .takenByMe⟩,
     ⟨.digit (n % 10), e.state == .takenByOther⟩,
     ⟨.letter e.kind, e.takePending⟩,
     ⟨.digit (min 9 (p.board.countP (·.state == .raised))), e.silentMark⟩⟩

/-- The four positions (R126, R133, R141). -/
def displayOf (s : State) : Four Position :=
  if s.post.role = false then plainDisplay .dark
  else if s.lamp.test.isSome then Four.fill ⟨.every, true⟩
  else
    match s.post.blink with
    | some b => if b.lit then plainDisplay .dash else plainDisplay .dark
    | none => contentDisplay s.post

/-- The six indicators (R126, R134, R141). -/
def indicatorsOf (s : State) : Six Bool :=
  if s.post.role = false then Six.fill false
  else if s.lamp.test.isSome then Six.fill true
  else
    ⟨anyRaised s.post.board .fire, anyRaised s.post.board .intrusion, anyRaised s.post.board .fault,
     anyRaised s.post.board .help, s.post.overflow, s.control.posture == .evacuate⟩

/-- Every output pin as the blocks' state gives it; none is driven off or held in reset (R176). -/
def outputsOf (s : State) : Outputs :=
  if s.power = .running then
    { locks := s.doors.leaves.map lockPin
      magnets := s.doors.leaves.map magnetPin
      relay := relayHealthy s
      sounder := soundPin s.lamp
      display := displayOf s
      indicators := indicatorsOf s }
  else Outputs.undriven

end Sys2Proof.Machine
end

