-- ==== Sys2Proof/Machine/Ops.lean ====
section
/-! DEFINITION. The operations the blocks share: counting, the transmit queue (R163, R164, R166), the
start of frames and triggers (R167, R171), the hand-overs to the lamp and sounder driver
(R146 to R151, R156), and the two ways a command ends. -/

namespace Sys2Proof.Machine

/-! ## Counters (R187) -/

def countInvalidScan (s : State) : State :=
  s.setCounters { s.counters with invalidScan := satInc s.counters.invalidScan }
def countDuplicate (s : State) : State :=
  s.setCounters { s.counters with duplicate := satInc s.counters.duplicate }
def countOverflow (s : State) : State :=
  s.setCounters { s.counters with overflow := satInc s.counters.overflow }
def countCorrected (s : State) : State :=
  s.setCounters { s.counters with correctedHeader := satInc s.counters.correctedHeader }
def countDiscardedHeader (s : State) : State :=
  s.setCounters { s.counters with discardedHeader := satInc s.counters.discardedHeader }
def countDiscardedFrame (s : State) : State :=
  s.setCounters { s.counters with discardedFrame := satInc s.counters.discardedFrame }
def countRefused (s : State) : State :=
  s.setCounters { s.counters with refusedFrames := satInc s.counters.refusedFrames }
def countArbitrationLost (s : State) : State :=
  s.setCounters { s.counters with arbitrationLost := satInc s.counters.arbitrationLost }
def countBitError (s : State) : State :=
  s.setCounters { s.counters with bitError := satInc s.counters.bitError }
def countAborted (s : State) : State :=
  s.setCounters { s.counters with abortedByBreak := satInc s.counters.abortedByBreak }
def countStuck (s : State) : State :=
  s.setCounters { s.counters with stuckLine := satInc s.counters.stuckLine }

/-! ## The transmit queue (R163, R164, R166) -/

/-- The bulletin and fire bulletin kinds, of which the queue holds at most one. -/
def Frame.isBulletin : Frame → Bool
  | .bulletin _ _ _ => true
  | _ => false

/-- The notice of a call slot, of which the queue holds at most one for each slot. -/
def Frame.isNoticeOf (i : Fin 8) : Frame → Bool
  | .notice _ n => n.slot == i
  | _ => false

/-- The kinds that a full queue refuses and that it evicts (R164). -/
def Frame.refusable : Frame → Bool
  | .order _ | .take _ _ _ | .cancel _ _ _ | .answer _ _ => true
  | _ => false

/-- Sending order: by kind value, then by place time (R163). -/
def QueueEntry.before (a b : QueueEntry) : Bool :=
  a.frame.kindValue < b.frame.kindValue || (a.frame.kindValue == b.frame.kindValue && a.place < b.place)

/-- An entry placed into a queue that is in sending order. -/
def insertEntry (e : QueueEntry) : List QueueEntry → List QueueEntry
  | [] => [e]
  | f :: rest => if e.before f then e :: f :: rest else f :: insertEntry e rest

/-- The refusable entry with the latest place time that is not in flight (R164). -/
def evictable (q : List QueueEntry) : Option QueueEntry :=
  q.foldl
    (fun best e =>
      if e.frame.refusable && !e.inFlight then
        match best with
        | some b => if b.place < e.place then some e else some b
        | none => some e
      else best)
    none

/-- A new entry at its place, in a queue that has room. -/
def placeNew (f : Frame) (s : State) : State :=
  s.setLine
    { s.line with
      queue := insertEntry { frame := f, place := s.line.placed, inFlight := false } s.line.queue
      placed := s.line.placed + 1 }

/-- A bulletin or a call notice is queued (R163, R164): it replaces the entry of its like, keeping the
place time and ending its flight; else it takes a new place, for which a full queue evicts. -/
def queueReplacing (like : Frame → Bool) (f : Frame) (s : State) : State :=
  match s.line.queue.find? (fun e => like e.frame) with
  | some e =>
    s.setLine
      { s.line with
        queue := insertEntry { frame := f, place := e.place, inFlight := false }
          (s.line.queue.filter (fun e => !like e.frame)) }
  | none =>
    if s.line.queue.length < Config.queueLimit then placeNew f s
    else
      match evictable s.line.queue with
      | some victim =>
        placeNew f (countRefused
          (s.setLine { s.line with queue := s.line.queue.filter (fun e => e.place != victim.place) }))
      | none => s

/-- A bulletin is queued with its content captured now (R163, R166). -/
def queueBulletin (s : State) : State :=
  let count := s.line.bulletins + 1
  queueReplacing Frame.isBulletin (.bulletin (s.hazard.zone == .fire) count (captureBulletin s))
    (s.setLine { s.line with bulletins := count })

/-- A call notice is queued with the given content (R163). -/
def queueNotice (count : Byte) (n : Notice) (s : State) : State :=
  queueReplacing (Frame.isNoticeOf n.slot) (.notice count n) s

/-- The queue has no room for a refusable frame (R164). -/
def queueFull (s : State) : Bool := !decide (s.line.queue.length < Config.queueLimit)

/-- A posture order, take, cancel or survey answer is offered: queued, or refused and counted (R164). -/
def offerFrame (f : Frame) (s : State) : State :=
  if queueFull s then countRefused s else placeNew f s

/-! ## Starting frames and triggers (R167, R171) -/

/-- The receiver sees the station's own first dominant bit: it leaves Quiet for Frame (R160). -/
def Receiver.ownStart : Receiver → Receiver
  | .quiet => .frame
  | r => r

/-- An Alert request is handed to the line port (R33, R171). -/
def requestAlert (s : State) : State := s.setLine { s.line with alertHeld := true }

/-- The own trigger under way leaves room for an Alert: none is, or a Hush whose code byte has not ended, as
it has once the receiver is in Discard (R171, log entry 47). -/
def alertMayCross (l : LinePort) : Bool :=
  match l.driving with
  | none => true
  | some .hush => l.receiver != .discard
  | some .alert => false

/-- A held Alert can be driven now: it is not under way, and no other trigger's code byte is awaited or its own
Hush's end still to be told (R171, log entry 47). -/
def alertStarts (l : LinePort) : Bool :=
  l.alertHeld && alertMayCross l && l.receiver != .brk && l.receiver != .codeWait

/-- The Alert is driven, at once and even across a frame (R171). -/
def startAlert (s : State) : State :=
  s.setLine { s.line with driving := some .alert, receiver := s.line.receiver.ownStart }

/-- The line is Idle and the station drives nothing on it. -/
def lineFree (l : LinePort) : Bool := l.driving == none && l.onLine == none && l.receiver == .quiet

/-- The station may send frames and has one to send (R167). -/
def hasToSend (s : State) : Bool := strapped s && loadComplete s && !s.line.queue.isEmpty

/-- The head entry is started and is in flight (R163, R167). -/
def startHead (s : State) : State :=
  match s.line.queue with
  | e :: rest =>
    s.setLine
      { s.line with
        queue := { e with inFlight := true } :: rest, onLine := some e.frame, receiver := .frame }
  | [] => s

/-- The head entry is started on a line that has been Idle since an earlier event, unless another
station's start bit was seen first: then the receiver is in Frame and the station waits for the next Idle
(R160, R167; log entry 8). -/
def startHeadUnlessTaken (s : State) : State :=
  match s.line.startBits with
  | true :: rest => s.setLine { s.line with receiver := .frame, startBits := rest }
  | false :: rest => startHead (s.setLine { s.line with startBits := rest })
  | [] => startHead s

/-- What the line port starts when a command's work is done: a held Alert at once; on an Idle line the head
entry. Nothing is driven while the line fault holds (R167, R171, R173). -/
def startSending (s : State) : State :=
  if s.line.fault then s
  else if alertStarts s.line then startAlert s
  else if lineFree s.line && hasToSend s then startHeadUnlessTaken s
  else s

/-- What the line port starts when the line comes Idle: a held Alert; else a pending Hush; else the head
entry (R167, R171, R173). -/
def startAtIdle (s : State) : State :=
  if s.line.fault then s
  else if alertStarts s.line then startAlert s
  else if lineFree s.line then
    if s.line.hushPending then s.setLine { s.line with driving := some .hush, receiver := .frame }
    else if hasToSend s then startHead s
    else s
  else s

/-! ## Frames of other stations (R160, R161) -/

/-- The receiver is taking bytes that are not the station's own: a start bit after Idle has come, or may
have come, for it has no command of its own (R160, log entry 8). -/
def receiving (s : State) : Bool :=
  (s.line.receiver == .quiet || s.line.receiver == .frame) && s.line.onLine.isNone

/-- A frame is cut while it is received: a header corrected after its fifth byte has been counted (R161,
R184). -/
def countCut (wire : List Byte) (s : State) : State :=
  if receiving s && cutCorrected wire then countCorrected s else s

/-! ## The lamp and sounder driver's hand-overs -/

/-- Brightness share by posture (R145). -/
def brightnessOf : Posture → Nat
  | .night => 10
  | .evacuate => 100
  | _ => 60

/-- The fixed fields of the entry a next hop names. -/
def hopEntry (s : State) : Option Adjacency :=
  match s.route.next with
  | .entry j => (s.peers.entries[j.val]?).map (·.fixed)
  | _ => none

/-- The aspect that the next hop gives; absent at None (R146, R147). -/
def hopAspect (s : State) : Option Aspect :=
  match s.route.next with
  | .exit => some .exit
  | _ => (hopEntry s).map (·.aspect)

/-- The sign's aspect re-derived (R146, R147). In Evacuate a next hop of None gives Danger; elsewhere it
keeps the aspect. A shown next hop and Evacuate both clear the placeholder mark. -/
def deriveAspect (s : State) (l : Lamp) : Lamp :=
  match hopAspect s with
  | some a => { l with aspect := a, placeholder := false }
  | none => if s.control.posture = .evacuate then { l with aspect := .danger, placeholder := false } else l

/-- Chase start position (R150). -/
def chaseStart : Direction → Fin 8
  | .forward => 0
  | .backward => 7

/-- The strip enters or keeps a chase (R150): a running chase in the same direction goes on. -/
def chase (d : Direction) (l : Lamp) : Lamp :=
  if l.pattern = .chase ∧ l.direction = d then l
  else { l with pattern := .chase, direction := d, position := chaseStart d }

/-- The strip enters or keeps Flash, beginning in its on phase (R151). -/
def flash (l : Lamp) : Lamp :=
  if l.pattern = .flash then l else { l with pattern := .flash, flashOn := true }

/-- The strip pattern chosen from posture and next hop (R149). -/
def derivePattern (s : State) (l : Lamp) : Lamp :=
  if s.control.posture = .evacuate then
    match s.route.next with
    | .exit => chase .forward l
    | .entry _ =>
      match hopEntry s with
      | some a => (match a.strip with | some d => chase d l | none => { l with pattern := .steady })
      | none => flash l
    | .none => flash l
  else { l with pattern := .steady }

/-- The driver passes to a new state (R153, log entry 19 for what it keeps of the old one). -/
def State.turnLamp (s : State) (l : Lamp) : State := s.setLamp (s.lamp.turnedFrom l)

/-- The driver takes a next hop or a posture change: aspect, then pattern (R146 to R149). -/
def deriveLamps (s : State) : State := s.turnLamp (derivePattern s (deriveAspect s s.lamp))

/-- The sounder pattern re-decided; a pattern that begins starts from its driven part (R156). -/
def decideSound (s : State) : State :=
  let sound := soundOf s
  if s.lamp.sound = sound then s
  else s.setLamp { s.lamp with sound := sound, soundOn := true }

/-! ## How a command ends -/

/-- The pins follow the blocks at once (R82, R105, R133, R134, R156, R174). -/
def showOutputs (s : State) : State := s.setOutputs (outputsOf s)

/-- The work of a command that the line port may answer: it starts what it can, then the pins follow. -/
def settle (s : State) : State := showOutputs (startSending s)

/-- The same for the command that says that the line has come Idle. -/
def settleAtIdle (s : State) : State := showOutputs (startAtIdle s)

/-- A command of a running station whose work may reach the line port. A station that is off or held in
reset takes no event (R176). -/
def whileRunning (work : State → State) (s : State) : Host.Outcome State Fault Refusal :=
  if s.power = .running then .next (settle (work s)) else .next s

/-- A command of a running station whose work stays clear of the line port. -/
def whileRunningLocal (work : State → State) (s : State) : Host.Outcome State Fault Refusal :=
  if s.power = .running then .next (showOutputs (work s)) else .next s

end Sys2Proof.Machine
end

