-- ==== Sys2Proof/Machine/Lamps.lean ====
section
/-! DEFINITION. The lamp and sounder driver's own times (chapter 8): the drive period, the chase step,
the flash phase, the cadence, and the end of a lamp test. -/

namespace Sys2Proof.Machine

/-- A period opens with the codes of the present state (R144). -/
def takePeriod (s : State) : State :=
  s.setLamp
    { s.lamp with
      driveSign := some (signDrive s.lamp)
      driveA := stripDrive false s.lamp
      driveB := stripDrive true s.lamp }

/-- DRIVE_PERIOD. -/
def execDrivePeriod (s : State) : Host.Outcome State Fault Refusal := whileRunningLocal takePeriod s

/-- The chase position one step on, with wrap (R150). -/
def chaseNext (d : Direction) (p : Fin 8) : Fin 8 :=
  match d with
  | .forward => p + 1
  | .backward => p - 1

/-- The step timer, which runs in Chase, expires (R150). -/
def takeChaseStep (s : State) : State :=
  if s.lamp.pattern = .chase then
    s.turnLamp { s.lamp with position := chaseNext s.lamp.direction s.lamp.position }
  else s

/-- CHASE_STEP_EXPIRY. -/
def execChaseStepExpiry (s : State) : Host.Outcome State Fault Refusal := whileRunningLocal takeChaseStep s

/-- The phase timer, which runs in Flash, expires (R151). -/
def takeFlashPhase (s : State) : State :=
  if s.lamp.pattern = .flash then s.turnLamp { s.lamp with flashOn := !s.lamp.flashOn } else s

/-- FLASH_PHASE_EXPIRY. -/
def execFlashPhaseExpiry (s : State) : Host.Outcome State Fault Refusal := whileRunningLocal takeFlashPhase s

/-- The sound has a cadence (R156). -/
def Sound.hasCadence : Sound → Bool
  | .tone | .continuousChime | .helpChime => true
  | .off | .steady => false

/-- The cadence turns between its parts (R156). -/
def takeCadence (s : State) : State :=
  if s.lamp.sound.hasCadence then s.setLamp { s.lamp with soundOn := !s.lamp.soundOn } else s

/-- SOUNDER_CADENCE_EXPIRY. -/
def execSounderCadenceExpiry (s : State) : Host.Outcome State Fault Refusal :=
  whileRunningLocal takeCadence s

/-- The lamp test's 3 s are over (R157). -/
def takeLampTestEnd (s : State) : State :=
  if due s.lamp.test Config.lampTestTime then decideSound (s.turnLamp { s.lamp with test := none }) else s

/-- LAMP_TEST_END. -/
def execLampTestEnd (s : State) : Host.Outcome State Fault Refusal := whileRunningLocal takeLampTestEnd s

end Sys2Proof.Machine
end

