-- ==== Sys2Proof/Machine/PostUnit.lean ====
section
/-! DEFINITION. The post unit (chapter 7): the board, the selection, the key panel and the chime
demands, and its commands. -/

namespace Sys2Proof.Machine

/-! ## The board (R127 to R131) -/

/-- The board takes new entries; the Overflow indicator goes out below 16 entries (R130), and a held
entry that left returns the selection to the default and stops the return timer (R132). -/
def setBoard (board : List BoardEntry) (s : State) : State :=
  let p := s.post
  let stays := match p.held with | some (st, sl) => board.any (·.isFor st sl) | none => true
  s.setPost
    { p with
      board := board
      overflow := p.overflow && !decide (board.length < Config.boardLimit)
      held := if stays then p.held else none
      returnTimer := if stays then p.returnTimer else none }

/-- The board state a Raised or Taken notice gives (R127). -/
def boardStateOf (own : Station) (n : Notice) : BoardState :=
  match n.state with
  | .taken => if n.taker = own then .takenByMe else .takenByOther
  | _ => .raised

/-- A new entry from a notice (R127). -/
def newBoardEntry (own source : Station) (kind : CallKind) (n : Notice) : BoardEntry :=
  { station := source, slot := n.slot, seq := n.seq, kind := kind, state := boardStateOf own n
    lastHeard := 0, silentMark := false, takePending := false }

/-- An entry updated in place by a notice of its call (R128). The entry's kind stands, also where the notice
shows another: the model's choice, log entry 48. -/
def BoardEntry.heard (own : Station) (n : Notice) (e : BoardEntry) : BoardEntry :=
  { e with state := boardStateOf own n, lastHeard := 0, silentMark := false, takePending := false }

/-- A Help entry that joins in Raised starts the Help chime (R142). -/
def startHelpChime (e : BoardEntry) (s : State) : State :=
  if e.kind = .help ∧ e.state = .raised then s.setPost { s.post with helpChime := some 0 } else s

/-- An entry that a newcomer of a rank may push out of a full board (R130). -/
def BoardEntry.yields (rank : Nat) (e : BoardEntry) : Bool :=
  e.state == .takenByOther || decide (e.kind.rank < rank)

/-- A full board takes a newcomer: the oldest entry that yields leaves, or the newcomer is dropped
(R130). -/
def joinFull (e : BoardEntry) (s : State) : State :=
  match s.post.board.find? (·.yields e.kind.rank) with
  | some old =>
    startHelpChime e (setBoard (s.post.board.filter (fun x => !x.isFor old.station old.slot) ++ [e]) s)
  | none => countOverflow (s.setPost { s.post with overflow := true })

/-- A Raised or Taken notice of a kind on the board (R127). -/
def boardTake (source : Station) (kind : CallKind) (n : Notice) (s : State) : State :=
  let own := s.loader.station
  let board := s.post.board
  let new := newBoardEntry own source kind n
  match board.find? (·.isFor source n.slot) with
  | some e =>
    if e.seq = n.seq then
      setBoard (board.map (fun x => if x.isFor source n.slot then x.heard own n else x)) s
    else startHelpChime new (setBoard (board.filter (fun x => !x.isFor source n.slot) ++ [new]) s)
  | none =>
    if board.length < Config.boardLimit then startHelpChime new (setBoard (board ++ [new]) s)
    else joinFull new s

/-- A Cleared notice removes the entry of its call (R129). -/
def boardClear (source : Station) (n : Notice) (s : State) : State :=
  setBoard (s.post.board.filter (fun e => !(e.isFor source n.slot && e.seq == n.seq))) s

/-- A call notice at the post unit, heard or completed as the post's own; the chime demand follows the
board (R126, R127, R129, R142). -/
def takeNotice (source : Station) (n : Notice) (s : State) : State :=
  if s.post.role = false ∨ source = 0 then s
  else
    match n.state, n.kind with
    | .cleared, _ => decideSound (boardClear source n s)
    | _, some kind => decideSound (boardTake source kind n s)
    | _, none => s

/-! ## Keys (R132, R135 to R141) -/

/-- A refusal blink starts, its dashes lit, or starts anew (R133). -/
def startBlink (s : State) : State := s.setPost { s.post with blink := some { elapsed := 0, lit := true } }

/-- The entry after the selected one in display order, wrapping (R132). -/
def entryAfter (board : List BoardEntry) (e : BoardEntry) : Option BoardEntry :=
  match (displayOrder board).dropWhile (fun x => !x.isFor e.station e.slot) with
  | _ :: next :: _ => some next
  | _ => (displayOrder board).head?

/-- Next (R132). On an empty board it selects nothing and starts the timer; the default stays in force while the
timer runs, so that an entry which arrives meanwhile is selected at once: the model's choice, log entry 51. -/
def nextKey (s : State) : State :=
  let next := (selected s.post).bind (entryAfter s.post.board)
  s.setPost { s.post with held := next.map (fun e => (e.station, e.slot)), returnTimer := some 0 }

/-- A frame asked of the line port: taken into the queue, or refused with the refusal blink (R164). -/
def askLine (f : Frame) (s : State) : State :=
  if queueFull s then startBlink (offerFrame f s) else offerFrame f s

/-- The slot number of an entry, as a frame carries it. -/
def wideSlot (i : Fin 8) : Fin 16 := ⟨i.val, by omega⟩

/-- The take-pending mark of the entry for a station and slot is set (R137). -/
def markPending (e : BoardEntry) (s : State) : State :=
  s.setPost
    { s.post with
      board := s.post.board.map (fun x => if x.isFor e.station e.slot then { x with takePending := true } else x) }

/-- Take (R137); an unstrapped post only blinks (R140). -/
def takeKey (s : State) : State :=
  match selected s.post with
  | some e =>
    if e.state = .raised ∧ strapped s = true then
      let f := Frame.take (byteOf e.station.val) (wideSlot e.slot) e.seq
      if queueFull s then askLine f s else markPending e (askLine f s)
    else startBlink s
  | none => startBlink s

/-- A Silent entry that is cancelled leaves the board at once (R138). -/
def removeSilent (e : BoardEntry) (s : State) : State :=
  if e.silentMark then
    decideSound (setBoard (s.post.board.filter (fun x => !x.isFor e.station e.slot)) s)
  else s

/-- Cancel (R138); an unstrapped post asks nothing of the line port and blinks (R140). -/
def cancelKey (s : State) : State :=
  match selected s.post with
  | some e =>
    removeSilent e
      (if strapped s then askLine (.cancel (byteOf e.station.val) (wideSlot e.slot) e.seq) s else startBlink s)
  | none => startBlink s

/-- A command key acts with authority and at a strapped post; else it blinks (R136, R140). -/
def commandKey (act : State → State) (s : State) : State :=
  if s.post.authOn && strapped s then act s else startBlink s

/-- Hush asks for a Hush trigger, which is driven when the line next comes Idle (R140, R171). -/
def hushKey (s : State) : State := commandKey (fun s => s.setLine { s.line with hushPending := true }) s

/-- Day, Night and Restore ask for a posture order (R139). -/
def orderKey (o : Order) (s : State) : State := commandKey (askLine (.order o)) s

/-- Test starts or restarts the lamp test (R141, R157). -/
def testKey (s : State) : State := decideSound (s.turnLamp { s.lamp with test := some 0 })

/-- What an accepted key does (R135). -/
def keyAct : Key → State → State
  | .take => takeKey
  | .next => nextKey
  | .cancel => cancelKey
  | .hush => hushKey
  | .day => orderKey .day
  | .night => orderKey .night
  | .restore => orderKey .restore
  | .test => testKey
  | .unused => id

/-- A key is accepted: it ends a running blink, restarts a running return timer, then acts (R132,
R133). -/
def acceptKey (k : Key) (s : State) : State :=
  keyAct k (s.setPost { s.post with blink := none, returnTimer := s.post.returnTimer.map (fun _ => 0) })

/-- The nine keys in the order of the matrix (R135). -/
def allKeys : List Key := allCrossings.map keyAt

/-- A set of keys in the order of the matrix, each once. -/
def inMatrixOrder (keys : List Key) : List Key := allKeys.filter keys.contains

/-- The panel when a key goes down (R135). -/
def Panel.down (k : Key) : Panel → Panel
  | .ready => .held k
  | .held _ => .locked
  | .locked => .locked

/-- The panel state a fresh reading of the keys gives (R135). -/
def freshPanel (down : List Key) : Panel := if down = [] then .ready else .locked

/-- A key becomes debounced down. The panel follows it once the post role has begun (R126, R135). -/
def takeKeyDown (k : Key) (s : State) : State :=
  if s.post.down.contains k then s
  else
    s.setPost
      { s.post with
        down := inMatrixOrder (k :: s.post.down)
        panel := if s.post.role then s.post.panel.down k else s.post.panel }

/-- A key becomes debounced up (R135). -/
def takeKeyUp (k : Key) (s : State) : State :=
  if s.post.down.contains k then
    let down := s.post.down.filter (· != k)
    let s := s.setPost { s.post with down := down }
    if s.post.role then
      match s.post.panel with
      | .ready => s
      | .held held =>
        if held = k then acceptKey k (s.setPost { s.post with panel := .ready }) else s
      | .locked => if down = [] then s.setPost { s.post with panel := .ready } else s
    else s
  else s

/-- The post role begins (R126, R135, R143). -/
def beginRole (s : State) : State :=
  s.setPost { s.post with role := true, panel := freshPanel s.post.down }

/-! ## Commands -/

/-- KEY_DOWN of the key at a crossing. -/
def execKeyDown (x : Crossing) (s : State) : Host.Outcome State Fault Refusal :=
  whileRunningLocal (takeKeyDown (keyAt x)) s

/-- KEY_UP of the key at a crossing. -/
def execKeyUp (x : Crossing) (s : State) : Host.Outcome State Fault Refusal :=
  whileRunning (takeKeyUp (keyAt x)) s

/-- The authority input takes a new debounced level, with no effect of its own (R136). -/
def takeAuth (on : Bool) (s : State) : State := s.setPost { s.post with authOn := on }

/-- AUTH_CHANGE. -/
def execAuthChange (on : Bool) (s : State) : Host.Outcome State Fault Refusal :=
  whileRunningLocal (takeAuth on) s

/-- The return timer runs out: the selection is the default again (R132). -/
def takeReturnExpiry (s : State) : State :=
  if due s.post.returnTimer Config.returnTime then
    s.setPost { s.post with held := none, returnTimer := none }
  else s

/-- RETURN_TIMER_EXPIRY. -/
def execReturnTimerExpiry (s : State) : Host.Outcome State Fault Refusal :=
  whileRunningLocal takeReturnExpiry s

/-- An entry whose last-heard time has reached 90 s takes its Silent mark (R131). -/
def BoardEntry.fallSilent (e : BoardEntry) : BoardEntry :=
  if Config.silentTime ≤ e.lastHeard then { e with silentMark := true } else e

/-- The entry for a station and slot falls Silent, if it is due (R131). -/
def takeSilent (station : Station) (slot : Fin 8) (s : State) : State :=
  s.setPost
    { s.post with
      board := s.post.board.map (fun e => if e.isFor station slot then e.fallSilent else e) }

/-- SILENT. -/
def execSilent (station : Station) (slot : Fin 8) (s : State) : Host.Outcome State Fault Refusal :=
  whileRunningLocal (takeSilent station slot) s

/-- The blink's phase turns (R133). -/
def takeBlinkPhase (s : State) : State :=
  s.setPost { s.post with blink := s.post.blink.map (fun b => { b with lit := !b.lit }) }

/-- REFUSAL_BLINK_PHASE. -/
def execRefusalBlinkPhase (s : State) : Host.Outcome State Fault Refusal :=
  whileRunningLocal takeBlinkPhase s

/-- The blink's 2 s are over (R133). -/
def takeBlinkEnd (s : State) : State :=
  if due (s.post.blink.map (·.elapsed)) Config.blinkTime then s.setPost { s.post with blink := none } else s

/-- REFUSAL_BLINK_END. -/
def execRefusalBlinkEnd (s : State) : Host.Outcome State Fault Refusal := whileRunningLocal takeBlinkEnd s

/-- The Help chime's 2 s are over (R142). -/
def takeHelpChimeEnd (s : State) : State :=
  if due s.post.helpChime Config.helpChimeTime then decideSound (s.setPost { s.post with helpChime := none })
  else s

/-- HELP_CHIME_END. -/
def execHelpChimeEnd (s : State) : Host.Outcome State Fault Refusal := whileRunningLocal takeHelpChimeEnd s

end Sys2Proof.Machine
end

