-- ==== Sys2Proof/Machine/Calls.lean ====
section
/-! DEFINITION. The call unit (chapter 6): requests, slots, eviction, pending sources, closing, takes
and cancels, and its commands. -/

namespace Sys2Proof.Machine

def State.setSlot (s : State) (i : Fin 8) (sl : Slot) : State :=
  s.setCalls { s.calls with slots := s.calls.slots.set i sl }

def State.setInput (s : State) (i : Fin 6) (x : Input) : State :=
  s.setCalls { s.calls with inputs := s.calls.inputs.set i x }

/-! ## Notices (R116, R117, R166) -/

/-- The notice of an open call's present content (R116). -/
def openNotice (i : Fin 8) (sl : Slot) : Notice :=
  { slot := i, seq := sl.seq, kind := sl.kind
    state := match sl.state with | .taken _ => .taken | _ => .raised
    taker := match sl.state with | .taken t => t | _ => 0
    source := sl.source
    age := BitVec.ofNat 16 sl.age }

/-- The Cleared notice of a call that was open in the slot (R116). -/
def clearedNotice (i : Fin 8) (sl : Slot) : Notice :=
  { slot := i, seq := sl.seq, kind := sl.kind, state := .cleared
    taker := match sl.state with | .taken t => t | _ => 0
    source := sl.source, age := 0 }

/-- A notice of the slot's open call is queued and its repeat timer restarts (R116, R117). -/
def announce (i : Fin 8) (s : State) : State :=
  let sl := s.calls.slots.get i
  queueNotice (sl.notices + 1) (openNotice i sl)
    (s.setSlot i { sl with notices := sl.notices + 1, repeatTimer := some 0 })

/-! ## Raising (R106, R112, R113, R114) -/

/-- The source has a call: an open slot names it, or it is pending (R106). -/
def hasCall (s : State) (src : Source) : Bool :=
  s.calls.slots.toList.any (fun sl => sl.isOpen && sl.source == some src) || s.calls.pending.contains src

/-- The lowest-numbered Free slot (R112). -/
def freeSlot (s : State) : Option (Fin 8) := allEight.find? (fun i => (s.calls.slots.get i).state == .free)

/-- A slot that holds a Taken call of lower rank than the new call's (R113). -/
def outranked (rank : Nat) (sl : Slot) : Bool :=
  match sl.state with
  | .taken _ => decide (kindCode sl.kind < rank)
  | _ => false

/-- The oldest Taken call of lower rank; between equal ages the lower slot (R113). -/
def evictedSlot (s : State) (rank : Nat) : Option (Fin 8) :=
  allEight.foldl
    (fun best i =>
      if outranked rank (s.calls.slots.get i) then
        match best with
        | some b => if (s.calls.slots.get b).age < (s.calls.slots.get i).age then some i else some b
        | none => some i
      else best)
    none

/-- A new call set up in a slot and announced (R112). -/
def raiseInto (i : Fin 8) (src : Source) (s : State) : State :=
  announce i
    (s.setSlot i
      { seq := (s.calls.slots.get i).seq + 1, state := .raised, kind := some (kindOf s src), source := some src
        age := 0, repeatTimer := none, notices := 0 })

/-- The source's pending flag is set (R114). -/
def setPendingFlag (src : Source) (s : State) : State :=
  if s.calls.pending.contains src then s
  else s.setCalls { s.calls with pending := s.calls.pending ++ [src] }

/-- An evicted source that is an asserted Motion source becomes pending (R113). -/
def pendIfAsserted (src : Option Source) (s : State) : State :=
  match src with
  | some (.input i) => if asserted s i then setPendingFlag (.input i) s else s
  | _ => s

/-- The Cleared notice of an open call that leaves its slot (R113, R115), counted with the slot's other
notices (R166). -/
def queueCleared (i : Fin 8) (s : State) : State :=
  let sl := s.calls.slots.get i
  queueNotice (sl.notices + 1) (clearedNotice i sl) s

/-- A call of a source that has none is raised, evicts, or waits (R112, R113, R114). -/
def raiseCall (src : Source) (s : State) : State :=
  match freeSlot s with
  | some i => raiseInto i src s
  | none =>
    match evictedSlot s (kindOf s src).rank with
    | some i => raiseInto i src (pendIfAsserted (s.calls.slots.get i).source (queueCleared i s))
    | none => setPendingFlag src s

/-- A request from a source (R106). -/
def requestCall (src : Source) (s : State) : State := if hasCall s src then s else raiseCall src s

/-- Each Motion source that is asserted requests (R110). They go ascending: the model's choice, log entry
46. -/
def requestMotion (s : State) : State :=
  allSix.foldl (fun s i => if asserted s i then requestCall (.input i) s else s) s

/-! ## Closing (R115) -/

/-- The pending source of highest rank, the earliest between equal ranks (R114). -/
def topPending (s : State) : Option Source :=
  s.calls.pending.foldl
    (fun best src =>
      match best with
      | some b => if (kindOf s b).rank < (kindOf s src).rank then some src else some b
      | none => some src)
    none

/-- Pending sources are served into Free slots until either runs out (R114); the slots number eight. -/
def servePending : Nat → State → State
  | 0, s => s
  | n + 1, s =>
    match freeSlot s, topPending s with
    | some i, some src =>
      servePending n
        (raiseInto i src (s.setCalls { s.calls with pending := s.calls.pending.filter (· != src) }))
    | _, _ => s

/-- One open call's slot becomes Free and its Cleared notice is queued (R115). -/
def closeSlot (i : Fin 8) (s : State) : State :=
  let sl := s.calls.slots.get i
  queueCleared i s |>.setSlot i { sl with state := .free, age := 0, repeatTimer := none }

/-- Every open call of the slots that `which` names is closed (R115). They go in slot order: the model's
choice, log entry 46. -/
def closeSlots (which : Slot → Bool) (s : State) : State :=
  allEight.foldl
    (fun s i =>
      let sl := s.calls.slots.get i
      if sl.isOpen && which sl then closeSlot i s else s)
    s

/-- What follows when every call of the event is closed: pending sources, then Motion (R115). -/
def afterClosing (s : State) : State := requestMotion (servePending 8 s)

/-- The pending flags of the kinds that `which` names are cleared (R122, R123). -/
def dropPending (which : CallKind → Bool) (s : State) : State :=
  s.setCalls { s.calls with pending := s.calls.pending.filter (fun src => !which (kindOf s src)) }

/-- The gallery reset clears every call but Fire (R122). -/
def clearGallery (s : State) : State :=
  afterClosing (dropPending (· != .fire) (closeSlots (fun sl => sl.kind != some .fire) s))

/-- An accepted Restore closes every Fire call (R123). -/
def closeFireCalls (s : State) : State :=
  afterClosing (dropPending (· == .fire) (closeSlots (fun sl => sl.kind == some .fire) s))

/-! ## Takes and cancels (R118 to R121) -/

/-- A notice for the slot's present call waits in the queue (R120). -/
def currentNoticeWaits (i : Fin 8) (s : State) : Bool :=
  s.line.queue.any (fun e =>
    match e.frame with
    | .notice _ n => n.slot == i && n.seq == (s.calls.slots.get i).seq && n.state != .cleared
    | _ => false)

/-- The too-late answer to a frame that names a slot and sequence number (R120). It carries 0 (R166) and is
not counted among the notices of the slot's present call: the model's choice, log entry 15. -/
def answerTooLate (i : Fin 8) (seq : Fin 16) (s : State) : State :=
  let sl := s.calls.slots.get i
  if sl.isOpen && currentNoticeWaits i s then s
  else
    let known := !sl.isOpen && sl.seq == seq
    queueNotice 0
      { slot := i, seq := seq, kind := if known then sl.kind else none, state := .cleared, taker := 0
        source := if known then sl.source else none, age := 0 } s

/-- A take judged against its slot (R119). -/
def judgeTake (sender : Station) (i : Fin 8) (seq : Fin 16) (s : State) : State :=
  let sl := s.calls.slots.get i
  if sl.seq = seq then
    match sl.state with
    | .raised => announce i (s.setSlot i { sl with state := .taken sender })
    | .taken _ => announce i s
    | .free => answerTooLate i seq s
  else answerTooLate i seq s

/-- A cancel of an open call that it names is accepted (R121). -/
def cancelAccepted (sender : Station) (zone : Level) (sl : Slot) : Bool :=
  !(sl.kind == some .fire && zone == .fire) &&
    match sl.state with
    | .raised => true
    | .taken t => t == sender
    | .free => false

/-- A cancel judged against its slot (R121). -/
def judgeCancel (sender : Station) (i : Fin 8) (seq : Fin 16) (s : State) : State :=
  let sl := s.calls.slots.get i
  if sl.isOpen && sl.seq == seq then
    if cancelAccepted sender s.hazard.zone sl then afterClosing (closeSlot i s) else announce i s
  else answerTooLate i seq s

/-- A frame's slot and sender that the call unit takes; a slot from 8 to 15 and a source of 0 are
disregarded (R118). -/
def callFrame (judge : Station → Fin 8 → Fin 16 → State → State) (sender : Station) (slot seq : Fin 16)
    (s : State) : State :=
  match slotOf slot.val with
  | some i => if sender = 0 then s else judge sender i seq s
  | none => s

/-! ## Commands -/

/-- A call input takes a new debounced level (R107, R108, R110). -/
def takeInputChange (i : Fin 6) (active : Bool) (s : State) : State :=
  let x := s.calls.inputs.get i
  if x.active = active then s
  else
    let s := s.setInput i { x with active := active }
    if !loadComplete s then
      if active then s.setInput i { active := true, pressed := true } else s
    else
      match inputKind s i with
      | .helpPoint | .firePoint => if active then s.setInput i { active := true, pressed := true } else s
      | .motion => if asserted s i then requestCall (.input i) s else s
      | .unconfigured => s

/-- CALL_INPUT_CHANGE. -/
def execCallInputChange (i : Fin 6) (active : Bool) (s : State) : Host.Outcome State Fault Refusal :=
  whileRunning (takeInputChange i active) s

/-- A latched Help point press is taken: the latch clears and the source requests (R108). -/
def takeHelpPress (i : Fin 6) (s : State) : State :=
  let x := s.calls.inputs.get i
  if x.pressed && inputKind s i == .helpPoint then
    requestCall (.input i) (s.setInput i { x with pressed := false })
  else s

/-- HELP_POINT_PRESS. -/
def execHelpPointPress (i : Fin 6) (s : State) : Host.Outcome State Fault Refusal :=
  whileRunning (takeHelpPress i) s

/-- A slot's repeat timer runs out: a notice with the present content, and the timer restarts (R117). -/
def takeRepeat (i : Fin 8) (s : State) : State :=
  let sl := s.calls.slots.get i
  if sl.isOpen && due sl.repeatTimer (repeatInterval sl.state) then announce i s else s

/-- REPEAT_TIMER_EXPIRY. -/
def execRepeatTimerExpiry (i : Fin 8) (s : State) : Host.Outcome State Fault Refusal :=
  whileRunning (takeRepeat i) s

/-- The gallery reset key takes a new level; turning on clears calls (R122). -/
def takeGalleryKey (on : Bool) (s : State) : State :=
  if s.calls.grsOn = on then s
  else
    let s := s.setCalls { s.calls with grsOn := on }
    if on then clearGallery s else s

/-- GALLERY_RESET. -/
def execGalleryReset (on : Bool) (s : State) : Host.Outcome State Fault Refusal :=
  whileRunning (takeGalleryKey on) s

end Sys2Proof.Machine
end

