-- ==== Sys2Proof/Machine/Route.lean ====
section
/-! DEFINITION. The route unit (chapter 4): penalties, candidates, choice, and the hand-overs that end
a computation. -/

namespace Sys2Proof.Machine

/-- The passage class an entry yields: absent for "no passage door" (R45, R64). -/
def passageClass (leaves : Four Leaf) (door : PassageDoor) (heard : Heard) : Option DoorClass :=
  match door with
  | .absent => none
  | .own n => shownClass (leaves.get n)
  | .neighbour n => heard.doors.get n

/-- Status term of the penalty; absent is blocked (R63). -/
def statusTerm : EntryStatus → Option Nat
  | .current => some 0
  | .stale => some 8
  | .unheard | .lost => none

/-- Neighbour hazard term (R63). -/
def hazardTerm : Level → Option Nat
  | .clear => some 0
  | .watch => some 4
  | .prealarm => some 16
  | .fire => none

/-- Passage door term (R63, R64). -/
def doorTerm : Option DoorClass → Option Nat
  | none => some 0
  | some .usable => some 0
  | some .slow => some 2
  | some .blocked => none

/-- The penalty for using an entry's neighbour; absent is blocked (R63). -/
def penalty (leaves : Four Leaf) (e : Entry) : Option Nat := do
  let status ← statusTerm e.status
  let heard ← e.heard
  let hazard ← hazardTerm heard.hazard
  let door ← doorTerm (passageClass leaves e.fixed.door heard)
  some (status + hazard + (if heard.blind then 8 else 0) + door)

/-- A way out that does not lead out (R59). -/
def noWay : Candidate := ⟨Config.noRoute, 0⟩

/-- A candidate of a cost and hops, saturating at 255 (R65). -/
def candidateOf (cost hops : Nat) : Candidate := if cost < Config.noRoute then ⟨cost, hops⟩ else noWay

/-- The neighbour names this station as its next hop (R66). -/
def poisoned (own : Station) (h : Heard) : Bool :=
  match h.nextHop with
  | .station n => n == own
  | _ => false

/-- The candidate via an entry's neighbour (R65). -/
def entryCandidate (own : Station) (leaves : Four Leaf) (e : Entry) : Candidate :=
  match penalty leaves e, e.heard with
  | some p, some h =>
    if h.cost = Config.noRoute ∨ poisoned own h ∨ h.hops = Config.hopCeiling then noWay
    else candidateOf (h.cost + e.fixed.weight + p) (h.hops + 1)
  | _, _ => noWay

/-- The exit candidate (R68). -/
def exitCandidate (weight : Nat) (leaf : Option Leaf) : Candidate :=
  if weight = 0 then noWay
  else
    match leaf.bind shownClass with
    | some .blocked => noWay
    | some .slow => ⟨weight + 2, 0⟩
    | _ => ⟨weight, 0⟩

/-- The exit candidate as the station stands. -/
def viaExit (s : State) : Candidate :=
  exitCandidate (exitWeight s) ((exitLeaf s).map (fun n => s.doors.leaves.get n))

/-- The candidate via entry `j`, cost 255 for an index beyond the last (R59). -/
def viaEntry (s : State) (j : Fin 8) : Candidate :=
  match s.peers.entries[j.val]? with
  | some e => entryCandidate s.loader.station s.doors.leaves e
  | none => noWay

/-- The candidates in the tie order of R70: the exit, then the entries. -/
def ways (exit : Candidate) (entries : Eight Candidate) : List (NextHop × Candidate) :=
  (.exit, exit) :: allEight.map (fun j => (.entry j, entries.get j))

/-- The best candidate: the lowest cost, the first in tie order between equals (R70). -/
def bestWay (exit : Candidate) (entries : Eight Candidate) : NextHop × Candidate :=
  (ways exit entries).foldl (fun best w => if w.2.cost < best.2.cost then w else best) (.exit, exit)

/-- The candidate of a next hop in a candidate list (R71). -/
def candidateVia (exit : Candidate) (entries : Eight Candidate) : NextHop → Candidate
  | .none => noWay
  | .exit => exit
  | .entry j => entries.get j

/-- The route record after a computation that finds the given candidates with the given next hop held
(R71, R72, R73). -/
def chooseRoute (held : NextHop) (exit : Candidate) (entries : Eight Candidate) : RouteRecord :=
  let now := candidateVia exit entries held
  let best := bestWay exit entries
  let made := fun (hop : NextHop) (c : Candidate) =>
    { cost := c.cost, hops := c.hops, next := hop, viaExit := exit, viaEntry := entries : RouteRecord }
  if now.cost = Config.noRoute then
    if best.2.cost < Config.noRoute then made best.1 best.2 else made .none noWay
  else if best.2.cost + Config.switchMargin < now.cost then made best.1 best.2
  else made held now

/-- The route record as the station's inputs now give it (R60). -/
def routeOf (s : State) : RouteRecord :=
  chooseRoute s.route.next (viaExit s) (Eight.tabulate (viaEntry s))

/-- One whole computation with its hand-overs (R60, R76, R77); `advertisedBefore` is the advertised cost
before the event that started it. -/
def computeRouteFrom (advertisedBefore : Nat) (s : State) : State :=
  let old := s.route
  let new := routeOf s
  let s := s.setRoute new
  let s := if new.next = old.next then s else deriveLamps s
  if new.cost = old.cost ∧ new.hops = old.hops ∧ new.next = old.next
      ∧ advertisedCost s.hazard.zone new = advertisedBefore then s
  else queueBulletin s

/-- A computation started by an event that leaves the zone hazard alone. -/
def computeRoute (s : State) : State := computeRouteFrom (advertisedCost s.hazard.zone s.route) s

end Sys2Proof.Machine
end

