-- ==== Sys2Proof/Machine/Doors.lean ====
section
/-! DEFINITION. The door unit (chapter 5): the leaf state machine, passes, prop timers, hold magnets,
and its commands. -/

namespace Sys2Proof.Machine

/-! ## One leaf -/

/-- A leaf's door is shut and it comes to rest by its lock demand and bolt contact (R85 with R86, R88,
R100): L true goes to Securing, or on to Secured where the bolt is thrown; L false goes to Releasing,
or on to Closed where it is withdrawn. The bolt time starts from zero in travel and stops at rest. -/
def Leaf.shut (demand : Bool) (lf : Leaf) : Leaf :=
  if demand then
    if lf.boltThrown then { lf with state := .secured, bolt := none }
    else { lf with state := .securing, bolt := some 0 }
  else
    if lf.boltThrown then { lf with state := .releasing, bolt := some 0 }
    else { lf with state := .closed, bolt := none }

/-- The door of a leaf opens (R85, R86, R87, R88, R89). -/
def Leaf.open' (lf : Leaf) : Leaf :=
  match lf.state with
  | .secured => { lf with state := .forced, bolt := none }
  | .opened | .forced | .propped => lf
  | _ => { lf with state := .opened, bolt := none }

/-- The prop timer runs exactly while its three conditions hold together (R93). -/
def Leaf.propRuns (demand : Bool) (lf : Leaf) : Bool :=
  lf.state == .opened && demand &&
    match lf.role with
    | .configured c _ _ => !(c.fire && lf.magnet)
    | _ => false

/-- The prop timer started from zero, kept running, or stopped (R93). -/
def Leaf.propChecked (demand : Bool) (lf : Leaf) : Leaf :=
  if lf.propRuns demand then { lf with prop := some (lf.prop.getD 0) } else { lf with prop := none }

/-- A leaf takes a change of its lock demand (R84). -/
def Leaf.takeDemand (demand : Bool) (lf : Leaf) : Leaf :=
  match lf.state, demand with
  | .closed, true => lf.shut true
  | .securing, false => lf.shut false
  | .secured, false => lf.shut false
  | .releasing, true => lf.shut true
  | .jammed .lock, false => lf.shut false
  | .jammed .release, true => lf.shut true
  | _, _ => lf

/-- A leaf takes a change of its door contact (R85 to R92). -/
def Leaf.takeDoor (demand closed : Bool) (lf : Leaf) : Leaf :=
  let lf := { lf with doorClosed := closed }
  if closed then
    match lf.state with
    | .opened | .forced | .propped => lf.shut demand
    | _ => lf
  else lf.open'

/-- A leaf takes a change of its bolt contact (R85 to R92). -/
def Leaf.takeBolt (demand thrown : Bool) (lf : Leaf) : Leaf :=
  let lf := { lf with boltThrown := thrown }
  match lf.state with
  | .opened | .forced | .propped => lf
  | .closed => lf.shut demand
  | .securing => if thrown then { lf with state := .secured, bolt := none } else lf
  | .secured => if thrown then lf else lf.shut demand
  | .releasing => if thrown then lf else lf.shut demand
  | .jammed .lock => if thrown then { lf with state := .secured, bolt := none } else lf
  | .jammed .release => if thrown then lf else lf.shut demand

/-- A leaf's bolt time runs out (R86, R88). -/
def Leaf.takeBoltTime (lf : Leaf) : Leaf :=
  match lf.state with
  | .securing => { lf with state := .jammed .lock, bolt := none }
  | .releasing => { lf with state := .jammed .release, bolt := none }
  | _ => lf

/-- The three-way test of a provisional record (R102). -/
def Leaf.provisionalState (lf : Leaf) : LeafState :=
  if !lf.doorClosed then .opened else if lf.boltThrown then .jammed .release else .closed

/-- A provisional record of the given contacts (R102). -/
def Leaf.provisional (closed thrown : Bool) : Leaf :=
  let lf := { Leaf.atReset with doorClosed := closed, boltThrown := thrown }
  { lf with state := lf.provisionalState }

/-! ## Calls from a leaf (R101) -/

/-- The leaf newly entered Forced or Propped: an Intrusion call under source Leaf n. -/
def newlyIntruded (old new : Leaf) : Bool :=
  (new.state == .forced && old.state != .forced) || (new.state == .propped && old.state != .propped)

/-- The leaf is in a Jammed state. -/
def LeafState.isJammed : LeafState → Bool
  | .jammed _ => true
  | _ => false

/-- The leaf newly entered Jammed: a Fault call under source Leaf n fault. -/
def newlyJammed (old new : Leaf) : Bool := new.state.isJammed && !old.state.isJammed

/-- The requests of one leaf's event (R101). -/
def leafRequests (n : Fin 4) (old new : Leaf) (s : State) : State :=
  let s := if newlyIntruded old new then requestCall (.leaf n) s else s
  if newlyJammed old new then requestCall (.leafFault n) s else s

/-! ## An event at the door unit -/

/-- The leaf's class changed and the change is the route unit's (R99, R100). -/
def classHandedOn (old new : Leaf) : Bool := new.onRoute && old.state.doorClass != new.state.doorClass

/-- The leaves take an event at once: the new records stand, each makes its requests, and a class change
that is handed on starts one route computation, which reads every class as it then stands (R60, R99). The calls
are asked for before the computation: the model's choice, log entry 46. -/
def setLeaves (new : Four Leaf) (s : State) : State :=
  let old := s.doors.leaves
  let s := s.setDoors { s.doors with leaves := new }
  let s := allFour.foldl (fun s n => leafRequests n (old.get n) (new.get n) s) s
  if allFour.any (fun n => classHandedOn (old.get n) (new.get n)) then computeRoute s else s

/-- The lock demand of a leaf as the posture controller now stands (R83). -/
def demandNow (s : State) (lf : Leaf) : Bool := lockDemand s.control.posture s.control.base lf

/-- The value of R97 for a leaf's magnet as the station now stands (R98). -/
def magnetNow (s : State) (lf : Leaf) : Bool :=
  magnetOf s.control.posture s.hazard.zone s.peers.entries lf

/-- One leaf takes an event: a configured leaf acts and its prop timer follows (R93). -/
def leafEvent (n : Fin 4) (act : Leaf → Leaf) (s : State) : State :=
  let lf := act (s.doors.leaves.get n)
  setLeaves (s.doors.leaves.set n (lf.propChecked (demandNow s lf))) s

/-- The magnets re-evaluated, and with them the prop timers (R98, R93). -/
def evaluateMagnets (s : State) : State :=
  s.setDoors
    { s.doors with
      leaves := s.doors.leaves.map (fun lf =>
        let lf := { lf with magnet := magnetNow s lf }
        lf.propChecked (demandNow s lf)) }

/-- A leaf takes a change of posture or base posture: magnet (R98), lock demand (R84), prop timer (R93). -/
def leafUnderPosture (s : State) (oldP : Posture) (oldB : Base) (lf : Leaf) : Leaf :=
  let demand := demandNow s lf
  let lf := { lf with magnet := magnetNow s lf }
  let lf := if lockDemand oldP oldB lf = demand then lf else lf.takeDemand demand
  lf.propChecked demand

/-- The door unit takes a change of posture or base posture (R83, R84, R98). -/
def doorsTakePosture (oldP : Posture) (oldB : Base) (s : State) : State :=
  setLeaves (s.doors.leaves.map (leafUnderPosture s oldP oldB)) s

/-! ## Commands -/

/-- A provisional record takes new contacts (R102). -/
def takeProvisional (n : Fin 4) (lf : Leaf) (s : State) : State :=
  s.setDoors { s.doors with leaves := s.doors.leaves.set n { lf with state := lf.provisionalState } }

/-- A door contact takes a new debounced level (R81). -/
def takeDoorContact (n : Fin 4) (closed : Bool) (s : State) : State :=
  let lf := s.doors.leaves.get n
  if lf.doorClosed = closed then s
  else
    match lf.role with
    | .dropped => s
    | .provisional => takeProvisional n { lf with doorClosed := closed } s
    | .configured _ _ _ => leafEvent n (fun lf => lf.takeDoor (demandNow s lf) closed) s

/-- DOOR_CONTACT_CHANGE. -/
def execDoorContactChange (n : Fin 4) (closed : Bool) (s : State) : Host.Outcome State Fault Refusal :=
  whileRunning (takeDoorContact n closed) s

/-- A bolt contact takes a new debounced level (R81). -/
def takeBoltContact (n : Fin 4) (thrown : Bool) (s : State) : State :=
  let lf := s.doors.leaves.get n
  if lf.boltThrown = thrown then s
  else
    match lf.role with
    | .dropped => s
    | .provisional => takeProvisional n { lf with boltThrown := thrown } s
    | .configured _ _ _ => leafEvent n (fun lf => lf.takeBolt (demandNow s lf) thrown) s

/-- BOLT_CONTACT_CHANGE. -/
def execBoltContactChange (n : Fin 4) (thrown : Bool) (s : State) : Host.Outcome State Fault Refusal :=
  whileRunning (takeBoltContact n thrown) s

/-- An exit-request button becomes debounced pressed: its latch is set (R81). The inputs of a dropped
position are disregarded (R80). -/
def takeExitEdge (n : Fin 4) (s : State) : State :=
  let lf := s.doors.leaves.get n
  if lf.role = .dropped then s
  else s.setDoors { s.doors with leaves := s.doors.leaves.set n { lf with pressLatch := true } }

/-- EXIT_REQUEST_EDGE. -/
def execExitRequestEdge (n : Fin 4) (s : State) : Host.Outcome State Fault Refusal :=
  whileRunningLocal (takeExitEdge n) s

/-- A press starts a pass in these states (R94). -/
def LeafState.passStarts : LeafState → Bool
  | .secured | .securing | .jammed .lock => true
  | _ => false

/-- A configured leaf takes a press: the latch clears; a running pass restarts; a locked or locking leaf
starts one, which makes L false and releases it in the same event (R94, R95). -/
def Leaf.takePress (demandWith : Leaf → Bool) (lf : Leaf) : Leaf :=
  let lf := { lf with pressLatch := false }
  if lf.pass.isSome then { lf with pass := some 0 }
  else if lf.state.passStarts then
    let started := { lf with pass := some 0 }
    if demandWith lf = demandWith started then started else started.takeDemand (demandWith started)
  else lf

/-- The press handed on: an Intrusion request when the posture is Night (R94, R109). -/
def takeExitRequestCall (n : Fin 4) (s : State) : State :=
  if s.control.posture = .night then requestCall (.leaf n) s else s

/-- The door unit takes a latched press (R94). Before the load and at an unconfigured position the
latch clears with no effect. The leaf moves, and any route computation is done, before the press is handed
on: the model's choice, log entry 46. -/
def takeExitRequest (n : Fin 4) (s : State) : State :=
  let lf := s.doors.leaves.get n
  if lf.pressLatch = false then s
  else
    match lf.role with
    | .configured _ _ _ => takeExitRequestCall n (leafEvent n (Leaf.takePress (demandNow s)) s)
    | _ => s.setDoors { s.doors with leaves := s.doors.leaves.set n { lf with pressLatch := false } }

/-- EXIT_REQUEST. -/
def execExitRequest (n : Fin 4) (s : State) : Host.Outcome State Fault Refusal :=
  whileRunning (takeExitRequest n) s

/-- The bolt time of a configured leaf (R80). -/
def Leaf.boltLimit (lf : Leaf) : Nat :=
  match lf.role with
  | .configured c _ _ => c.boltTime
  | _ => 0

/-- A leaf's bolt time expires; an expiry on a stopped or restarted timer has no effect (R86, R88). -/
def takeBoltExpiry (n : Fin 4) (s : State) : State :=
  let lf := s.doors.leaves.get n
  if due lf.bolt lf.boltLimit then leafEvent n Leaf.takeBoltTime s else s

/-- BOLT_TIME_EXPIRY. -/
def execBoltTimeExpiry (n : Fin 4) (s : State) : Host.Outcome State Fault Refusal :=
  whileRunning (takeBoltExpiry n) s

/-- A leaf's prop timer reaches the prop time: Propped (R91, R93). -/
def takePropExpiry (n : Fin 4) (s : State) : State :=
  let lf := s.doors.leaves.get n
  if lf.state == .opened && due lf.prop (propTime s) then
    leafEvent n (fun lf => { lf with state := .propped }) s
  else s

/-- PROP_TIMER_EXPIRY. -/
def execPropTimerExpiry (n : Fin 4) (s : State) : Host.Outcome State Fault Refusal :=
  whileRunning (takePropExpiry n) s

/-- A leaf whose pass ends: L is re-evaluated (R95). -/
def Leaf.takePassEnd (demandWith : Leaf → Bool) (lf : Leaf) : Leaf :=
  let ended := { lf with pass := none }
  if demandWith lf = demandWith ended then ended else ended.takeDemand (demandWith ended)

/-- A leaf's pass expires (R95). -/
def takePassExpiry (n : Fin 4) (s : State) : State :=
  let lf := s.doors.leaves.get n
  if due lf.pass Config.passTime then leafEvent n (Leaf.takePassEnd (demandNow s)) s else s

/-- PASS_EXPIRY. -/
def execPassExpiry (n : Fin 4) (s : State) : Host.Outcome State Fault Refusal :=
  whileRunning (takePassExpiry n) s

end Sys2Proof.Machine
end

