-- ==== Sys2Proof/Machine/Postures.lean ====
section
/-! DEFINITION. The posture controller and the zone hazard's hand-overs (chapter 2, R20, R22, R23, R32,
R41): what changes the posture, the fire set and the hushed flag, and what follows at other blocks. -/

namespace Sys2Proof.Machine

/-! ## Fire set (section 2.5) -/

/-- A number joins the fire set once, keeping it ascending. -/
def joinFireSet (n : Station) : List Station → List Station
  | [] => [n]
  | m :: rest => if n < m then n :: m :: rest else if n = m then m :: rest else m :: joinFireSet n rest

/-- A number leaves the fire set (R37). -/
def leaveFireSet (n : Station) (set : List Station) : List Station := set.filter (· != n)

/-! ## Changes of posture and of the hushed flag -/

/-- The hushed flag takes a value, handed to the lamp and sounder driver (R25, R38). -/
def setHushed (b : Bool) (s : State) : State :=
  if s.control.hushed = b then s else decideSound (s.setControl { s.control with hushed := b })

/-- The call unit takes a new posture: Night asserts the active Motion inputs (R110). -/
def callsTakePosture (oldP : Posture) (s : State) : State :=
  if oldP ≠ .night ∧ s.control.posture = .night then requestMotion s else s

/-- The lamp and sounder driver takes a new posture (R145, R146, R147, R149, R156). -/
def lampTakePosture (s : State) : State :=
  decideSound (deriveLamps (s.setLamp { s.lamp with brightness := brightnessOf s.control.posture }))

/-- The posture and base posture take values; a change is handed to the blocks that read it, and a
bulletin is queued last, after the new values are in place (R25). The lamp and sounder driver judges a next hop
that the door unit's part brings about by the new posture: the model's choice, log entry 49. -/
def setPosture (p : Posture) (b : Base) (s : State) : State :=
  let oldP := s.control.posture
  let oldB := s.control.base
  if oldP = p ∧ oldB = b then s
  else
    let s := doorsTakePosture oldP oldB (s.setControl { s.control with posture := p, base := b })
    let s := if oldP = p then s else lampTakePosture (callsTakePosture oldP s)
    queueBulletin s

/-- Entry to Evacuate from another posture (R35): the hushed flag clears, the join timer stops, and the
base posture is the given one (kept, or as R28, R29 or R34 set it from Startup). -/
def enterEvacuate (b : Base) (s : State) : State :=
  setPosture .evacuate b (s.setControl { s.control with hushed := false, joinTimer := none })

/-- Entry to Evacuate with no bulletin to give a base: from Startup the base stays Night and the
provisional-base mark is set (R29, R32, R36). -/
def enterEvacuateUnled (s : State) : State :=
  if s.control.posture = .startup then
    enterEvacuate s.control.base (s.setControl { s.control with provisionalBase := true })
  else enterEvacuate s.control.base s

/-- An Alert trigger reported by the line port (R36). -/
def takeAlert (s : State) : State := if s.control.posture = .evacuate then s else enterEvacuateUnled s

/-- A Hush trigger reported by the line port, or the post's own (R38). -/
def takeHush (s : State) : State := if s.control.posture = .evacuate then setHushed true s else s

/-! ## The own zone hazard (R20, R32, R33) -/

/-- The Alert request of R32, handed over or kept as a mark (R33). -/
def makeAlertRequest (s : State) : State :=
  if !strapped s then s
  else if loadComplete s then requestAlert s
  else s.setControl { s.control with alertPending := true }

/-- The posture controller takes a zone hazard that has become Fire (R32). -/
def takeOwnFire (s : State) : State :=
  let s := s.setControl { s.control with fireSet := joinFireSet s.loader.station s.control.fireSet }
  let s := setHushed false s
  let s := if s.control.posture = .evacuate then s else enterEvacuateUnled s
  makeAlertRequest s

/-- The zone hazard recomputed; a change is handed on: its bulletin, the posture controller, the route
unit, the door unit's magnets (R20). The call unit reads the hazard where it needs it. -/
def recomputeZone (s : State) : State :=
  let old := s.hazard.zone
  let new := zoneOf s.hazard
  if new = old then s
  else
    let advertisedBefore := advertisedCost old s.route
    let s := queueBulletin (s.setHazard { s.hazard with zone := new })
    let s := if new = .fire then takeOwnFire s else s
    evaluateMagnets (computeRouteFrom advertisedBefore s)

/-- The Blind flag re-evaluated; a change queues a bulletin (R21). -/
def evaluateBlind (s : State) : State :=
  let new := blindOf s.front.fault s.hazard.heads
  if new = s.hazard.blind then s else queueBulletin (s.setHazard { s.hazard with blind := new })

/-! ## Grading levels (R17) -/

/-- The entry level E of a head for an excess, a temperature and a rise (R17). -/
def entryLevel (k : HeadKind) (t : Thresholds) (confirmed : Bool) (excess temperature rise : Nat) : Level :=
  if confirmed then .fire
  else
    match k with
    | .smoke => if t.two ≤ excess then .prealarm else if t.one ≤ excess then .watch else .clear
    | .heat => if t.one ≤ temperature then .prealarm else if t.three / 2 ≤ rise then .watch else .clear

/-- The hold level H (R17). -/
def holdLevel (k : HeadKind) (t : Thresholds) (excess temperature rise : Nat) : Level :=
  match k with
  | .smoke =>
    if t.two ≤ excess + Config.holdMargin then .prealarm
    else if t.one ≤ excess + Config.holdMargin then .watch
    else .clear
  | .heat =>
    if t.one ≤ temperature + Config.holdMargin then .prealarm
    else if t.three / 2 ≤ rise + Config.holdMargin then .watch
    else .clear

/-! ## Restore (R22, R23, R40 to R42) -/

/-- A call input counts as a Fire point for the Restore test (R22). -/
def countsAsFirePoint (s : State) (i : Fin 6) : Bool := !loadComplete s || inputKind s i == .firePoint

/-- A head lets a Restore pass (R22): healthy and not Fire-worthy, or frozen below Fire. -/
def headAllowsRestore (frontEndFault : Bool) (h : Head) : Bool :=
  if h.fault || frontEndFault then h.level != .fire else !h.fireWorthy

/-- The Restore acceptance test (R22). -/
def restoreAcceptable (s : State) : Bool :=
  s.hazard.heads.toList.all (fun o => match o with | some h => headAllowsRestore s.front.fault h | none => true)
    && allSix.all (fun i => !(countsAsFirePoint s i && (s.calls.inputs.get i).active))

/-- A head after an accepted Restore (R23). Of a Smoke head carried over the load and not graded since, the
thresholds are the profile's: the model's choice, log entry 50. -/
def Head.restored (frontEndFault : Bool) (h : Head) : Head :=
  let h := { h with confirm := 0 }
  if h.fault || frontEndFault then h
  else if h.graded then { h with level := entryLevel h.kind h.thresholds false h.excess h.temperature h.rise }
  else { h with level := .clear }

/-- The hazard evaluator takes an accepted Restore (R23). -/
def restoreHazard (s : State) : State :=
  recomputeZone
    (s.setHazard
      { s.hazard with
        heads := s.hazard.heads.map (fun o => o.map (Head.restored s.front.fault)), manualFire := false })

/-- An accepted Restore, in the order of R41. The cleared flag and the posture are handed to the lamp and sounder
driver together, so no tone begins between the two: the model's choice, log entry 52. -/
def acceptRestore (s : State) : State :=
  let s := closeFireCalls (restoreHazard s)
  let s := s.setControl { s.control with fireSet := [], hushed := false, provisionalBase := false }
  setPosture s.control.base.posture s.control.base s

/-- A refused Restore (R42): a station in Fire says so at once. -/
def refuseRestore (s : State) : State := if s.hazard.zone = .fire then queueBulletin s else s

/-- A Restore order (R40). -/
def takeRestore (s : State) : State :=
  if s.control.posture = .evacuate then
    if restoreAcceptable s then acceptRestore s else refuseRestore s
  else s

/-- A Day or Night order, by the posture in which it is taken (R29, R30). -/
def takeBaseOrder (b : Base) (s : State) : State :=
  if s.control.posture = .evacuate then
    setPosture .evacuate b (s.setControl { s.control with provisionalBase := false })
  else setPosture b.posture b (s.setControl { s.control with joinTimer := none })

/-- A posture order, heard or completed as the post's own (R30, R40). -/
def takeOrder (o : Order) (s : State) : State :=
  match o with
  | .day => takeBaseOrder .day s
  | .night => takeBaseOrder .night s
  | .restore => takeRestore s

/-! ## Bulletins at the posture controller (R26, R28, R31, R34, R37) -/

/-- The base a bulletin gives; absent where it shows Startup (R28, R31, R34). -/
def bulletinBase (b : Bulletin) : Option Base :=
  match b.posture with
  | .day => some .day
  | .night => some .night
  | .evacuate => some b.base
  | .startup => none

/-- A provisional base is taken from a bulletin (R31). -/
def takeBase (b : Bulletin) (s : State) : State :=
  match bulletinBase b with
  | some base =>
    if s.control.provisionalBase then
      setPosture s.control.posture base (s.setControl { s.control with provisionalBase := false })
    else s
  | none => s

/-- A station in Startup enters Evacuate on a fire bulletin, which gives the base (R34). -/
def enterFromFireBulletin (b : Bulletin) (s : State) : State :=
  match bulletinBase b with
  | some base => enterEvacuate base s
  | none => enterEvacuateUnled s

/-- A bulletin whose hazard is Fire (R34). -/
def takeFireBulletin (source : Station) (b : Bulletin) (s : State) : State :=
  let s :=
    if s.control.fireSet.contains source then s
    else setHushed false (s.setControl { s.control with fireSet := joinFireSet source s.control.fireSet })
  match s.control.posture with
  | .evacuate => takeBase b s
  | .startup => enterFromFireBulletin b s
  | _ => enterEvacuate s.control.base s

/-- Adoption from a bulletin in Startup (R28). -/
def adopt (b : Bulletin) (s : State) : State :=
  match b.posture with
  | .startup => s
  | .day => setPosture .day .day (s.setControl { s.control with joinTimer := none })
  | .night => setPosture .night .night (s.setControl { s.control with joinTimer := none })
  | .evacuate => enterEvacuate b.base s

/-- A bulletin whose hazard is below Fire (R28, R31, R37). -/
def takeOrdinaryBulletin (source : Station) (b : Bulletin) (s : State) : State :=
  let s := s.setControl { s.control with fireSet := leaveFireSet source s.control.fireSet }
  match s.control.posture with
  | .startup => adopt b s
  | _ => takeBase b s

/-- A bulletin at the posture controller; source 0 and the own number are disregarded (R26). -/
def controlTakeBulletin (source : Station) (b : Bulletin) (s : State) : State :=
  if source = 0 ∨ source = s.loader.station then s
  else if b.hazard = .fire then takeFireBulletin source b s
  else takeOrdinaryBulletin source b s

/-! ## Commands -/

/-- The join wait runs out in Startup: Night (R27). -/
def takeJoinExpiry (s : State) : State :=
  if due s.control.joinTimer Config.joinWait && s.control.posture == .startup then
    setPosture .night .night (s.setControl { s.control with joinTimer := none })
  else s

/-- JOIN_TIMER_EXPIRY. -/
def execJoinTimerExpiry (s : State) : Host.Outcome State Fault Refusal := whileRunning takeJoinExpiry s

/-- A latched Fire point press: the manual Fire latch first, then the request (R19, R108). -/
def takeFirePress (i : Fin 6) (s : State) : State :=
  let x := s.calls.inputs.get i
  if x.pressed && inputKind s i == .firePoint then
    let s := s.setInput i { x with pressed := false }
    requestCall (.input i) (recomputeZone (s.setHazard { s.hazard with manualFire := true }))
  else s

/-- FIRE_POINT_PRESS. -/
def execFirePointPress (i : Fin 6) (s : State) : Host.Outcome State Fault Refusal :=
  whileRunning (takeFirePress i) s

end Sys2Proof.Machine
end

