-- ==== Sys2Proof/Machine/Peers.lean ====
section
/-! DEFINITION. The peer table (chapter 3): taking a bulletin, aging, the Duplicate fault, and its
timers' commands. -/

namespace Sys2Proof.Machine

def State.setEntry (s : State) (j : Fin 8) (e : Entry) : State :=
  s.setPeers { s.peers with entries := s.peers.entries.set j.val e }

/-- The entry numbered `j` (R44). -/
def entryAt (s : State) (j : Fin 8) : Option Entry := s.peers.entries[j.val]?

/-- The lowest entry that names a station; no two do (R44). -/
def entryFor (s : State) (source : Station) : Option (Fin 8) :=
  allEight.find? (fun j => match entryAt s j with | some e => e.fixed.neighbour == source | none => false)

/-- The heard fields that a bulletin gives (R47). Its flags other than Blind and its base posture are
not kept (section 3.1). -/
def heardOf (b : Bulletin) : Heard :=
  { hazard := b.hazard, blind := b.flags.getLsbD 7, posture := b.posture, cost := b.cost.toNat
    hops := b.hops.toNat, nextHop := b.nextHop, doors := b.doors }

/-- The entry after a bulletin (R47). -/
def Entry.refreshed (b : Bulletin) (e : Entry) : Entry :=
  { e with status := .current, age := some 0, heard := some (heardOf b) }

/-- The entry shows a heard hazard of Fire (R97). -/
def Entry.showsFire (e : Entry) : Bool :=
  match e.heard with
  | some h => h.hazard == .fire
  | none => false

/-- The passage door is an own leaf (R48). -/
def PassageDoor.isOwn : PassageDoor → Bool
  | .own _ => true
  | _ => false

/-- A neighbour's bulletin is taken into its entry, then handed to the route unit and, on a change of the
heard Fire at an own leaf's passage, to the door unit (R47, R48). -/
def updateEntry (j : Fin 8) (old : Entry) (b : Bulletin) (s : State) : State :=
  let new := old.refreshed b
  let s := computeRoute (s.setEntry j new)
  if old.fixed.door.isOwn && old.showsFire != new.showsFire then evaluateMagnets s else s

/-- A foreign bulletin that bears the own number (R54, R55). The call is asked for before the bulletin is
captured: the model's choice, log entry 46. -/
def takeForeign (s : State) : State :=
  let was := s.peers.duplicate
  let s := countDuplicate (s.setPeers { s.peers with duplicate := true, duplicateTimer := some 0 })
  if was then s else queueBulletin (requestCall .duplicate s)

/-- A bulletin at the peer table, by its source (R46, R53). -/
def peersTakeBulletin (source : Station) (b : Bulletin) (s : State) : State :=
  if source = 0 then s
  else if source = s.loader.station then takeForeign s
  else
    match entryFor s source with
    | some j => (match entryAt s j with | some e => updateEntry j e b s | none => s)
    | none => s

/-! ## Commands -/

/-- An entry of one status, old enough, takes the next status, and the route unit is told (R50). -/
def ageEntry (j : Fin 8) (before after : EntryStatus) (limit : Nat) (s : State) : State :=
  match entryAt s j with
  | some e =>
    if e.status == before && due e.age limit then computeRoute (s.setEntry j { e with status := after })
    else s
  | none => s

/-- STALE_EXPIRY: an expiry against a restarted timer does not take place (R50, R51). -/
def execStaleExpiry (j : Fin 8) (s : State) : Host.Outcome State Fault Refusal :=
  whileRunning (ageEntry j .current .stale Config.staleAge) s

/-- LOST_EXPIRY (R50, R51). -/
def execLostExpiry (j : Fin 8) (s : State) : Host.Outcome State Fault Refusal :=
  whileRunning (ageEntry j .stale .lost Config.lostAge) s

/-- The Duplicate timer runs out: the fault clears and a bulletin shows it (R56). -/
def takeDuplicateExpiry (s : State) : State :=
  if due s.peers.duplicateTimer Config.duplicateTime then
    queueBulletin (s.setPeers { s.peers with duplicate := false, duplicateTimer := none })
  else s

/-- DUPLICATE_TIMER_EXPIRY. -/
def execDuplicateTimerExpiry (s : State) : Host.Outcome State Fault Refusal :=
  whileRunning takeDuplicateExpiry s

end Sys2Proof.Machine
end

