-- ==== Sys2Proof/Machine/Survey.lean ====
section
/-! DEFINITION. The survey responder: the answer payload of each section (R57, R78, R104, R124, R186,
R187). An empty payload is the answer of length 0. -/

namespace Sys2Proof.Machine

/-- A flag as a bit. -/
def bit (b : Bool) (place : Nat) : Nat := if b then 2 ^ place else 0

/-- Section 0, Identity (R186). -/
def identityAnswer (s : State) : List Byte :=
  [byteOf s.loader.station.val, byteOf s.post.role.toNat, byteOf s.loader.result.code,
   byteOf s.loader.cause.code, byteOf s.control.posture.code, byteOf s.control.base.code,
   byteOf (bit s.line.fault 4 + bit s.front.fault 3 + bit s.loader.profileFault 2
     + bit s.peers.duplicate 1 + bit s.hazard.blind 0)]

/-- Section 1, the eleven counters in table order (R186, R187). -/
def countersAnswer (s : State) : List Byte :=
  let c := s.counters
  [c.invalidScan, c.duplicate, c.overflow, c.correctedHeader, c.discardedHeader, c.discardedFrame,
   c.refusedFrames, c.arbitrationLost, c.bitError, c.abortedByBreak, c.stuckLine].flatMap bytesOf16

/-- Coded value of a strip direction (spec 11.3). -/
def stripCode : Option Direction → Nat
  | none => 0
  | some .forward => 1
  | some .backward => 2

/-- The four adjacency bytes, as in the profile (spec 11.3). -/
def adjacencyBytes (a : Adjacency) : List Byte :=
  [byteOf a.neighbour.val, byteOf a.weight, byteOf (a.aspect.code * 16 + stripCode a.strip), byteOf a.door.code]

/-- The heard fields of a peer entry; zero while Unheard (R57). -/
def heardBytes : Option Heard → List Byte
  | some h =>
    [byteOf h.hazard.code, byteOf h.blind.toNat, byteOf h.posture.code, byteOf h.cost, byteOf h.hops,
     byteOf h.nextHop.code, doorSummary h.doors]
  | none => [0, 0, 0, 0, 0, 0, 0]

/-- Section 2, one peer entry; the age is 65,535 while Unheard (R57, R186). -/
def peerAnswer (index : Fin 16) (s : State) : List Byte :=
  match s.peers.entries[index.val]? with
  | some e =>
    adjacencyBytes e.fixed ++ [byteOf e.status.code] ++ bytesOf16 (e.age.getD ceiling16) ++ heardBytes e.heard
  | none => []

/-- Coded value of a slot state, and its taker (R186). -/
def SlotState.code : SlotState → Nat
  | .free => 0
  | .raised => 1
  | .taken _ => 2

def SlotState.taker : SlotState → Nat
  | .taken t => t.val
  | _ => 0

/-- Whole seconds left on a timer of a limit; 0 when stopped. -/
def remaining (timer : Option Nat) (limit : Nat) : Nat :=
  match timer with
  | some n => limit - n
  | none => 0

/-- Section 3, one call slot with the length of the pending list (R124, R186). -/
def slotAnswer (index : Fin 16) (s : State) : List Byte :=
  match slotOf index.val with
  | some i =>
    let sl := s.calls.slots.get i
    [byteOf sl.state.code, byteOf sl.seq.val, byteOf (kindCode sl.kind), byteOf (sourceCode sl.source),
     byteOf sl.state.taker] ++ bytesOf16 sl.age
      ++ [byteOf (remaining sl.repeatTimer (repeatInterval sl.state)), byteOf s.calls.pending.length]
  | none => []

/-- A leaf's flag byte, coded as in the profile with bit 2 exit door (R186). -/
def leafFlags (c : LeafConfig) (exitDoor : Bool) : Nat :=
  bit true 7 + bit c.secure 6 + bit c.escape 5 + bit c.fire 4 + bit c.failSecure 3 + bit exitDoor 2

/-- Coded value of the jam direction (R186). -/
def LeafState.jamCode : LeafState → Nat
  | .jammed .lock => 1
  | .jammed .release => 2
  | _ => 0

/-- The index of a leaf or a head. -/
def quarterOf (n : Nat) : Option (Fin 4) := if h : n < 4 then some ⟨n, h⟩ else none

/-- Section 4, one configured leaf (R104, R186). -/
def leafAnswer (index : Fin 16) (s : State) : List Byte :=
  match quarterOf index.val with
  | some n =>
    let lf := s.doors.leaves.get n
    match lf.role with
    | .configured c exitDoor links =>
      [byteOf (leafFlags c exitDoor), byteOf c.boltTime, byteOf lf.state.code, byteOf lf.state.jamCode,
       byteOf (bit lf.doorClosed 1 + bit lf.boltThrown 0),
       byteOf (bit lf.pass.isSome 2 + bit lf.state.atLock 1 + bit lf.magnet 0),
       byteOf (remaining lf.pass Config.passTime), byteOf (min (lf.prop.getD 0) 255),
       byteOf lf.state.doorClass.code, byteOf links.length]
    | _ => []
  | none => []

/-- The marks byte of a head (R186). -/
def headMarks (frontEndFault : Bool) (h : Head) : Nat :=
  bit h.refused 5 + bit h.fault 4 + bit h.dirty 3 + bit (h.fault || frontEndFault) 2
    + bit h.baseline.isSome 1 + bit h.fireWorthy 0

/-- The baseline bytes; a free value while unseeded (log entry 22). -/
def baselineBytes (freeUsed : Nat) : Option Nat → List Byte
  | some b => bytesOf16 b
  | none => bytesOf16 (Config.unseededBaseline freeUsed).toNat

/-- The last raw readings of a head: dark and lit, or temperature and 0 (R186). A head that the load turned
from Smoke into Heat shows its stored dark reading as the temperature until its first valid scan: the
model's choice, log entry 44. -/
def rawBytes (k : HeadKind) (r : HeadReading) : List Byte :=
  match k with
  | .smoke => bytesOf16 r.first.toNat ++ bytesOf16 r.second.toNat
  | .heat => bytesOf16 r.first.toNat ++ bytesOf16 0

/-- The head that an index names, in the head set. -/
def headAt (index : Fin 16) (s : State) : Option (Fin 4 × Head) :=
  (quarterOf index.val).bind (fun k => (s.hazard.heads.get k).map (fun h => (k, h)))

/-- Section 5, one head of the head set (R186). -/
def headAnswer (index : Fin 16) (s : State) : List Byte :=
  match headAt index s with
  | some (k, h) =>
    [byteOf h.kind.code, byteOf h.level.code, byteOf h.confirm, byteOf (headMarks s.front.fault h)]
      ++ baselineBytes s.freeUsed h.baseline ++ rawBytes h.kind (s.front.lastRaw.heads.get k)
      ++ [byteOf h.window.length]
  | none => []

/-- Section 6, the route record and the candidate list (R78, R186). -/
def routeAnswer (s : State) : List Byte :=
  [byteOf s.route.cost, byteOf s.route.hops, byteOf s.route.next.code,
   byteOf (advertisedCost s.hazard.zone s.route), byteOf (advertisedHop s).code, byteOf (advertisedHops s),
   byteOf s.route.viaExit.cost]
    ++ s.route.viaEntry.toList.map (fun c => byteOf c.cost)

/-- The answer to a section and index (R186). -/
def surveyAnswerOf (area index : Fin 16) (s : State) : List Byte :=
  match area.val with
  | 0 => identityAnswer s
  | 1 => countersAnswer s
  | 2 => peerAnswer index s
  | 3 => slotAnswer index s
  | 4 => leafAnswer index s
  | 5 => headAnswer index s
  | 6 => routeAnswer s
  | _ => []

/-- A free value was used: the next one is another (log entry 22). -/
def spendFree (area index : Fin 16) (s : State) : State :=
  if area.val = 5 then
    match headAt index s with
    | some (_, h) => if h.baseline.isNone then s.setFreeUsed (s.freeUsed + 1) else s
    | none => s
  else s

/-- A survey request at the responder: the answer, built now, is asked of the queue (R186). -/
def answerSurvey (area index : Fin 16) (s : State) : State :=
  spendFree area index (offerFrame (.answer (nibbles area index) (surveyAnswerOf area index s)) s)

end Sys2Proof.Machine
end

