-- ==== Sys2Proof/Machine/Frames.lean ====
section
/-! DEFINITION. Received frames at the line port (R160 to R162): each command brings the frame's bytes,
is judged by the receiver, ends in Discard and is handed on by its kind. -/

namespace Sys2Proof.Machine

def State.setReceiver (s : State) (r : Receiver) : State := s.setLine { s.line with receiver := r }

/-- The frame's last byte has ended: the receiver passes to Discard, and a corrected header counts
(R160, R161). -/
def endFrame (corrected : Bool) (s : State) : State :=
  let s := s.setReceiver .discard
  if corrected then countCorrected s else s

/-- What the receiver hands on of an accepted frame: its source and content, where `want` names what the
command stands for. A frame of another class is not this command's (log entry 9). -/
def receive (wire : List Byte) (want : Station → Frame → Option (State → State)) (s : State) : State :=
  if receiving s then
    match judgeFrame wire with
    | .accepted corrected source f =>
      (match want source f with
      | some hand => hand (endFrame corrected s)
      | none => s)
    | _ => s
  else s

/-- A byte is the own station number, which is not 0 (R162). -/
def addressedHere (target : Byte) (s : State) : Bool :=
  s.loader.station != 0 && target.toNat == s.loader.station.val

/-- A bulletin goes to the peer table and to the posture controller (R162). -/
def handBulletin (source : Station) (b : Bulletin) (s : State) : State :=
  controlTakeBulletin source b (peersTakeBulletin source b s)

/-- A take goes to the call unit of its target (R118, R162). -/
def handTake (source : Station) (target : Byte) (slot seq : Fin 16) (s : State) : State :=
  if addressedHere target s then callFrame judgeTake source slot seq s else s

/-- A cancel goes to the call unit of its target (R118, R162). -/
def handCancel (source : Station) (target : Byte) (slot seq : Fin 16) (s : State) : State :=
  if addressedHere target s then callFrame judgeCancel source slot seq s else s

/-- A survey request goes to the responder of its target (R162). -/
def handRequest (target : Byte) (area index : Fin 16) (s : State) : State :=
  if addressedHere target s then answerSurvey area index s else s

/-! ## What each command stands for -/

def wantBulletin (asFire : Bool) (source : Station) : Frame → Option (State → State)
  | .bulletin fire _ b => if fire = asFire then some (handBulletin source b) else none
  | _ => none

def wantOrder (order : Order) : Station → Frame → Option (State → State)
  | _, .order o => if o = order then some (takeOrder o) else none
  | _, _ => none

def wantNotice (source : Station) : Frame → Option (State → State)
  | .notice _ n => some (takeNotice source n)
  | _ => none

def wantTake (source : Station) : Frame → Option (State → State)
  | .take target slot seq => some (handTake source target slot seq)
  | _ => none

def wantCancel (source : Station) : Frame → Option (State → State)
  | .cancel target slot seq => some (handCancel source target slot seq)
  | _ => none

/-- A survey request for a section that `which` names. -/
def wantRequest (which : Fin 16 → Bool) : Station → Frame → Option (State → State)
  | _, .request target area index => if which area then some (handRequest target area index) else none
  | _, _ => none

def wantAnswer : Station → Frame → Option (State → State)
  | _, .answer _ _ => some id
  | _, _ => none

/-! ## Commands -/

/-- BULLETIN: peer table and posture controller (R47, R26 to R37). -/
def execBulletin (wire : List Byte) (s : State) : Host.Outcome State Fault Refusal :=
  whileRunning (receive wire (wantBulletin false)) s

/-- FIRE_BULLETIN: the same under kind 1; the blocks judge by its hazard field (R26, R34, R46). -/
def execFireBulletin (wire : List Byte) (s : State) : Host.Outcome State Fault Refusal :=
  whileRunning (receive wire (wantBulletin true)) s

/-- POSTURE_ORDER_DAY (R30). -/
def execPostureOrderDay (wire : List Byte) (s : State) : Host.Outcome State Fault Refusal :=
  whileRunning (receive wire (wantOrder .day)) s

/-- POSTURE_ORDER_NIGHT (R30). -/
def execPostureOrderNight (wire : List Byte) (s : State) : Host.Outcome State Fault Refusal :=
  whileRunning (receive wire (wantOrder .night)) s

/-- POSTURE_ORDER_RESTORE (R40 to R42). -/
def execPostureOrderRestore (wire : List Byte) (s : State) : Host.Outcome State Fault Refusal :=
  whileRunning (receive wire (wantOrder .restore)) s

/-- CALL_NOTICE (R127 to R130). -/
def execCallNotice (wire : List Byte) (s : State) : Host.Outcome State Fault Refusal :=
  whileRunning (receive wire wantNotice) s

/-- CALL_TAKE (R119, R120). -/
def execCallTake (wire : List Byte) (s : State) : Host.Outcome State Fault Refusal :=
  whileRunning (receive wire wantTake) s

/-- CALL_CANCEL (R121, R120). -/
def execCallCancel (wire : List Byte) (s : State) : Host.Outcome State Fault Refusal :=
  whileRunning (receive wire wantCancel) s

/-- SURVEY_IDENTITY: section 0 (R186). -/
def execSurveyIdentity (wire : List Byte) (s : State) : Host.Outcome State Fault Refusal :=
  whileRunning (receive wire (wantRequest (· == 0))) s

/-- SURVEY_COUNTERS: section 1 (R186, R187). -/
def execSurveyCounters (wire : List Byte) (s : State) : Host.Outcome State Fault Refusal :=
  whileRunning (receive wire (wantRequest (· == 1))) s

/-- SURVEY_PEER_ENTRY: section 2 (R57). -/
def execSurveyPeerEntry (wire : List Byte) (s : State) : Host.Outcome State Fault Refusal :=
  whileRunning (receive wire (wantRequest (· == 2))) s

/-- SURVEY_CALL_SLOT: section 3 (R124). -/
def execSurveyCallSlot (wire : List Byte) (s : State) : Host.Outcome State Fault Refusal :=
  whileRunning (receive wire (wantRequest (· == 3))) s

/-- SURVEY_DOOR_LEAF: section 4 (R104). -/
def execSurveyDoorLeaf (wire : List Byte) (s : State) : Host.Outcome State Fault Refusal :=
  whileRunning (receive wire (wantRequest (· == 4))) s

/-- SURVEY_HEAD: section 5 (R186). -/
def execSurveyHead (wire : List Byte) (s : State) : Host.Outcome State Fault Refusal :=
  whileRunning (receive wire (wantRequest (· == 5))) s

/-- SURVEY_ROUTE: section 6 (R78). -/
def execSurveyRoute (wire : List Byte) (s : State) : Host.Outcome State Fault Refusal :=
  whileRunning (receive wire (wantRequest (· == 6))) s

/-- SURVEY_UNKNOWN_SECTION: sections 7 to 15, answered with length 0 (R186). -/
def execSurveyUnknownSection (wire : List Byte) (s : State) : Host.Outcome State Fault Refusal :=
  whileRunning (receive wire (wantRequest (fun area => decide (7 ≤ area.val)))) s

/-- SURVEY_ANSWER: handed to no block (R162). -/
def execSurveyAnswer (wire : List Byte) (s : State) : Host.Outcome State Fault Refusal :=
  whileRunning (receive wire wantAnswer) s

/-- A frame that fails a check stage: its counter advances and the receiver passes to Discard (R161,
R184). -/
def takeDiscarded (wire : List Byte) (s : State) : State :=
  if receiving s then
    match judgeFrame wire with
    | .headerLost => countDiscardedHeader (endFrame false s)
    | .discarded corrected => countDiscardedFrame (endFrame corrected s)
    | .accepted _ _ _ => s
  else s

/-- FRAME_DISCARDED. -/
def execFrameDiscarded (wire : List Byte) (s : State) : Host.Outcome State Fault Refusal :=
  whileRunning (takeDiscarded wire) s

end Sys2Proof.Machine
end

