-- ==== Sys2Proof/Machine/Line.lean ====
section
/-! DEFINITION. The line port's own commands (chapter 9): line conditions, the own frame's end, breaks
and triggers, the stuck line, and the bulletin refresh. -/

namespace Sys2Proof.Machine

/-! ## The own frame (R168, R169) -/

/-- No entry is in flight any more. -/
def landed (q : List QueueEntry) : List QueueEntry := q.map (fun e => { e with inFlight := false })

/-- The own frame leaves the line, its entry kept (R168, R170, R173). -/
def dropOwnFrame (s : State) : State := s.setLine { s.line with queue := landed s.line.queue, onLine := none }

/-- The station is sending a frame, with no trigger driven across it. -/
def sending (s : State) : Option Frame := if s.line.driving.isNone then s.line.onLine else none

/-- The hand-offs of a completed own frame (R169). -/
def handCompletion (f : Frame) (s : State) : State :=
  let own := s.loader.station
  match f with
  | .bulletin _ _ _ => s.setLine { s.line with refresh := some 0 }
  | .order o => takeOrder o s
  | .take target slot seq => handTake own target slot seq s
  | .cancel target slot seq => handCancel own target slot seq s
  | .notice _ n => takeNotice own n s
  | .request _ _ _ | .answer _ _ => s

/-- An own frame ends with no mismatch: its entry leaves the queue unless replaced in flight, and the
completion is handed on (R169). -/
def takeCompletion (s : State) : State :=
  match sending s with
  | some f =>
    handCompletion f
      (s.setLine
        { s.line with
          queue := s.line.queue.filter (fun e => !e.inFlight), onLine := none, receiver := .discard })
  | none => s

/-- FRAME_COMPLETE. -/
def execFrameComplete (s : State) : Host.Outcome State Fault Refusal := whileRunning takeCompletion s

/-- Arbitration is lost: the station receives the winning frame from that bit (R168). -/
def takeArbitrationLost (s : State) : State :=
  if (sending s).isSome then countArbitrationLost ((dropOwnFrame s).setReceiver .frame) else s

/-- ARBITRATION_LOST. -/
def execArbitrationLost (s : State) : Host.Outcome State Fault Refusal := whileRunning takeArbitrationLost s

/-- An own frame is cut by a failed drive, or by a dominant run of 10 to 23 bit times, which the
receiver takes as a framing error (R160, R168). -/
def takeTransmitError (cause : BitErrorCause) (s : State) : State :=
  if s.line.onLine.isSome then
    let s := countBitError ((dropOwnFrame s).setReceiver .discard)
    match cause with
    | .driveFailed => s
    | .lineError => countDiscardedFrame s
  else s

/-- TRANSMIT_BIT_ERROR. -/
def execTransmitBitError (cause : BitErrorCause) (s : State) : Host.Outcome State Fault Refusal :=
  whileRunning (takeTransmitError cause) s

/-! ## Line conditions (R160, R173) -/

/-- The line fault clears (R173): a Fault call, a bulletin, and the refresh timer anew where it runs (log
entries 35 and 46). -/
def clearLineFault (s : State) : State :=
  let s := queueBulletin (requestCall .line (s.setLine { s.line with fault := false }))
  s.setLine { s.line with refresh := s.line.refresh.map (fun _ => 0) }

/-- The line is Idle (R160, R173, R175). -/
def takeIdle (s : State) : State :=
  match s.line.receiver with
  | .quiet | .discard | .stuck =>
    let s := s.setReceiver .quiet
    if s.line.fault then clearLineFault s else s
  | .frame | .brk | .codeWait => s

/-- LINE_IDLE: what it starts is `settleAtIdle`'s (R167, R171). -/
def execLineIdle (s : State) : Host.Outcome State Fault Refusal :=
  if s.power = .running then .next (settleAtIdle (takeIdle s)) else .next s

/-- A dominant run reaches 24 bit times (R160, R170). -/
def takeBreak (wire : List Byte) (s : State) : State :=
  let s := countCut wire s
  let s := if s.line.onLine.isSome then countAborted (dropOwnFrame s) else s
  s.setReceiver .brk

/-- BREAK. -/
def execLineBreak (s : State) (wire : List Byte := []) : Host.Outcome State Fault Refusal :=
  whileRunning (takeBreak wire) s

/-- A dominant run reaches 2,000 bit times: the line fault sets, and the station drives nothing (R173). -/
def takeStuck (s : State) : State :=
  let s := if s.line.fault then s else countStuck s
  let s := dropOwnFrame s
  s.setLine { s.line with receiver := .stuck, driving := none, fault := true }

/-- LINE_STUCK. -/
def execLineStuck (s : State) : Host.Outcome State Fault Refusal := whileRunning takeStuck s

/-- A frame ends early, or a code byte is cut by a framing error (R160, R172). -/
def takeFramingError (wire : List Byte) (s : State) : State :=
  if receiving s then countDiscardedFrame ((countCut wire s).setReceiver .discard)
  else
    match s.line.receiver with
    | .brk | .codeWait => s.setReceiver .discard
    | _ => s

/-- FRAMING_ERROR. -/
def execFramingError (s : State) (wire : List Byte := []) : Host.Outcome State Fault Refusal :=
  whileRunning (takeFramingError wire) s

/-! ## Triggers (R171, R172) -/

/-- The receiver waits for a code byte. That a break has ended has no command of its own (log entry 10). -/
def awaitsCode (s : State) : Bool := s.line.receiver == .brk || s.line.receiver == .codeWait

/-- The own trigger's break has ended, so the receiver is no longer in Break. -/
def Receiver.afterBreak : Receiver → Receiver
  | .brk => .codeWait
  | r => r

/-- The receiver after a Hush whose drive failed before its break: it passes to Discard (R168, R171, log entry
12). -/
def Receiver.afterFailedRun : Receiver → Receiver
  | .frame => .discard
  | r => r

/-- An own trigger is driven: its request is over, and a Hush is applied at the post (R171, R38). The code
byte's own row may come before or after this one: the model's choice, log entry 47. -/
def takeDriven (s : State) : State :=
  let l := { s.line with driving := none, receiver := s.line.receiver.afterBreak }
  match s.line.driving with
  | some .alert => s.setLine { l with alertHeld := false }
  | some .hush => takeHush (s.setLine { l with hushPending := false })
  | none => s

/-- TRIGGER_DRIVEN. -/
def execTriggerDriven (s : State) : Host.Outcome State Fault Refusal := whileRunning takeDriven s

/-- An own trigger is lost: the request stays; an Alert is driven again at once, a Hush at the next Idle
(R171). -/
def takeTriggerLost (cause : TriggerLoss) (s : State) : State :=
  match s.line.driving with
  | some t =>
    let s := s.setReceiver s.line.receiver.afterBreak
    let s :=
      match t with
      | .alert => s
      | .hush =>
        let r := if cause = .driveFailed then s.line.receiver.afterFailedRun else s.line.receiver
        s.setLine { s.line with driving := none, receiver := r }
    (match cause with
    | .driveFailed => countBitError s
    | .lostCode => s)
  | none => s

/-- TRIGGER_LOST. -/
def execTriggerLost (cause : TriggerLoss) (s : State) : Host.Outcome State Fault Refusal :=
  whileRunning (takeTriggerLost cause) s

/-- A code byte ends: the receiver passes to Discard and a known trigger is handed on (R172). -/
def takeCode (hand : State → State) (s : State) : State :=
  if awaitsCode s then hand (s.setReceiver .discard) else s

/-- ALERT_TRIGGER (R36). -/
def execAlertTrigger (s : State) : Host.Outcome State Fault Refusal := whileRunning (takeCode takeAlert) s

/-- HUSH_TRIGGER (R38). -/
def execHushTrigger (s : State) : Host.Outcome State Fault Refusal := whileRunning (takeCode takeHush) s

/-- Any other code byte is disregarded (R172). The two known codes are other commands'. -/
def takeOtherCode (code : Byte) (s : State) : State :=
  if code = Config.alertCode ∨ code = Config.hushCode then s else takeCode id s

/-- OTHER_TRIGGER_CODE: a held Alert that waited is driven by `settle`. -/
def execOtherTriggerCode (code : Byte) (s : State) : Host.Outcome State Fault Refusal :=
  whileRunning (takeOtherCode code) s

/-- CODE_WAIT_TIMEOUT (R160). -/
def execCodeWaitTimeout (s : State) : Host.Outcome State Fault Refusal :=
  whileRunning (fun s => if awaitsCode s then s.setReceiver .discard else s) s

/-! ## Bulletin refresh (R165) -/

/-- The refresh timer runs out: a bulletin, and the timer anew (R165). -/
def takeRefresh (s : State) : State :=
  if due s.line.refresh Config.refreshTime then
    let s := queueBulletin s
    s.setLine { s.line with refresh := some 0 }
  else s

/-- BULLETIN_REFRESH_EXPIRY. -/
def execBulletinRefreshExpiry (s : State) : Host.Outcome State Fault Refusal := whileRunning takeRefresh s

end Sys2Proof.Machine
end

