-- ==== Sys2Proof/Machine/Scans.lean ====
section
/-! DEFINITION. The front end and the hazard evaluator (chapter 1), with the chain supervision that
reads the same scan (R153 to R155), and their commands. -/

namespace Sys2Proof.Machine

/-! ## Heads -/

/-- Default thresholds (R8). -/
def defaultThresholds : HeadKind → Thresholds
  | .smoke => ⟨12, 24, 40⟩
  | .heat => ⟨600, 700, 40⟩

/-- The order R8 requires of a head's thresholds. -/
def thresholdsOrdered (k : HeadKind) (t : Thresholds) : Bool :=
  match k with
  | .smoke => 5 ≤ t.one && t.one < t.two && t.two < t.three && t.three ≤ 255
  | .heat => t.one < t.two && t.two ≤ 1023 && 8 ≤ t.three && t.three ≤ 255

/-- A head record at its reset values (R24). -/
def Head.fresh (k : HeadKind) (t : Thresholds) (refused : Bool) : Head :=
  { kind := k, thresholds := t, refused := refused, level := .clear, confirm := 0, fireWorthy := false
    graded := false, excess := 0, temperature := 0, rise := 0, baseline := none, updates := 0
    dirty := false, window := [], fault := false, badRun := 0, goodRun := 0 }

/-- A smoke head's reading: lit less dark, 0 when negative (R9). -/
def smokeReading (r : HeadReading) : Nat := r.second.toNat - r.first.toNat

/-- A smoke head's excess above its baseline; 0 in the scan that seeds it (R9). -/
def excessOf (baseline : Option Nat) (v : Nat) : Nat :=
  match baseline with
  | some b => v - b / 64
  | none => 0

/-- A heat head's rise (R13). -/
def riseOf (window : List Nat) (t : Nat) : Nat :=
  if window.length = Config.windowLimit then t - window.headD 0 else 0

/-- A reading joins a heat window, the oldest leaving a full one (R13). -/
def joinWindow (t : Nat) (window : List Nat) : List Nat :=
  (if window.length < Config.windowLimit then window else window.tail) ++ [t]

/-- The scan shows a Fire reading of the head (R16). -/
def fireWorthyAt (k : HeadKind) (t : Thresholds) (excess temperature rise : Nat) : Bool :=
  match k with
  | .smoke => t.three ≤ excess
  | .heat => t.two ≤ temperature || t.three ≤ rise

/-- The reading is bad: low (Smoke, R12), or out of range (Heat, R14). -/
def badReading (k : HeadKind) (r : HeadReading) : Bool :=
  match k with
  | .smoke => smokeReading r < Config.lowSmoke
  | .heat => r.first.toNat == 0 || r.first.toNat == 1023

/-- Bad readings running that put a head in Fault (R12, R14). -/
def faultRun : HeadKind → Nat
  | .smoke => Config.lowSmokeRun
  | .heat => Config.heatFaultRun

/-- The head enters Fault (R12, R14): frozen, its confirm count 0 and a heat window empty. -/
def Head.enterFault (h : Head) : Head :=
  { h with fault := true, confirm := 0, badRun := 0, goodRun := 0
           window := match h.kind with | .heat => [] | .smoke => h.window }

/-- The fault check of a head's step (R12, R14). -/
def Head.checkFault (r : HeadReading) (h : Head) : Head :=
  let bad := badReading h.kind r
  if h.fault then
    if bad then { h with goodRun := 0 }
    else if h.goodRun + 1 < Config.recoveryRun then { h with goodRun := h.goodRun + 1 }
    else { h with fault := false, confirm := 0, badRun := 0, goodRun := 0 }
  else if bad then
    if h.badRun + 1 < faultRun h.kind then { h with badRun := h.badRun + 1 } else h.enterFault
  else { h with badRun := 0 }

/-- The grading of a healthy head (R16, R17) with its last graded values (R9, R13). -/
def Head.grade (required : Nat) (r : HeadReading) (h : Head) : Head :=
  let x := match h.kind with | .smoke => excessOf h.baseline (smokeReading r) | .heat => 0
  let t := match h.kind with | .smoke => 0 | .heat => r.first.toNat
  let d := match h.kind with | .smoke => 0 | .heat => riseOf h.window t
  let worthy := fireWorthyAt h.kind h.thresholds x t d
  let confirm := if worthy then min (h.confirm + 1) required else 0
  let e := entryLevel h.kind h.thresholds (decide (required ≤ confirm)) x t d
  let hold := holdLevel h.kind h.thresholds x t d
  { h with
    graded := true, excess := x, temperature := t, rise := d, fireWorthy := worthy, confirm := confirm
    level := if h.level = .fire then .fire else e.higher (h.level.lower hold) }

/-- The Dirty check that follows a seeding or an update (R11). -/
def Head.checkDirty (h : Head) : Head :=
  { h with dirty := decide (Config.dirtyAbove < (h.baseline.getD 0) / 64) }

/-- One update of a baseline toward a reading, the quotient truncated toward zero (R10). -/
def updatedBaseline (b v : Nat) : Nat := ((b : Int) + ((v : Int) * 64 - b).tdiv 64).toNat

/-- The maintenance that follows a grading (R10, R11, R13, R15). -/
def Head.maintain (r : HeadReading) (h : Head) : Head :=
  match h.kind with
  | .heat => { h with window := joinWindow r.first.toNat h.window }
  | .smoke =>
    match h.baseline with
    | none => Head.checkDirty { h with baseline := some (smokeReading r * 64), updates := 0 }
    | some b =>
      if h.updates + 1 < Config.updateEvery then { h with updates := h.updates + 1 }
      else if h.level = .clear then
        Head.checkDirty { h with baseline := some (updatedBaseline b (smokeReading r)), updates := 0 }
      else { h with updates := 0 }

/-- A head's whole step (R15). -/
def Head.step (required : Nat) (r : HeadReading) (h : Head) : Head :=
  let h := h.checkFault r
  if h.fault then h else (h.grade required r).maintain r

def State.setHead (s : State) (k : Fin 4) (h : Head) : State :=
  s.setHazard { s.hazard with heads := s.hazard.heads.set k (some h) }

/-- What a head's step asks of other blocks, in the step's order (R11, R12, R14, R18); the Dirty call before
the bulletin by log entry 46. -/
def headRequests (k : Fin 4) (old new : Head) (s : State) : State :=
  let s := if new.fault && !old.fault then requestCall (.headFault k) s else s
  let s := if new.level == .fire && old.level != .fire then requestCall (.head k) s else s
  let s := if new.dirty && !old.dirty then requestCall (.headDirty k) s else s
  if new.dirty != old.dirty then queueBulletin s else s

/-- Head `k` of the head set takes its step (R15). -/
def stepHead (readings : Four HeadReading) (s : State) (k : Fin 4) : State :=
  match s.hazard.heads.get k with
  | some h =>
    let new := h.step (confirmRequired s.control.posture) (readings.get k)
    headRequests k h new (s.setHead k new)
  | none => s

/-! ## The head set (R7) -/

/-- The head set follows the presence senses: before the load and under the fallback profile (R7). -/
def followsPresence (s : State) : Bool := s.loader.state != .loaded

/-- A head position under its presence sense (R7). -/
def headByPresence (present : Bool) (old : Option Head) : Option Head :=
  if present then some (old.getD (Head.fresh .smoke (defaultThresholds .smoke) false)) else none

/-- A head position when the profile loads (R7, R8). A carried Heat head has no graded reading until it is
graded: the model's choice, log entry 45. A carried Smoke head has the profile's thresholds from here, where R7
has it run on them from its next grading: an accepted Restore between the two (R23) computes E with the
profile's, the model's choice, log entry 50. -/
def headByProfile (cfg : Option HeadConfig) (old : Option Head) : Option Head :=
  cfg.map (fun c =>
    let ok := thresholdsOrdered c.kind c.thresholds
    let t := if ok then c.thresholds else defaultThresholds c.kind
    let start := Head.fresh c.kind t (!ok)
    match old, c.kind with
    | some h, .smoke => { h with kind := .smoke, thresholds := t, refused := !ok }
    | some h, .heat => { start with level := h.level, fireWorthy := h.fireWorthy }
    | none, _ => start)

/-- A head at Fire left the head set (R7, R19). -/
def fireRemoved (old new : Four (Option Head)) : Bool :=
  allFour.any (fun k =>
    (new.get k).isNone && (match old.get k with | some h => h.level == .fire | none => false))

/-- The head set changes: a Fire head that leaves it sets the manual Fire latch; a change of the Dirty
indications queues a bulletin; zone hazard and Blind are re-evaluated (R7, R19, R20, R21). -/
def changeHeads (new : Four (Option Head)) (s : State) : State :=
  let old := s.hazard
  let s :=
    s.setHazard { s.hazard with heads := new, manualFire := s.hazard.manualFire || fireRemoved old.heads new }
  let s := if dirtyHeads s.hazard = dirtyHeads old then s else queueBulletin s
  evaluateBlind (recomputeZone s)

/-! ## Scans (R1 to R6) -/

/-- The sequencer begins a scan: the interval timer restarts, and what the strip showed before is of no more use
(R1, R153). -/
def beginScan (warmUp : Bool) (s : State) : State :=
  (s.setFront
    { s.front with scan := some { warmUp := warmUp, void := false }, scanHeld := false, interval := true }).setLamp
    { s.lamp with turns := [] }

/-- A scan starts, and its head set is fixed (R1, R7). -/
def startScan (warmUp : Bool) (present : BitVec 4) (s : State) : State :=
  let s := beginScan warmUp s
  if followsPresence s then
    changeHeads (Four.tabulate (fun k => headByPresence (present.getLsbD k.val) (s.hazard.heads.get k))) s
  else s

/-- The references are in band (R4). -/
def referencesInBand (r : ScanReadings) : Bool := 960 ≤ r.refh.toNat && r.refl.toNat ≤ 63

/-- Front-end fault sets (R5): heads are frozen by it, Blind sets, the call is asked for, one bulletin is
queued, in this order by log entry 46. -/
def setFrontEndFault (s : State) : State :=
  let s := s.setFront { s.front with fault := true }
  let s := s.setHazard { s.hazard with blind := true }
  recomputeZone (queueBulletin (requestCall .frontEnd s))

/-- An invalid scan (R4, R5). -/
def takeInvalidScan (s : State) : State :=
  let run := min (s.front.invalidRun + 1) Config.invalidLimit
  let s := countInvalidScan (s.setFront { s.front with invalidRun := run })
  if run = Config.invalidLimit ∧ s.front.fault = false then setFrontEndFault s else s

/-- Front-end fault clears at the first valid scan: Blind is re-evaluated and one bulletin queued (R6), captured
with the heads as they stand before their steps: the model's choice, log entry 14. -/
def clearFrontEndFault (s : State) : State :=
  if s.front.fault then
    let s := s.setFront { s.front with fault := false }
    queueBulletin (s.setHazard { s.hazard with blind := blindOf false s.hazard.heads })
  else s

/-- The last raw readings take a valid scan's: every head of the set, the references and the chains (R2). -/
def storeRaw (r : ScanReadings) (s : State) : State :=
  let heads := Four.tabulate (fun k =>
    match s.hazard.heads.get k with
    | some h => (match h.kind with | .smoke => r.heads.get k | .heat => ⟨(r.heads.get k).first, 0⟩)
    | none => s.front.lastRaw.heads.get k)
  s.setFront
    { s.front with
      lastRaw := { refh := r.refh, refl := r.refl, heads := heads, isg := r.isg, isa := r.isa, isb := r.isb } }

/-! ## Chain supervision (R153 to R155) -/

/-- A chain takes one reading; a dark one is passed over (R153, R154, R155). -/
def Chain.take (reading : Nat) (dark : Bool) (c : Chain) : Chain :=
  if dark then c
  else if c.fault then
    if reading < Config.chainFloor then { c with recovery := 0 }
    else if c.recovery + 1 < Config.chainRun then { c with recovery := c.recovery + 1 }
    else { fault := false, lowRun := 0, recovery := 0 }
  else if reading < Config.chainFloor then
    if c.lowRun + 1 < Config.chainRun then { c with lowRun := c.lowRun + 1 }
    else { fault := true, lowRun := 0, recovery := 0 }
  else { c with lowRun := 0 }

/-- A chain's fault state after its reading: a Fault call when it enters, a bulletin at either change (R154,
R155), in this order by log entry 46. -/
def chainRequests (src : Source) (old new : Chain) (s : State) : State :=
  let s := if new.fault && !old.fault then requestCall src s else s
  if new.fault != old.fault then queueBulletin s else s

/-- The driver takes the three chain currents of a valid scan, each strip reading with the mark of what the
strip showed at its conversion (R2, R153 to R155; log entry 19). The sign goes first, then chain A, then
chain B: the model's choice, log entry 46. -/
def takeChains (shown : Lamp) (r : ScanReadings) (s : State) : State :=
  let sign := s.lamp.sign
  let a := s.lamp.chainA
  let b := s.lamp.chainB
  let s := s.setLamp { s.lamp with sign := sign.take r.isg.toNat false }
  let s := chainRequests .chainSign sign s.lamp.sign s
  let s := s.setLamp { s.lamp with chainA := a.take r.isa.toNat (shown.showBefore r.sinceA).darkA }
  let s := chainRequests .chainA a s.lamp.chainA s
  let s := s.setLamp { s.lamp with chainB := b.take r.isb.toNat (shown.showBefore r.sinceB).darkB }
  chainRequests .chainB b s.lamp.chainB s

/-! ## A scan's result -/

/-- A valid scan (R2, R4, R6, R15): the fault clears, the heads take their steps in ascending order, the
zone hazard and Blind are re-evaluated once, and the driver takes the chain currents, converted under the
lamps as they stood before the scan's result. R6's own re-evaluation of Blind and its bulletin come before the
heads' steps: the model's choice, log entry 14. -/
def takeValidScan (r : ScanReadings) (s : State) : State :=
  let shown := s.lamp
  let s := s.setFront { s.front with invalidRun := 0 }
  let s := storeRaw r (clearFrontEndFault s)
  let s := allFour.foldl (stepHead r.heads) s
  takeChains shown r (evaluateBlind (recomputeZone s))

/-- A completed scan's result (R2, R3, R4, R7): warm-up and a scan that the load overtook are discarded
whole. -/
def takeResult (scan : Scan) (r : ScanReadings) (s : State) : State :=
  if scan.warmUp || scan.void then s
  else if referencesInBand r then takeValidScan r s
  else takeInvalidScan s

/-- A scan completes; one that was held starts (R1, R2). -/
def takeScan (r : ScanReadings) (present : BitVec 4) (s : State) : State :=
  match s.front.scan with
  | some scan =>
    let held := s.front.scanHeld
    let s := takeResult scan r (s.setFront { s.front with scan := none, scanHeld := false })
    if held then startScan false present s else s
  | none => s

/-- SCAN_RESULT. -/
def execScanResult (r : ScanReadings) (present : BitVec 4) (s : State) : Host.Outcome State Fault Refusal :=
  whileRunning (takeScan r present) s

/-- The scan interval expires: a scan starts, or is held until the current one completes (R1). -/
def takeInterval (present : BitVec 4) (s : State) : State :=
  if s.front.scan.isSome then s.setFront { s.front with scanHeld := true }
  else startScan false present s

/-- SCAN_INTERVAL_EXPIRY. -/
def execScanIntervalExpiry (present : BitVec 4) (s : State) : Host.Outcome State Fault Refusal :=
  whileRunning (takeInterval present) s

end Sys2Proof.Machine
end

