-- ==== Sys2Proof/Machine/Loading.lean ====
section
/-! DEFINITION. The profile loader (chapter 10): the load states, the completion with each block's part
in it, and the profile fault flag. -/

namespace Sys2Proof.Machine

/-! ## Each block's part in the completion (R180) -/

/-- Every head's thresholds pass R8 (R180). -/
def thresholdsPass (p : Profile) : Bool := p.heads.all (fun c => thresholdsOrdered c.kind c.thresholds)

/-- The profile result (R180). -/
def resultOf (reached : LoadState) (p : Profile) : ProfileResult :=
  if reached = .fallback then .fallback
  else if thresholdsPass p then .loaded
  else .loadedDefaults

/-- The loader records the completion (R178, R180). -/
def recordLoad (reached : LoadState) (p : Profile) (s : State) : State :=
  s.setLoader { s.loader with state := reached, config := some p, result := resultOf reached p }

/-- The profile fault flag at the completion: the call, then the bulletin (R181; log entry 46). -/
def raiseProfileFault (s : State) : State :=
  if s.loader.result = .loaded then s
  else queueBulletin (requestCall .profile (s.setLoader { s.loader with profileFault := true }))

/-- One entry for each adjacency, Unheard (R44). -/
def buildEntries (p : Profile) (s : State) : State :=
  s.setPeers
    { s.peers with
      entries := p.adjacencies.map (fun a => { fixed := a, status := .unheard, age := none, heard := none }) }

/-- The entries whose passage door reference names an own leaf (R80). -/
def linksOf (p : Profile) (n : Fin 4) : List (Fin 8) :=
  allEight.filter (fun j => (p.adjacencies[j.val]?).any (fun a => a.door == .own n))

/-- A leaf position at the completion (R80, R103). -/
def configureLeaf (p : Profile) (s : State) (n : Fin 4) : Leaf :=
  match p.leaves.get n with
  | some c =>
    let lf := { s.doors.leaves.get n with role := .configured c (p.exitLeaf == some n) (linksOf p n) }
    let demand := demandNow s lf
    let lf := if lf.state = .opened then lf else lf.shut demand
    let lf := { lf with magnet := magnetNow s lf }
    lf.propChecked demand
  | none => { Leaf.atReset with role := .dropped }

/-- The leaf records at the completion (R80, R103). No such leaf makes a request. -/
def configureLeaves (p : Profile) (s : State) : State :=
  s.setDoors { s.doors with leaves := Four.tabulate (configureLeaf p s) }

/-- The head set at the completion: a loaded profile's heads, and a scan that began before it is void
(R7, R8); under the fallback profile the heads go on following the presence senses. -/
def configureHeads (p : Profile) (s : State) : State :=
  if s.loader.state = .loaded then
    let s := s.setFront { s.front with scan := s.front.scan.map (fun sc => { sc with void := true }) }
    changeHeads (Four.tabulate (fun k => headByProfile p.heads[k.val]? (s.hazard.heads.get k))) s
  else s

/-- The default aspect takes the placeholder's place (R147). -/
def showDefaultAspect (p : Profile) (s : State) : State :=
  if s.control.posture ≠ .evacuate ∧ s.route.next = .none ∧ s.lamp.placeholder = true then
    s.setLamp { s.lamp with aspect := p.defaultAspect, placeholder := false }
  else s

/-- A press that waited is taken by the input's kind, or dropped (R107). -/
def takeWaitingPress (s : State) (i : Fin 6) : State :=
  match inputKind s i with
  | .helpPoint => takeHelpPress i s
  | .firePoint => takeFirePress i s
  | .motion | .unconfigured => s.setInput i { s.calls.inputs.get i with pressed := false }

/-- The waiting presses, then the Motion inputs (R107, R110). -/
def takeWaiting (s : State) : State := requestMotion (allSix.foldl takeWaitingPress s)

/-- The post role begins where the profile sets the post flag (R126). -/
def beginRoleIf (p : Profile) (s : State) : State := if p.post then beginRole s else s

/-- The join timer starts if the posture is still Startup (R27). -/
def startJoin (s : State) : State :=
  if s.control.posture = .startup then s.setControl { s.control with joinTimer := some 0 } else s

/-- A pending Alert is handed over (R33). -/
def serveAlert (s : State) : State :=
  if s.control.alertPending then requestAlert (s.setControl { s.control with alertPending := false }) else s

/-- The bulletin refresh timer of a station that transmits starts (R165). -/
def startRefresh (s : State) : State :=
  if strapped s then s.setLine { s.line with refresh := some 0 } else s

/-- The load completes with a configuration; the blocks take it one after another (R180, log entry 6). -/
def completeLoad (reached : LoadState) (p : Profile) (s : State) : State :=
  recordLoad reached p s |> buildEntries p |> configureLeaves p |> computeRoute
    |> configureHeads p |> showDefaultAspect p |> raiseProfileFault |> takeWaiting |> beginRoleIf p
    |> startJoin |> serveAlert |> startRefresh

/-! ## Commands -/

def State.setLoadState (s : State) (x : LoadState) : State := s.setLoader { s.loader with state := x }

/-- A profile read completes and the block is judged (R178, R179). -/
def takeRead (block : List Byte) (s : State) : State :=
  match s.loader.state with
  | .firstRead =>
    (match profileOf s.loader.station block with
    | some p => completeLoad .loaded p s
    | none => s.setLoadState .waiting)
  | .secondRead =>
    (match profileOf s.loader.station block with
    | some p => completeLoad .loaded p s
    | none => completeLoad .fallback fallbackProfile s)
  | .notStarted | .waiting | .loaded | .fallback => s

/-- PROFILE_READ_DONE. -/
def execProfileReadDone (block : List Byte) (s : State) : Host.Outcome State Fault Refusal :=
  whileRunning (takeRead block) s

/-- The wait after a failed first read ends (R178). -/
def takeLoadWait (s : State) : State :=
  if s.loader.state = .waiting then s.setLoadState .secondRead else s

/-- LOAD_WAIT_EXPIRY. -/
def execLoadWaitExpiry (s : State) : Host.Outcome State Fault Refusal := whileRunningLocal takeLoadWait s

end Sys2Proof.Machine
end

