-- ==== Sys2Proof/Machine/Resets.lean ====
section
/-! DEFINITION. Resets and the supply (R176, R177), and the second that passes (R50, spec 0.6). -/

namespace Sys2Proof.Machine

/-- The state a reset leaves: `State.reset`, with the interface's commands and inputs still to come and the
model's count of free values kept (R176; log entries 8, 34 and 38). -/
def resetState (s : State) : State :=
  let r := State.reset.setPending s.pending |>.setFreeUsed s.freeUsed
  r.setLine { r.line with startBits := s.line.startBits }

/-- POWER_ON_RESET: every block takes its starting state and every counter is zero (R176, R187). -/
def execPowerOnReset (s : State) : Host.Outcome State Fault Refusal :=
  .next (resetState s)

/-- The starting state of a pin reset: as after power-on, with the counters kept (R176, R187). -/
def pinResetState (s : State) : State :=
  let r := (resetState s).setCounters s.counters
  r.setLoader { r.loader with cause := .pin }

/-- PIN_RESET, which may cut a frame that is being received. An unpowered station takes none (R161, R169,
R176). -/
def execPinReset (s : State) (wire : List Byte := []) : Host.Outcome State Fault Refusal :=
  if s.power = .off then .next s else .next (pinResetState (countCut wire s))

/-- The pins read when a reset ends (R102, R125, R135, R177). -/
def readPins (pins : Pins) (s : State) : State :=
  let s :=
    s.setLoader
      { s.loader with
        state := .firstRead, station := ⟨pins.straps.toNat, by have := pins.straps.isLt; omega⟩
        baudHigh := pins.baudHigh }
  let s :=
    s.setDoors
      { s.doors with
        leaves := Four.tabulate (fun n =>
          Leaf.provisional (pins.doorClosed.getLsbD n.val) (pins.boltThrown.getLsbD n.val)) }
  let s :=
    s.setCalls
      { s.calls with
        inputs := Six.tabulate (fun i => ⟨pins.callActive.getLsbD i.val, false⟩), grsOn := pins.grsOn }
  s.setPost
    { s.post with
      down := keysRead pins.keysDown, panel := freshPanel (keysRead pins.keysDown)
      authOn := pins.authOn }

/-- RESET_END: the pins are read, the first read begins and the warm-up scan starts (R177, R178, R1,
R3). -/
def execResetEnd (pins : Pins) (s : State) : Host.Outcome State Fault Refusal :=
  if s.power = .held then
    .next (settle (startScan true pins.present (readPins pins (s.setPower .running))))
  else .next s

/-- A leaf's travel ends with the supply (R176). -/
def Leaf.unpowered (lf : Leaf) : Leaf := { lf with bolt := none }

/-- The supply falls: what is in progress ends and no output is driven (R176). -/
def losePower (s : State) : State :=
  let s := s.setFront { s.front with scan := none, scanHeld := false, interval := false }
  let s := s.setLine { s.line with queue := s.line.queue.map (fun e => { e with inFlight := false })
                                   onLine := none, driving := none }
  let s := s.setDoors { s.doors with leaves := s.doors.leaves.map Leaf.unpowered }
  let s := s.setLamp { s.lamp with driveSign := none, driveA := none, driveB := none }
  showOutputs (s.setPower .off)

/-- SUPPLY_LOSS. -/
def execSupplyLoss (s : State) : Host.Outcome State Fault Refusal := .next (losePower s)

/-! ## A second passes (log entry 4) -/

def Entry.older (e : Entry) : Entry := { e with age := tick e.age }

def Slot.older (sl : Slot) : Slot :=
  if sl.isOpen then { sl with age := satInc sl.age, repeatTimer := tick sl.repeatTimer } else sl

def Leaf.older (lf : Leaf) : Leaf := { lf with pass := tick lf.pass, prop := tick lf.prop, bolt := tick lf.bolt }

def BoardEntry.older (e : BoardEntry) : BoardEntry := { e with lastHeard := satInc e.lastHeard }

def Blink.older (b : Blink) : Blink := { b with elapsed := satInc b.elapsed }

/-- Every age and every whole-second timer that runs takes one more second (R50, R116, R131). -/
def passSecond (s : State) : State :=
  let s := s.setPeers { s.peers with entries := s.peers.entries.map Entry.older
                                     duplicateTimer := tick s.peers.duplicateTimer }
  let s := s.setCalls { s.calls with slots := s.calls.slots.map Slot.older }
  let s := s.setDoors { s.doors with leaves := s.doors.leaves.map Leaf.older }
  let s := s.setControl { s.control with joinTimer := tick s.control.joinTimer }
  let s := s.setPost { s.post with board := s.post.board.map BoardEntry.older
                                   returnTimer := tick s.post.returnTimer
                                   blink := s.post.blink.map Blink.older
                                   helpChime := tick s.post.helpChime }
  let s := s.setLamp { s.lamp with test := tick s.lamp.test }
  s.setLine { s.line with refresh := tick s.line.refresh }

/-- AGE_ADVANCE. -/
def execAgeAdvance (s : State) : Host.Outcome State Fault Refusal := whileRunningLocal passSecond s

end Sys2Proof.Machine
end

