-- ==== Sys2Proof/Machine/Dispatch.lean ====
section
/-! DEFINITION. The one match from a command to its meaning, in the order of spec/opcode_table.json. -/

namespace Sys2Proof.Machine

/-- The effect of a command on everything but the queue of commands. -/
def exec (i : Instr) (s : State) : Host.Outcome State Fault Refusal :=
  match i with
  | .powerOnReset => Sys2Proof.Machine.execPowerOnReset s
  | .pinReset wire => Sys2Proof.Machine.execPinReset s wire
  | .resetEnd pins => Sys2Proof.Machine.execResetEnd pins s
  | .profileReadDone block => Sys2Proof.Machine.execProfileReadDone block s
  | .loadWaitExpiry => Sys2Proof.Machine.execLoadWaitExpiry s
  | .scanIntervalExpiry present => Sys2Proof.Machine.execScanIntervalExpiry present s
  | .scanResult readings present => Sys2Proof.Machine.execScanResult readings present s
  | .joinTimerExpiry => Sys2Proof.Machine.execJoinTimerExpiry s
  | .lineIdle => Sys2Proof.Machine.execLineIdle s
  | .frameComplete => Sys2Proof.Machine.execFrameComplete s
  | .arbitrationLost => Sys2Proof.Machine.execArbitrationLost s
  | .transmitBitError cause => Sys2Proof.Machine.execTransmitBitError cause s
  | .lineBreak wire => Sys2Proof.Machine.execLineBreak s wire
  | .triggerDriven => Sys2Proof.Machine.execTriggerDriven s
  | .triggerLost cause => Sys2Proof.Machine.execTriggerLost cause s
  | .alertTrigger => Sys2Proof.Machine.execAlertTrigger s
  | .hushTrigger => Sys2Proof.Machine.execHushTrigger s
  | .codeWaitTimeout => Sys2Proof.Machine.execCodeWaitTimeout s
  | .lineStuck => Sys2Proof.Machine.execLineStuck s
  | .framingError wire => Sys2Proof.Machine.execFramingError s wire
  | .frameDiscarded wire => Sys2Proof.Machine.execFrameDiscarded wire s
  | .bulletin wire => Sys2Proof.Machine.execBulletin wire s
  | .fireBulletin wire => Sys2Proof.Machine.execFireBulletin wire s
  | .postureOrderDay wire => Sys2Proof.Machine.execPostureOrderDay wire s
  | .postureOrderNight wire => Sys2Proof.Machine.execPostureOrderNight wire s
  | .postureOrderRestore wire => Sys2Proof.Machine.execPostureOrderRestore wire s
  | .callNotice wire => Sys2Proof.Machine.execCallNotice wire s
  | .callTake wire => Sys2Proof.Machine.execCallTake wire s
  | .callCancel wire => Sys2Proof.Machine.execCallCancel wire s
  | .surveyIdentity wire => Sys2Proof.Machine.execSurveyIdentity wire s
  | .surveyCounters wire => Sys2Proof.Machine.execSurveyCounters wire s
  | .surveyPeerEntry wire => Sys2Proof.Machine.execSurveyPeerEntry wire s
  | .surveyCallSlot wire => Sys2Proof.Machine.execSurveyCallSlot wire s
  | .surveyDoorLeaf wire => Sys2Proof.Machine.execSurveyDoorLeaf wire s
  | .surveyHead wire => Sys2Proof.Machine.execSurveyHead wire s
  | .surveyRoute wire => Sys2Proof.Machine.execSurveyRoute wire s
  | .surveyUnknownSection wire => Sys2Proof.Machine.execSurveyUnknownSection wire s
  | .surveyAnswer wire => Sys2Proof.Machine.execSurveyAnswer wire s
  | .bulletinRefreshExpiry => Sys2Proof.Machine.execBulletinRefreshExpiry s
  | .staleExpiry entry => Sys2Proof.Machine.execStaleExpiry entry s
  | .lostExpiry entry => Sys2Proof.Machine.execLostExpiry entry s
  | .duplicateTimerExpiry => Sys2Proof.Machine.execDuplicateTimerExpiry s
  | .doorContactChange leaf closed => Sys2Proof.Machine.execDoorContactChange leaf closed s
  | .boltContactChange leaf thrown => Sys2Proof.Machine.execBoltContactChange leaf thrown s
  | .exitRequestEdge leaf => Sys2Proof.Machine.execExitRequestEdge leaf s
  | .exitRequest leaf => Sys2Proof.Machine.execExitRequest leaf s
  | .boltTimeExpiry leaf => Sys2Proof.Machine.execBoltTimeExpiry leaf s
  | .propTimerExpiry leaf => Sys2Proof.Machine.execPropTimerExpiry leaf s
  | .passExpiry leaf => Sys2Proof.Machine.execPassExpiry leaf s
  | .callInputChange input active => Sys2Proof.Machine.execCallInputChange input active s
  | .helpPointPress input => Sys2Proof.Machine.execHelpPointPress input s
  | .firePointPress input => Sys2Proof.Machine.execFirePointPress input s
  | .repeatTimerExpiry slot => Sys2Proof.Machine.execRepeatTimerExpiry slot s
  | .galleryReset on => Sys2Proof.Machine.execGalleryReset on s
  | .keyDown key => Sys2Proof.Machine.execKeyDown key s
  | .keyUp key => Sys2Proof.Machine.execKeyUp key s
  | .authChange on => Sys2Proof.Machine.execAuthChange on s
  | .returnTimerExpiry => Sys2Proof.Machine.execReturnTimerExpiry s
  | .silent station slot => Sys2Proof.Machine.execSilent station slot s
  | .refusalBlinkPhase => Sys2Proof.Machine.execRefusalBlinkPhase s
  | .refusalBlinkEnd => Sys2Proof.Machine.execRefusalBlinkEnd s
  | .lampTestEnd => Sys2Proof.Machine.execLampTestEnd s
  | .helpChimeEnd => Sys2Proof.Machine.execHelpChimeEnd s
  | .drivePeriod => Sys2Proof.Machine.execDrivePeriod s
  | .chaseStepExpiry => Sys2Proof.Machine.execChaseStepExpiry s
  | .flashPhaseExpiry => Sys2Proof.Machine.execFlashPhaseExpiry s
  | .supplyLoss => Sys2Proof.Machine.execSupplyLoss s
  | .ageAdvance => Sys2Proof.Machine.execAgeAdvance s
  | .sounderCadenceExpiry => Sys2Proof.Machine.execSounderCadenceExpiry s
  | .otherTriggerCode code => Sys2Proof.Machine.execOtherTriggerCode code s

end Sys2Proof.Machine
end

