-- ==== Sys2Proof/Safety.lean ====
section
/-! DEFINITION. What holds of a station between its steps: a step that does not stop, and the forms that
the manual gives the records the blocks share. -/

namespace Sys2Proof.Machine

/-- The step answers a next state. -/
def StepSafe (s : State) : Prop := ∃ t, step s = .next t

/-- A property that every step keeps. -/
def Kept (inv : State → Prop) : Prop := ∀ s t, inv s → step s = .next t → inv t

/-! ## What a command answers, and what it leaves alone -/

/-- The fields of State, by name: the twelve blocks of spec 0.3 and what stands beside them. -/
inductive Block where
  | power | loader | front | hazard | control | peers | route | doors | calls | post | lamp | line | counters | outputs | freeUsed | pending
  deriving DecidableEq, Repr

/-- One field is the same in two states. -/
def SameBlock (s t : State) : Block → Prop
  | .power => t.power = s.power
  | .loader => t.loader = s.loader
  | .front => t.front = s.front
  | .hazard => t.hazard = s.hazard
  | .control => t.control = s.control
  | .peers => t.peers = s.peers
  | .route => t.route = s.route
  | .doors => t.doors = s.doors
  | .calls => t.calls = s.calls
  | .post => t.post = s.post
  | .lamp => t.lamp = s.lamp
  | .line => t.line = s.line
  | .counters => t.counters = s.counters
  | .outputs => t.outputs = s.outputs
  | .freeUsed => t.freeUsed = s.freeUsed
  | .pending => t.pending = s.pending

/-- Two states agree in every field but those listed. -/
def SameOutside (changed : List Block) (s t : State) : Prop := ∀ b, b ∈ changed ∨ SameBlock s t b

/-- The command answers a next state, of which a property holds. -/
def Answers (i : Instr) (s : State) (p : State → Prop) : Prop := ∃ t, exec i s = .next t ∧ p t

/-- The command answers a next state that agrees with the given one in every field but those listed, and
has a further property. -/
def Changes (i : Instr) (s : State) (changed : List Block) (p : State → Prop) : Prop :=
  Answers i s (fun t => SameOutside changed s t ∧ p t)

/-- The station runs, its receiver takes bytes of another sender, and the bytes are an accepted frame. -/
def Hears (wire : List Byte) (corrected : Bool) (source : Station) (f : Frame) (s : State) : Prop :=
  s.power = .running ∧ receiving s = true ∧ judgeFrame wire = .accepted corrected source f

/-- The counters after a frame whose header was corrected or clean (R161). -/
def headerCounted (corrected : Bool) (c : Counters) : Counters :=
  if corrected then { c with correctedHeader := satInc c.correctedHeader } else c

/-- A frame with some property waits in the transmit queue. -/
def Waits (s : State) (p : Frame → Prop) : Prop := ∃ e ∈ s.line.queue, p e.frame

/-- The queue has room for a new entry. -/
def HasRoom (s : State) : Prop := s.line.queue.length < Config.queueLimit

/-- The command that stands for a survey request of a section (spec 11.4). -/
def surveyRow (area : Fin 16) (wire : List Byte) : Instr :=
  match area.val with
  | 0 => .surveyIdentity wire
  | 1 => .surveyCounters wire
  | 2 => .surveyPeerEntry wire
  | 3 => .surveyCallSlot wire
  | 4 => .surveyDoorLeaf wire
  | 5 => .surveyHead wire
  | 6 => .surveyRoute wire
  | _ => .surveyUnknownSection wire

/-- The command that stands for a bulletin of either kind. -/
def bulletinRow (asFire : Bool) (wire : List Byte) : Instr :=
  if asFire then .fireBulletin wire else .bulletin wire

/-! ## Heads (chapter 1) -/

/-- The order that R8 requires of a head's thresholds. -/
def thresholdsInOrder (c : HeadConfig) : Bool :=
  match c.kind with
  | .smoke =>
    decide (5 ≤ c.thresholds.one ∧ c.thresholds.one < c.thresholds.two ∧ c.thresholds.two < c.thresholds.three
      ∧ c.thresholds.three ≤ 255)
  | .heat =>
    decide (c.thresholds.one < c.thresholds.two ∧ c.thresholds.two ≤ 1023 ∧ 8 ≤ c.thresholds.three
      ∧ c.thresholds.three ≤ 255)

/-- The thresholds on which a profiled head runs: its own, or the kind's defaults where they are out of order
(R8). -/
def thresholdsInForce (c : HeadConfig) : Thresholds :=
  if thresholdsInOrder c then c.thresholds
  else match c.kind with | .smoke => ⟨12, 24, 40⟩ | .heat => ⟨600, 700, 40⟩

/-- The entry level E of R17, for the excess of a Smoke head or the temperature and rise of a Heat head. -/
def EntryLevel (h : Head) (confirmed : Prop) (excess temperature rise : Nat) (e : Level) : Prop :=
  (confirmed → e = .fire)
    ∧ (¬confirmed → h.kind = .smoke →
        e = if h.thresholds.two ≤ excess then .prealarm else if h.thresholds.one ≤ excess then .watch else .clear)
    ∧ (¬confirmed → h.kind = .heat →
        e = if h.thresholds.one ≤ temperature then .prealarm
          else if h.thresholds.three / 2 ≤ rise then .watch else .clear)

/-- The hold level H of R17. -/
def HoldLevel (h : Head) (excess temperature rise : Nat) (e : Level) : Prop :=
  (h.kind = .smoke →
      e = if h.thresholds.two ≤ excess + 4 then .prealarm
        else if h.thresholds.one ≤ excess + 4 then .watch else .clear)
    ∧ (h.kind = .heat →
      e = if h.thresholds.one ≤ temperature + 4 then .prealarm
        else if h.thresholds.three / 2 ≤ rise + 4 then .watch else .clear)

/-- The baseline, the update count and the Dirty mark after a Smoke head's reading `v` was graded (R10,
R11). -/
def BaselineFollows (v : Nat) (h n : Head) : Prop :=
  (h.baseline = none → n.baseline = some (v * 64) ∧ n.updates = 0 ∧ n.dirty = decide (400 < v))
    ∧ ∀ b, h.baseline = some b →
      (h.updates < 63 → n.baseline = some b ∧ n.updates = h.updates + 1 ∧ n.dirty = h.dirty)
      ∧ (63 ≤ h.updates → n.updates = 0
          ∧ (n.level ≠ .clear → n.baseline = some b ∧ n.dirty = h.dirty)
          ∧ (n.level = .clear → ∃ b' : Nat, n.baseline = some b' ∧ n.dirty = decide (400 < b' / 64)
              ∧ (b' : Int) = (b : Int) + Int.tdiv ((v : Int) * 64 - b) 64))

/-- Head `n` is head `h` after a reading was graded: the excess or the rise, the confirm count, the level, and
the maintenance that follows (R9, R10, R11, R13, R15, R16, R17). -/
def GradedBy (required : Nat) (r : HeadReading) (h n : Head) : Prop :=
  n.kind = h.kind ∧ n.thresholds = h.thresholds ∧ n.refused = h.refused ∧ n.graded = true
    ∧ n.confirm = (if n.fireWorthy then min (h.confirm + 1) required else 0)
    ∧ (h.level = .fire → n.level = .fire)
    ∧ (h.level ≠ .fire → ∃ e k, EntryLevel h (required ≤ n.confirm) n.excess n.temperature n.rise e
        ∧ HoldLevel h n.excess n.temperature n.rise k ∧ n.level = e.higher (h.level.lower k))
    ∧ (h.kind = .smoke →
        n.excess = (match h.baseline with | some b => r.second.toNat - r.first.toNat - b / 64 | none => 0)
          ∧ n.fireWorthy = decide (h.thresholds.three ≤ n.excess) ∧ n.window = h.window
          ∧ BaselineFollows (r.second.toNat - r.first.toNat) h n)
    ∧ (h.kind = .heat →
        n.temperature = r.first.toNat
          ∧ n.rise = (if h.window.length = 8 then r.first.toNat - h.window.headD 0 else 0)
          ∧ n.fireWorthy = (decide (h.thresholds.two ≤ r.first.toNat) || decide (h.thresholds.three ≤ n.rise))
          ∧ n.window = (if h.window.length < 8 then h.window else h.window.tail) ++ [r.first.toNat]
          ∧ n.baseline = h.baseline ∧ n.updates = h.updates ∧ n.dirty = h.dirty)

/-! ## Restore, doors, route and bulletin in the rules' words -/

/-- R74: what the station advertises of its route. -/
def AdvertisesItsRoute (s : State) : Prop :=
  (s.hazard.zone = .fire →
      advertisedCost s.hazard.zone s.route = 255 ∧ advertisedHop s = .none ∧ advertisedHops s = 0)
    ∧ (s.hazard.zone ≠ .fire →
      advertisedCost s.hazard.zone s.route = s.route.cost
        ∧ (s.route.next = .none → advertisedHop s = .none ∧ advertisedHops s = 0)
        ∧ (s.route.next = .exit → advertisedHop s = .exit ∧ advertisedHops s = 0)
        ∧ ∀ (j : Fin 8) (e : Entry), s.route.next = .entry j → entryAt s j = some e →
            advertisedHop s = .station e.fixed.neighbour ∧ advertisedHops s = s.route.hops)

/-- Spec 11.2, R124: what a bulletin captured now shows. -/
def BulletinShows (s : State) (b : Bulletin) : Prop :=
  b.hazard = s.hazard.zone ∧ b.posture = s.control.posture ∧ b.base = s.control.base
    ∧ b.flags.getLsbD 7 = s.hazard.blind
    ∧ (b.flags.getLsbD 6 = true ↔ ∃ k : Fin 4, (s.hazard.heads.get k).any (·.dirty) = true)
    ∧ b.flags.getLsbD 5 = s.front.fault ∧ b.flags.getLsbD 4 = s.lamp.sign.fault
    ∧ b.flags.getLsbD 3 = s.lamp.chainA.fault ∧ b.flags.getLsbD 2 = s.lamp.chainB.fault
    ∧ b.flags.getLsbD 1 = s.peers.duplicate ∧ b.flags.getLsbD 0 = s.loader.profileFault
    ∧ b.cost = byteOf (advertisedCost s.hazard.zone s.route) ∧ b.hops = byteOf (advertisedHops s)
    ∧ b.nextHop = advertisedHop s
    ∧ (∀ n : Fin 4,
        (∀ c exitDoor links, (s.doors.leaves.get n).role = .configured c exitDoor links →
          b.doors.get n = some (s.doors.leaves.get n).state.doorClass)
        ∧ ((s.doors.leaves.get n).role = .provisional ∨ (s.doors.leaves.get n).role = .dropped →
          b.doors.get n = none))
    ∧ b.openCalls = byteOf (allEight.countP (fun i => (s.calls.slots.get i).isOpen))
    ∧ (∀ k : Fin 4,
        (∀ h, s.hazard.heads.get k = some h →
          b.levels.get k = h.level ∧ b.headFaults.get k = h.fault ∧ b.headDirty.get k = h.dirty)
        ∧ (s.hazard.heads.get k = none →
          b.levels.get k = .clear ∧ b.headFaults.get k = false ∧ b.headDirty.get k = false))
    ∧ b.manualFire = s.hazard.manualFire

/-- R83: the lock demand of a leaf. -/
def DemandIsR83 (s : State) (n : Fin 4) : Prop :=
  (∀ c exitDoor links, (s.doors.leaves.get n).role = .configured c exitDoor links →
      (demandNow s (s.doors.leaves.get n) = true ↔
        c.secure = true ∧ s.control.base = .night
          ∧ (s.control.posture = .night ∨ s.control.posture = .evacuate)
          ∧ (s.doors.leaves.get n).pass = none
          ∧ ¬(c.escape = true ∧ s.control.posture = .evacuate)))
    ∧ ((s.doors.leaves.get n).role = .provisional ∨ (s.doors.leaves.get n).role = .dropped →
      demandNow s (s.doors.leaves.get n) = false)

/-- R99: the class of a leaf by its state, shown for a configured leaf alone. -/
def ClassIsR99 (lf : Leaf) : Prop :=
  (lf.state ∈ [LeafState.opened, .closed, .forced, .propped, .jammed .lock] → lf.state.doorClass = .usable)
    ∧ (lf.state ∈ [LeafState.releasing, .securing] → lf.state.doorClass = .slow)
    ∧ (lf.state ∈ [LeafState.secured, .jammed .release] → lf.state.doorClass = .blocked)
    ∧ (∀ c exitDoor links, lf.role = .configured c exitDoor links → shownClass lf = some lf.state.doorClass)
    ∧ (lf.role = .provisional ∨ lf.role = .dropped → shownClass lf = none)

/-- R20: the zone hazard is the highest level of the head set, raised to Fire by the manual Fire latch. -/
def ZoneIsR20 (h : Hazard) : Prop :=
  (h.manualFire = true → h.zone = .fire)
    ∧ (∀ (k : Fin 4) (r : Head), h.heads.get k = some r → r.level.code ≤ h.zone.code)
    ∧ (h.manualFire = false → h.zone ≠ .clear →
        ∃ (k : Fin 4) (r : Head), h.heads.get k = some r ∧ r.level = h.zone)

/-- R156: the first line that applies decides the sound. -/
def SoundIsR156 (s : State) : Prop :=
  (s.lamp.test.isSome = true → s.lamp.sound = .steady)
    ∧ (s.lamp.test = none →
      (s.control.posture = .evacuate → s.control.hushed = false → s.lamp.sound = .tone)
        ∧ (s.control.posture ≠ .evacuate ∨ s.control.hushed = true →
          ((∃ e ∈ s.post.board, e.state = .raised ∧ (e.kind = .fire ∨ e.kind = .intrusion)) →
              s.lamp.sound = .continuousChime)
            ∧ ((∀ e ∈ s.post.board, e.state = .raised → e.kind ≠ .fire ∧ e.kind ≠ .intrusion) →
                s.lamp.sound = if s.post.helpChime.isSome then .helpChime else .off)))

/-! ## The post in the rules' words (R127, R128, R130, R132) -/

/-- R132: the display order is the board's entries by rank, highest first, and those of one rank as they stand in
the list. -/
def DisplayIsR132 (board : List BoardEntry) : Prop :=
  (displayOrder board).Perm board ∧ (displayOrder board).Pairwise (fun a b => b.kind.rank ≤ a.kind.rank)
    ∧ ∀ kind : CallKind, (displayOrder board).filter (·.kind == kind) = board.filter (·.kind == kind)

/-- R132: a held selection is the entry for its station and slot; the default is the first Raised entry in display
order, else the first entry, else none. -/
def SelectionIsR132 (p : Post) : Prop :=
  (p.board = [] → selected p = none)
    ∧ (∀ st sl e, p.held = some (st, sl) → p.board.find? (·.isFor st sl) = some e → selected p = some e)
    ∧ (p.held = none →
      (∀ a e b, displayOrder p.board = a ++ e :: b → e.state = .raised → (∀ x ∈ a, x.state ≠ .raised) →
          selected p = some e)
        ∧ ∀ e b, displayOrder p.board = e :: b → (∀ x ∈ p.board, x.state ≠ .raised) → selected p = some e)

/-- R132: on a board with one entry for a station and slot, the entry after a selection is the next one in display
order, and the first one after the last. -/
def NextIsR132 (board : List BoardEntry) : Prop :=
  (board.map (fun e => (e.station, e.slot))).Nodup →
    (∀ a e n b, displayOrder board = a ++ e :: n :: b → entryAfter board e = some n)
      ∧ ∀ a e, displayOrder board = a ++ [e] → entryAfter board e = (displayOrder board).head?

/-- R127: the board state that a Raised or Taken notice gives at a post of the given number. -/
def ShowsNotice (own : Station) (n : Notice) (shown : BoardState) : Prop :=
  (n.state = .raised → shown = .raised)
    ∧ (n.state = .taken → n.taker = own → shown = .takenByMe)
    ∧ (n.state = .taken → n.taker ≠ own → shown = .takenByOther)

/-- R127, R128: a new entry, and an entry updated in place, which keeps its kind (log entry 48). -/
def EntriesFollowNotices (own source : Station) (kind : CallKind) (n : Notice) (e : BoardEntry) : Prop :=
  ShowsNotice own n (newBoardEntry own source kind n).state
    ∧ newBoardEntry own source kind n =
        { station := source, slot := n.slot, seq := n.seq, kind := kind
          state := (newBoardEntry own source kind n).state, lastHeard := 0, silentMark := false, takePending := false }
    ∧ ShowsNotice own n (e.heard own n).state
    ∧ e.heard own n =
        { e with state := (e.heard own n).state, lastHeard := 0, silentMark := false, takePending := false }

/-- R130, R132: what a change of the board does to the rest of the post. Overflow goes out below 16 entries, and a
held selection stays while its entry does, else the default returns and the return timer stops. -/
def PostFollowsBoard (s t : State) : Prop :=
  (t.post.board.length < 16 → t.post.overflow = false)
    ∧ (s.post.held = none → t.post.held = none ∧ t.post.returnTimer = s.post.returnTimer)
    ∧ ∀ st sl, s.post.held = some (st, sl) → (∃ e ∈ s.post.board, e.station = st ∧ e.slot = sl) →
        ((∃ e ∈ t.post.board, e.station = st ∧ e.slot = sl) →
          t.post.held = s.post.held ∧ t.post.returnTimer = s.post.returnTimer)
        ∧ ((∀ e ∈ t.post.board, ¬(e.station = st ∧ e.slot = sl)) →
          t.post.held = none ∧ t.post.returnTimer = none)

/-- R142: the Help chime after a Raised or Taken notice of a kind whose entry has joined the board. -/
def chimeOnJoin (kind : CallKind) (n : Notice) (s : State) : Option Nat :=
  if kind = .help ∧ n.state = .raised then some 0 else s.post.helpChime

/-! ## What a hand-off does -/

/-- The base posture that a bulletin's posture and base fields give; none where it shows Startup (R28, R31,
R34). -/
def shownBase (b : Bulletin) : Option Base :=
  match b.posture with
  | .startup => none
  | .day => some .day
  | .night => some .night
  | .evacuate => some b.base

/-- The own frame that is complete hands on nothing: its entry has left the queue, and no call, no posture, no
head and no board is touched (R162, R169). -/
def HandsOnNothing (s t : State) : Prop :=
  t.line.queue = s.line.queue.filter (fun e => !e.inFlight) ∧ t.calls = s.calls ∧ t.control = s.control
    ∧ t.hazard = s.hazard ∧ t.post = s.post ∧ t.doors = s.doors ∧ t.route = s.route ∧ t.lamp = s.lamp
    ∧ t.counters = s.counters

/-- A posture order is applied (R29, R30, R40 to R42): Day and Night give posture and base, or only the base in
Evacuate; a Restore outside Evacuate does nothing, one that is refused keeps posture and heads and has a station
in Fire capture a bulletin, and one that is accepted leads to the base posture with no Fire left. -/
def OrderApplied (o : Order) (s t : State) : Prop :=
  (∀ b : Base, (o = .day ∧ b = .day) ∨ (o = .night ∧ b = .night) →
      t.hazard = s.hazard
        ∧ t.control =
          if s.control.posture = .evacuate then { s.control with base := b, provisionalBase := false }
          else { s.control with posture := b.posture, base := b, joinTimer := none })
    ∧ (o = .restore → s.control.posture ≠ .evacuate → HandsOnNothing s t)
    ∧ (o = .restore → s.control.posture = .evacuate → restoreAcceptable s = false →
        t.hazard = s.hazard ∧ t.control = s.control ∧ t.calls = s.calls
          ∧ t.line.bulletins = if s.hazard.zone = .fire then s.line.bulletins + 1 else s.line.bulletins)
    ∧ (o = .restore → s.control.posture = .evacuate → restoreAcceptable s = true →
        t.control.posture = s.control.base.posture ∧ t.control.base = s.control.base
          ∧ t.control.fireSet = [] ∧ t.control.hushed = false ∧ t.control.provisionalBase = false
          ∧ t.hazard.manualFire = false ∧ t.hazard.zone ≠ .fire
          ∧ t.hazard.heads = s.hazard.heads.map (fun o => o.map (Head.restored s.front.fault))
          ∧ ∀ i : Fin 8, (t.calls.slots.get i).isOpen = true → (t.calls.slots.get i).kind ≠ some .fire)

/-- A take is judged against the slot it names (R118, R119, R120): a Raised call becomes Taken by the sender, a
Taken one keeps its taker and is announced, another identity changes no slot. -/
def TakeApplied (sender : Station) (i : Fin 8) (seq : Fin 16) (s t : State) : Prop :=
  sender ≠ 0 →
    t.calls =
      if (s.calls.slots.get i).isOpen = true ∧ (s.calls.slots.get i).seq = seq then
        { s.calls with
          slots := s.calls.slots.set i
            { s.calls.slots.get i with
              state := if (s.calls.slots.get i).state = .raised then .taken sender else (s.calls.slots.get i).state
              repeatTimer := some 0
              notices := (s.calls.slots.get i).notices + 1 } }
      else s.calls

/-- R103: what the load makes of a leaf that carries the record `old` over, in the state `t` after it. An Open leaf stays
Open and its prop timer runs where R93 has it run; a Closed one and one Jammed toward release go by the lock demand and
the bolt contact, with the bolt time started in travel and stopped at rest. -/
def LeafCarriedOver (c : LeafConfig) (old : Leaf) (t : State) (new : Leaf) : Prop :=
  new.doorClosed = old.doorClosed ∧ new.boltThrown = old.boltThrown ∧ new.pressLatch = old.pressLatch
    ∧ new.pass = old.pass ∧ new.magnet = magnetNow t new
    ∧ (old.state = .opened → old.prop = none →
        new.state = .opened ∧ new.bolt = old.bolt
          ∧ new.prop = if demandNow t new = true ∧ ¬(c.fire = true ∧ new.magnet = true) then some 0 else none)
    ∧ (old.state = .closed → old.boltThrown = false →
        new.prop = none ∧ new.state = (if demandNow t new then .securing else .closed)
          ∧ new.bolt = if demandNow t new then some 0 else none)
    ∧ (old.state = .jammed .release → old.boltThrown = true →
        new.prop = none ∧ new.state = (if demandNow t new then .secured else .releasing)
          ∧ new.bolt = if demandNow t new then none else some 0)

/-- What follows at the call unit when a slot is freed (R115): the pending sources are served, then each asserted
Motion source that has no call requests. -/
def callsAfterFreeing (i : Fin 8) (s : State) : State :=
  requestMotion
    (servePending 8
      (s.setCalls
        { s.calls with
          slots := s.calls.slots.set i
            { s.calls.slots.get i with state := .free, age := 0, repeatTimer := none } }))

/-- A cancel is judged against the slot it names (R118, R120, R121): one that may close the call frees the slot,
after which the sources that wait are served; a refused one announces the call; another identity
changes no slot. -/
def CancelApplied (sender : Station) (i : Fin 8) (seq : Fin 16) (s t : State) : Prop :=
  sender ≠ 0 →
    ((s.calls.slots.get i).seq = seq → ¬((s.calls.slots.get i).kind = some .fire ∧ s.hazard.zone = .fire) →
      (s.calls.slots.get i).state = .raised ∨ (s.calls.slots.get i).state = .taken sender →
      s.calls.pending = [] → (∀ k : Fin 6, asserted s k = false) →
      t.calls =
        { s.calls with
          slots := s.calls.slots.set i
            { s.calls.slots.get i with state := .free, age := 0, repeatTimer := none } })
    ∧ ((s.calls.slots.get i).seq = seq → ¬((s.calls.slots.get i).kind = some .fire ∧ s.hazard.zone = .fire) →
      (s.calls.slots.get i).state = .raised ∨ (s.calls.slots.get i).state = .taken sender →
      t.calls = (callsAfterFreeing i s).calls)
    ∧ ((s.calls.slots.get i).isOpen = true → (s.calls.slots.get i).seq = seq →
      (((s.calls.slots.get i).kind = some .fire ∧ s.hazard.zone = .fire)
        ∨ ∃ other, (s.calls.slots.get i).state = .taken other ∧ other ≠ sender) →
      t.calls =
        { s.calls with
          slots := s.calls.slots.set i
            { s.calls.slots.get i with
              repeatTimer := some 0, notices := (s.calls.slots.get i).notices + 1 } })
    ∧ ((s.calls.slots.get i).isOpen = false ∨ (s.calls.slots.get i).seq ≠ seq → t.calls = s.calls)

/-- At most 16 entries, at most one for a station and slot (R127, R130). -/
def BoardInForm (board : List BoardEntry) : Prop :=
  board.length ≤ Config.boardLimit ∧ (board.map (fun e => (e.station, e.slot))).Nodup

/-- A notice is taken on the board (R127 to R130): a Cleared one removes the entry of its call; another updates
it in place, replaces the slot's other call, joins at the end, or on a full board displaces the oldest entry that
yields to it or is dropped with Overflow lit. -/
def NoticeApplied (source : Station) (n : Notice) (s t : State) : Prop :=
  (n.state = .cleared →
      t.post.board = s.post.board.filter (fun e => !(e.station == source && e.slot == n.slot && e.seq == n.seq))
        ∧ t.post.helpChime = s.post.helpChime)
    ∧ (n.state ≠ .cleared → n.kind = none → t.post = s.post)
    ∧ (n.state = .cleared ∨ n.kind ≠ none → PostFollowsBoard s t)
    ∧ ∀ kind, n.state ≠ .cleared → n.kind = some kind →
      (∀ e, s.post.board.find? (·.isFor source n.slot) = some e →
        t.post.board =
            (if e.seq = n.seq then
              s.post.board.map (fun x => if x.isFor source n.slot then x.heard s.loader.station n else x)
            else
              s.post.board.filter (fun x => !x.isFor source n.slot) ++ [newBoardEntry s.loader.station source kind n])
          ∧ t.post.helpChime = if e.seq = n.seq then s.post.helpChime else chimeOnJoin kind n s)
      ∧ (s.post.board.find? (·.isFor source n.slot) = none → s.post.board.length < 16 →
        t.post.board = s.post.board ++ [newBoardEntry s.loader.station source kind n]
          ∧ t.post.helpChime = chimeOnJoin kind n s)
      ∧ (s.post.board.find? (·.isFor source n.slot) = none → s.post.board.length = 16 →
        (∀ old,
          s.post.board.find? (fun e => e.state == .takenByOther || decide (e.kind.rank < kind.rank)) = some old →
          t.post.board =
            s.post.board.filter (fun x => !x.isFor old.station old.slot)
                ++ [newBoardEntry s.loader.station source kind n]
              ∧ t.post.helpChime = chimeOnJoin kind n s
              ∧ (BoardInForm s.post.board → t.post.overflow = s.post.overflow))
        ∧ (s.post.board.find? (fun e => e.state == .takenByOther || decide (e.kind.rank < kind.rank)) = none →
          t.post.board = s.post.board ∧ t.post.overflow = true ∧ t.post.helpChime = s.post.helpChime
            ∧ t.counters.overflow = satInc s.counters.overflow))

/-- The Alert request of an own hazard that becomes Fire (R32, R33, R171): an unstrapped station makes none; before
the load it is a mark; else the line port holds it and drives it at once, but that it waits for the end of another
trigger's code byte, and for the end of the own Hush's row (log entry 47), and for the line fault. -/
def AlertRequested (s t : State) : Prop :=
  (s.loader.station = 0 → t.line.alertHeld = s.line.alertHeld ∧ t.control.alertPending = s.control.alertPending)
    ∧ (s.loader.station ≠ 0 → loadComplete s = false →
        t.control.alertPending = true ∧ t.line.alertHeld = s.line.alertHeld)
    ∧ (s.loader.station ≠ 0 → loadComplete s = true →
        t.line.alertHeld = true
          ∧ (s.line.fault = false → s.line.receiver ≠ .brk → s.line.receiver ≠ .codeWait →
              ¬(s.line.driving = some .hush ∧ s.line.receiver = .discard) → t.line.driving = some .alert))

/-! ## Resets (R176) -/

/-- A held station stands in its reset state, apart from what a reset keeps (R176). -/
def HeldAtReset (s : State) : Prop :=
  s.power = .held →
    s = { State.reset with
          counters := s.counters, freeUsed := s.freeUsed, pending := s.pending
          loader := { State.reset.loader with cause := s.loader.cause }
          line := { State.reset.line with startBits := s.line.startBits } }

/-! ## Route (R59) -/

/-- The route record is in one of its two forms (R59). -/
def RouteRecord.InForm (r : RouteRecord) : Prop :=
  (r.cost < Config.noRoute ∧ r.next ≠ .none ∧ r.hops = (candidateVia r.viaExit r.viaEntry r.next).hops)
    ∨ (r.cost = Config.noRoute ∧ r.next = .none ∧ r.hops = 0)

/-- Every heard hop count lies within the hop ceiling (section 3.1). -/
def HeardHopsBounded (s : State) : Prop :=
  ∀ e ∈ s.peers.entries, ∀ h, e.heard = some h → h.hops ≤ Config.hopCeiling

/-- What the route's inputs refer to (R44, R61, R80): the entries and the exit come with the load, an entry whose
passage door is a configured leaf is one of its links, and a configured exit leaf is marked as the exit door. -/
def RouteInputsAgree (s : State) : Prop :=
  exitWeight s ≤ 15
    ∧ (loadComplete s = false → s.peers.entries = [] ∧ s.loader.config = none)
    ∧ ∀ (n : Fin 4) (c : LeafConfig) (exitDoor : Bool) (links : List (Fin 8)),
        (s.doors.leaves.get n).role = .configured c exitDoor links →
        (exitLeaf s = some n → exitDoor = true)
          ∧ ∀ (j : Fin 8) (e : Entry), entryAt s j = some e → e.fixed.door = .own n → j ∈ links

/-- The route record is that of a computation on the station's present inputs (R60): its candidates are the
present ones, and a computation now would choose it again. -/
def RouteFollows (s : State) : Prop :=
  s.route.viaExit = viaExit s ∧ (∀ j : Fin 8, s.route.viaEntry.get j = viaEntry s j)
    ∧ chooseRoute s.route.next s.route.viaExit s.route.viaEntry = s.route

/-! ## Bulletins on change (R5, R6, R11, R20, R21, R25, R55, R56, R76, R154, R155, R173, R181) -/

/-- One of the things has changed of which a change queues a bulletin. -/
def BulletinDue (s t : State) : Prop :=
  t.hazard.zone ≠ s.hazard.zone ∨ t.hazard.blind ≠ s.hazard.blind ∨ t.front.fault ≠ s.front.fault
    ∨ (∃ k : Fin 4, (t.hazard.heads.get k).any (·.dirty) ≠ (s.hazard.heads.get k).any (·.dirty))
    ∨ t.control.posture ≠ s.control.posture ∨ t.control.base ≠ s.control.base
    ∨ t.peers.duplicate ≠ s.peers.duplicate ∨ t.loader.profileFault ≠ s.loader.profileFault
    ∨ t.lamp.sign.fault ≠ s.lamp.sign.fault ∨ t.lamp.chainA.fault ≠ s.lamp.chainA.fault
    ∨ t.lamp.chainB.fault ≠ s.lamp.chainB.fault
    ∨ t.route.cost ≠ s.route.cost ∨ t.route.hops ≠ s.route.hops ∨ t.route.next ≠ s.route.next
    ∨ advertisedCost t.hazard.zone t.route ≠ advertisedCost s.hazard.zone s.route
    ∨ (s.line.fault = true ∧ t.line.fault = false)

/-! ## Posture (R25, R32, R35) -/

/-- In Day or Night the base posture equals the posture (R25), and only in Evacuate is it provisional (R31). -/
def Control.BaseAgrees (c : Control) : Prop :=
  (c.posture = .day → c.base = .day) ∧ (c.posture = .night → c.base = .night)
    ∧ (c.provisionalBase = true → c.posture = .evacuate)

/-- A station whose fire set is not empty is in posture Evacuate (R35). -/
def Control.FireSetInEvacuate (c : Control) : Prop := c.fireSet ≠ [] → c.posture = .evacuate

/-- The zone hazard is what R20 computes from the heads and the latch. -/
def ZoneAgrees (s : State) : Prop := s.hazard.zone = zoneOf s.hazard

/-- The Blind flag is what R21 says: set while Front-end fault holds, or while every head of a head set that is
not empty is in its own Fault. -/
def BlindAgrees (s : State) : Prop :=
  s.hazard.blind = true ↔
    s.front.fault = true
      ∨ ((∃ k : Fin 4, (s.hazard.heads.get k).isSome = true)
        ∧ ∀ (k : Fin 4) (h : Head), s.hazard.heads.get k = some h → h.fault = true)

/-- A station whose zone hazard is Fire is in posture Evacuate and holds its own number in its fire set
(R32). -/
def FireInEvacuate (s : State) : Prop :=
  s.hazard.zone = .fire → s.control.posture = .evacuate ∧ s.loader.station ∈ s.control.fireSet

/-- A frame whose content lies within the coded values of spec 9.2 and 11.2. -/
def Frame.InRange : Frame → Prop
  | .bulletin _ _ b => b.hops.toNat ≤ Config.hopCeiling ∧ b.openCalls.toNat ≤ 8 ∧ b.nextHop ≠ .station 0
  | .answer _ payload => payload.length ≤ 24
  | _ => True

/-! ## Transmit queue (R163) -/

/-- At most 12 frames, at most one of them a bulletin and at most one a notice of each call slot. -/
def QueueBounded (q : List QueueEntry) : Prop :=
  q.length ≤ Config.queueLimit ∧ q.countP (·.frame.isBulletin) ≤ 1
    ∧ ∀ i : Fin 8, q.countP (fun e => e.frame.isNoticeOf i) ≤ 1

/-- The queue stands in sending order: kind value, then place time (R163). -/
def InSendingOrder (q : List QueueEntry) : Prop := q.Pairwise (fun a b => a.before b = true)

/-- The queue stands in sending order, and its place times are distinct and none is still to be given (R163; log
entry 16). -/
def QueueOrdered (l : LinePort) : Prop :=
  InSendingOrder l.queue ∧ (l.queue.map (·.place)).Nodup ∧ ∀ e ∈ l.queue, e.place < l.placed

/-- At most one entry is in flight; it is the frame on the line, and none is while no own frame is there (R163,
R167). -/
def LinePort.FlightAgrees (l : LinePort) : Prop :=
  l.queue.countP (·.inFlight) ≤ 1 ∧ ∀ e ∈ l.queue, e.inFlight = true → l.onLine = some e.frame

/-- An own trigger under way keeps its request, and nothing is driven while the line fault holds (R171,
R173). -/
def LinePort.Consistent (l : LinePort) : Prop :=
  (l.driving = some .alert → l.alertHeld = true) ∧ (l.driving = some .hush → l.hushPending = true)
    ∧ (l.fault = true → l.driving = none ∧ l.onLine = none)

/-! ## Calls (R106, R111, R117) -/

/-- A Free slot has no age and no repeat timer; an open one has a kind, a source and a repeat timer. -/
def Slot.InForm (sl : Slot) : Prop :=
  if sl.isOpen then sl.kind.isSome = true ∧ sl.source.isSome = true ∧ sl.repeatTimer.isSome = true
  else sl.age = 0 ∧ sl.repeatTimer = none

/-- Each source has at most one call: no two open slots name one source, and a pending source is pending
once and has no open slot (R106). -/
def OneCallPerSource (c : Calls) : Prop :=
  (∀ i j : Fin 8, (c.slots.get i).isOpen = true → (c.slots.get j).isOpen = true →
      (c.slots.get i).source = (c.slots.get j).source → i = j)
    ∧ c.pending.Nodup
    ∧ ∀ i : Fin 8, (c.slots.get i).isOpen = true → ∀ src ∈ c.pending, (c.slots.get i).source ≠ some src

/-- The source has a call that a station has taken. -/
def hasTaken (s : State) (src : Source) : Bool :=
  s.calls.slots.toList.any (fun sl => match sl.state with | .taken _ => sl.source == some src | _ => false)

/-! ## Doors (R86, R88, R93, R97) -/

/-- The hold magnet of every position stands as R97 gives it. -/
def MagnetsAgree (s : State) : Prop := ∀ n : Fin 4, (s.doors.leaves.get n).magnet = magnetNow s (s.doors.leaves.get n)

/-- Only a leaf whose lock demand is true has its drive at lock (R84). -/
def LocksAgree (s : State) : Prop :=
  ∀ n : Fin 4, (s.doors.leaves.get n).state.atLock = true → demandNow s (s.doors.leaves.get n) = true

/-- A configured leaf whose lock demand is true and whose door has not been reported open has its drive at lock
(R84, R85, R88, R89). -/
def LocksMeetDemand (s : State) : Prop :=
  ∀ (n : Fin 4) (c : LeafConfig) (exitDoor : Bool) (links : List (Fin 8)),
    (s.doors.leaves.get n).role = .configured c exitDoor links → demandNow s (s.doors.leaves.get n) = true →
    (s.doors.leaves.get n).state ∉ [LeafState.opened, .forced, .propped] →
    (s.doors.leaves.get n).state.atLock = true

/-- A leaf's passage links are the entries whose passage door names it (R80). -/
def LinksAgree (s : State) : Prop :=
  ∀ (n : Fin 4) (j : Fin 8), j ∈ (s.doors.leaves.get n).links →
    ∀ e, s.peers.entries[j.val]? = some e → e.fixed.door = .own n

/-- The bolt time runs exactly in Securing and Releasing, which only a configured leaf comes to (R80, R86, R88,
R102). -/
def Leaf.BoltTimed (lf : Leaf) : Prop :=
  (lf.bolt.isSome = true ↔ lf.state = .securing ∨ lf.state = .releasing)
    ∧ (lf.role = .provisional ∨ lf.role = .dropped → lf.state ≠ .securing ∧ lf.state ≠ .releasing)

/-- At a running station the bolt time of each leaf runs exactly in travel; the supply's fall stops it (R86, R88,
R176). -/
def BoltsTimed (s : State) : Prop := s.power = .running → ∀ n : Fin 4, (s.doors.leaves.get n).BoltTimed

/-- The prop timer runs exactly while its conditions hold (R93). -/
def PropsAgree (s : State) : Prop :=
  ∀ n : Fin 4, (s.doors.leaves.get n).prop.isSome = (s.doors.leaves.get n).propRuns (demandNow s (s.doors.leaves.get n))

/-! ## Board (section 7.2) -/

/-- Overflow is lit only on a full board (R130), and a held selection is an entry of the board and has its return
timer (R132). -/
def Post.SelectionAgrees (p : Post) : Prop :=
  (p.overflow = true → Config.boardLimit ≤ p.board.length)
    ∧ ∀ st sl, p.held = some (st, sl) →
        p.returnTimer.isSome = true ∧ ∃ e ∈ p.board, e.station = st ∧ e.slot = sl

/-! ## Peer table (section 3.1) -/

/-- The heard fields and the age are present together, and absent exactly in Unheard. -/
def Entry.InForm (e : Entry) : Prop :=
  (e.status = .unheard ∧ e.age = none ∧ e.heard = none)
    ∨ (e.status ≠ .unheard ∧ e.age.isSome = true ∧ e.heard.isSome = true)

/-! ## The unstrapped station (R183) -/

/-- A running unstrapped station drives nothing and holds no request to drive. -/
def UnstrappedSilent (s : State) : Prop :=
  s.power = .running → s.loader.station = 0 →
    s.line.onLine = none ∧ s.line.driving = none ∧ s.line.alertHeld = false ∧ s.line.hushPending = false
      ∧ s.control.alertPending = false

/-! ## Lamp and sounder, counters, pins -/

/-- The sound is the one that R156 gives. -/
def SoundAgrees (s : State) : Prop := s.lamp.sound = soundOf s

/-- The sign and the strip follow posture and next hop. In Evacuate the aspect is the next hop's, Exit or Danger,
the mark is clear, and the pattern is that of R149; elsewhere the strip is Steady and a next hop gives its aspect
(R146, R147, R149). Before the load there are no entries, no exit and no next hop (R61). -/
def LampFollows (s : State) : Prop :=
  (s.control.posture = .evacuate →
      s.lamp.placeholder = false
        ∧ (s.route.next = .none → s.lamp.aspect = .danger ∧ s.lamp.pattern = .flash)
        ∧ (s.route.next = .exit →
            s.lamp.aspect = .exit ∧ s.lamp.pattern = .chase ∧ s.lamp.direction = .forward)
        ∧ ∀ (j : Fin 8) (e : Entry), s.route.next = .entry j → entryAt s j = some e →
            s.lamp.aspect = e.fixed.aspect
              ∧ (e.fixed.strip = none → s.lamp.pattern = .steady)
              ∧ ∀ d, e.fixed.strip = some d → s.lamp.pattern = .chase ∧ s.lamp.direction = d)
    ∧ (s.control.posture ≠ .evacuate →
      s.lamp.pattern = .steady
        ∧ (s.route.next = .exit → s.lamp.aspect = .exit ∧ s.lamp.placeholder = false)
        ∧ ∀ (j : Fin 8) (e : Entry), s.route.next = .entry j → entryAt s j = some e →
            s.lamp.aspect = e.fixed.aspect ∧ s.lamp.placeholder = false)
    ∧ (loadComplete s = false → s.route.next = .none ∧ s.peers.entries = [] ∧ s.loader.config = none)

/-- Chase and Flash begin at their start: position 0 or 7 by the direction, and the on phase (R150, R151). -/
def PatternsBegin (l n : Lamp) : Prop :=
  (n.pattern = .chase → l.pattern ≠ .chase ∨ l.direction ≠ n.direction →
      n.position = if n.direction = .forward then 0 else 7)
    ∧ (n.pattern = .flash → l.pattern ≠ .flash → n.flashOn = true)

/-- The brightness follows the posture (R145). -/
def BrightnessAgrees (s : State) : Prop := s.lamp.brightness = brightnessOf s.control.posture

/-- Every counter is at most 65,535 (R187). -/
def Counters.Bounded (c : Counters) : Prop :=
  c.invalidScan ≤ ceiling16 ∧ c.duplicate ≤ ceiling16 ∧ c.overflow ≤ ceiling16 ∧ c.correctedHeader ≤ ceiling16
    ∧ c.discardedHeader ≤ ceiling16 ∧ c.discardedFrame ≤ ceiling16 ∧ c.refusedFrames ≤ ceiling16
    ∧ c.arbitrationLost ≤ ceiling16 ∧ c.bitError ≤ ceiling16 ∧ c.abortedByBreak ≤ ceiling16
    ∧ c.stuckLine ≤ ceiling16

/-- The pins are what the blocks' state gives. -/
def PinsAgree (s : State) : Prop := s.outputs = outputsOf s

/-! ## Panel (R135) -/

/-- Once the post role has begun, Ready means no key is down and Held that its key alone is. -/
def Post.PanelAgrees (p : Post) : Prop :=
  p.role = true →
    (p.panel = .ready → p.down = []) ∧ (∀ k, p.panel = .held k → p.down = [k])
      ∧ (p.panel = .locked → p.down ≠ [])

end Sys2Proof.Machine
end

