-- ==== Sys2Proof/Certificates/Slice0/Obligations.lean ====
section
/-! DEFINITION. The statements for the provers. Each docstring names the rules it rests on; a clause that
rests on a choice of the model names the log entry. `Changes i s blocks p` says that command `i` answers
a next state that agrees with `s` in every field but `blocks` and of which `p` holds. -/

open Sys2Proof Sys2Proof.Machine

/-! ## The queue of commands -/

/-- A step takes the front command and runs it on what is left; an empty queue idles (log entry 1). -/
def Obligations.StepRunsFrontCommand : Prop :=
  (∀ (s : State) (c : Instr) (rest : List Instr), s.pending = c :: rest → step s = exec c (s.setPending rest))
    ∧ ∀ s : State, s.pending = [] → step s = .next s

/-- No command stops the station, and none touches the queue of commands (log entry 38); a station that is
off or held in reset takes no event but a reset's and the supply's (R176, log entry 2). -/
def Obligations.EveryCommandAnswers : Prop :=
  (∀ (i : Instr) (s : State), ∃ t, exec i s = .next t ∧ t.pending = s.pending)
    ∧ ∀ (i : Instr) (s : State), s.power ≠ .running → i ≠ .powerOnReset → (∀ wire, i ≠ .pinReset wire) →
        i ≠ .supplyLoss → (∀ pins, i ≠ .resetEnd pins) → exec i s = .next s

/-! ## Resets and the profile (chapter 10) -/

/-- POWER_ON_RESET, PIN_RESET, SUPPLY_LOSS: both resets give every block its starting state, drive no
output and record the cause; power-on zeroes the counters and pin keeps them, with the corrected header of a
frame that it cuts counted; without the supply a pin reset does nothing; a fallen supply drives nothing
(R161, R176, R187). The values of `State.reset` that no rule gives are those of log entries 2, 3 and 43;
what a reset leaves of the queue of commands, of the start bits to come and of the free values is log entries
38, 8 and 34; the fallen supply is log entry 26. -/
def Obligations.ResetsStartEveryBlock : Prop :=
  ∀ (wire : List Byte) (s : State),
    Answers .powerOnReset s (fun t =>
      t = { State.reset with
            freeUsed := s.freeUsed, pending := s.pending
            line := { State.reset.line with startBits := s.line.startBits } }
        ∧ t.counters = Counters.zero ∧ t.outputs = Outputs.undriven ∧ t.loader.cause = .powerOn)
    ∧ (s.power ≠ .off →
      Answers (.pinReset wire) s (fun t =>
        t = { State.reset with
              counters := headerCounted (receiving s && cutCorrected wire) s.counters
              freeUsed := s.freeUsed, pending := s.pending
              loader := { State.reset.loader with cause := .pin }
              line := { State.reset.line with startBits := s.line.startBits } }
          ∧ t.outputs = Outputs.undriven))
    ∧ (s.power = .off → exec (.pinReset wire) s = .next s)
    ∧ Changes .supplyLoss s [.power, .front, .doors, .lamp, .line, .outputs] (fun t =>
        t.power = .off ∧ t.outputs = Outputs.undriven ∧ t.front.scan = none ∧ t.line.onLine = none
          ∧ t.line.driving = none)

/-- R43 and R79: the posture controller's and the route unit's state after either reset. -/
def Obligations.PostureAndRouteAfterReset : Prop :=
  ∀ (s : State) (i : Instr), i = .powerOnReset ∨ ((∃ wire, i = .pinReset wire) ∧ s.power ≠ .off) →
    Answers i s (fun t =>
      t.control.posture = .startup ∧ t.control.base = .night ∧ t.control.fireSet = []
        ∧ t.control.hushed = false ∧ t.control.joinTimer = none ∧ t.control.provisionalBase = false
        ∧ t.control.alertPending = false
        ∧ t.route.cost = 255 ∧ t.route.hops = 0 ∧ t.route.next = .none
        ∧ advertisedCost t.hazard.zone t.route = 255 ∧ advertisedHop t = .none ∧ advertisedHops t = 0
        ∧ t.route.viaExit = ⟨255, 0⟩ ∧ ∀ j : Fin 8, t.route.viaEntry.get j = ⟨255, 0⟩
        ∧ t.lamp.aspect = .danger ∧ t.lamp.placeholder = true)

/-- RESET_END: the straps and every field input are read, the first profile read and the warm-up scan
begin, the provisional leaves follow the three-way test, the head set the presence senses and the panel the
key matrix (R7, R102, R125, R135, R177, R178; log entry 3 for the levels at that moment). -/
def Obligations.ResetEndReadsThePins : Prop :=
  ∀ (pins : Pins) (s : State), s.power = .held → HeldAtReset s →
    Changes (.resetEnd pins) s [.power, .loader, .front, .hazard, .doors, .calls, .post, .outputs] (fun t =>
      t.power = .running ∧ t.loader.station.val = pins.straps.toNat ∧ t.loader.baudHigh = pins.baudHigh
        ∧ t.loader.state = .firstRead ∧ t.loader.result = .loading ∧ t.loader.cause = s.loader.cause
        ∧ t.front.scan = some ⟨true, false⟩ ∧ t.front.interval = true
        ∧ (∀ k : Fin 4, t.hazard.heads.get k =
            if pins.present.getLsbD k.val then some (Head.fresh .smoke ⟨12, 24, 40⟩ false) else none)
        ∧ (∀ n : Fin 4,
            (t.doors.leaves.get n).role = .provisional
              ∧ (t.doors.leaves.get n).state =
                if pins.doorClosed.getLsbD n.val = false then .opened
                else if pins.boltThrown.getLsbD n.val then .jammed .release
                else .closed)
        ∧ (∀ i : Fin 6, t.calls.inputs.get i = ⟨pins.callActive.getLsbD i.val, false⟩)
        ∧ t.calls.grsOn = pins.grsOn ∧ t.post.authOn = pins.authOn
        ∧ (∀ x : Crossing, keyAt x ∈ t.post.down ↔ pins.keysDown.getLsbD (3 * x.kx.val + x.ky.val) = true)
        ∧ (t.post.panel = .ready ↔ pins.keysDown = 0)
        ∧ (t.post.panel = .locked ↔ pins.keysDown ≠ 0))

/-- PROFILE_READ_DONE with a block that fails, and LOAD_WAIT_EXPIRY: a first read fails to Waiting, the wait leads to
the second read, and a second failure takes the fallback profile and has the Profile call, and the presses that waited
are taken as Help presses; a pending Alert is handed over, the join timer and the bulletin refresh start, the default
aspect Danger takes the placeholder's place, and each leaf goes on from its provisional state (R27, R33, R80, R103,
R107, R108, R147, R165, R178, R180, R181, R182; log entry 20 for the scan in progress, which the fallback lets go on,
41 for the refresh timer). -/
def Obligations.FailedReadsLeadToFallback : Prop :=
  ∀ (block : List Byte) (s : State), s.power = .running →
    (s.loader.state = .firstRead → profileOf s.loader.station block = none →
      Changes (.profileReadDone block) s [.loader, .line, .outputs] (fun t =>
        t.loader = { s.loader with state := .waiting }))
    ∧ (s.loader.state = .waiting →
      Changes .loadWaitExpiry s [.loader, .outputs] (fun t =>
        t.loader = { s.loader with state := .secondRead }))
    ∧ (s.loader.state ≠ .waiting → Changes .loadWaitExpiry s [.outputs] (fun _ => True))
    ∧ (s.loader.state = .secondRead → profileOf s.loader.station block = none →
      Changes (.profileReadDone block) s
        [.loader, .control, .peers, .route, .doors, .calls, .lamp, .line, .counters, .outputs] (fun t =>
        t.loader = { s.loader with
                     state := .fallback, config := some fallbackProfile, result := .fallback, profileFault := true }
          ∧ t.peers = { s.peers with entries := [] }
          ∧ t.outputs.relay = false
          ∧ (hasTaken s .profile = false → hasCall t .profile = true)
          ∧ (∀ i : Fin 6, t.calls.inputs.get i = { s.calls.inputs.get i with pressed := false }
              ∧ ((s.calls.inputs.get i).pressed = true → hasTaken s (.input i) = false → hasCall t (.input i) = true))
          ∧ (t.control.posture = .startup → t.control.joinTimer = some 0)
          ∧ t.line.refresh = (if strapped s then some 0 else s.line.refresh)
          ∧ t.control.alertPending = false
          ∧ (s.control.alertPending = true → t.line.alertHeld = true)
          ∧ (s.route.next = .none → t.route.next = .none → t.control.posture ≠ .evacuate →
              t.lamp.placeholder = false
                ∧ t.lamp.aspect = if s.lamp.placeholder then .danger else s.lamp.aspect)
          ∧ ∀ n : Fin 4,
              (t.doors.leaves.get n).role = .configured fallbackLeaf false []
                ∧ LeafCarriedOver fallbackLeaf (s.doors.leaves.get n) t (t.doors.leaves.get n)))

/-- PROFILE_READ_DONE with a block that passes, in the first or the second read: the profile is in force at every
block. A Smoke head that was in the set keeps its record, a Heat head its level and last Fire-worthy mark, another
head starts from the reset values, and a Fire head that leaves sets the manual Fire latch; thresholds out of order
give way to the defaults and have the Profile call; a pending Alert is handed over; and each leaf goes on from its
provisional state; with no next hop the default aspect takes the placeholder's place; the presses that waited are
taken by their inputs' kinds and the asserted Motion inputs request (R7, R8, R19, R33, R44, R80, R85, R88, R93, R97,
R103, R107, R108, R110, R126, R147, R148, R165, R180, R181; R27 for the join timer; log entry 23 for a carried Heat
head's Dirty mark, 41 for the refresh timer, 45 for a carried Heat head's graded mark, 50 for a carried Smoke head's
thresholds). -/
def Obligations.PassedReadLoadsTheProfile : Prop :=
  ∀ (block : List Byte) (p : Profile) (s : State), s.power = .running →
    s.loader.state = .firstRead ∨ s.loader.state = .secondRead →
    profileOf s.loader.station block = some p →
    Changes (.profileReadDone block) s
      [.loader, .front, .hazard, .control, .peers, .route, .doors, .calls, .post, .lamp, .line, .counters, .outputs]
      (fun t =>
      t.loader.state = .loaded ∧ t.loader.config = some p ∧ t.loader.station = s.loader.station
        ∧ t.loader.result = (if thresholdsPass p then .loaded else .loadedDefaults)
        ∧ t.loader.profileFault = (s.loader.profileFault || !thresholdsPass p)
        ∧ t.peers.entries = p.adjacencies.map (fun a => ⟨a, .unheard, none, none⟩)
        ∧ (∀ k : Fin 4, t.hazard.heads.get k = headByProfile p.heads[k.val]? (s.hazard.heads.get k))
        ∧ (∀ n : Fin 4, (t.doors.leaves.get n).role =
            match p.leaves.get n with
            | some c => .configured c (p.exitLeaf == some n) (linksOf p n)
            | none => .dropped)
        ∧ (∀ (n : Fin 4) (c : LeafConfig), p.leaves.get n = some c →
            LeafCarriedOver c (s.doors.leaves.get n) t (t.doors.leaves.get n))
        ∧ t.post.role = (s.post.role || p.post)
        ∧ (t.control.posture = .startup → t.control.joinTimer = some 0)
        ∧ t.line.refresh = (if strapped s then some 0 else s.line.refresh)
        ∧ t.control.alertPending = false
        ∧ (s.control.alertPending = true → t.line.alertHeld = true)
        ∧ (thresholdsPass p = true ↔ ∀ c ∈ p.heads, thresholdsInOrder c = true)
        ∧ (thresholdsPass p = false → hasTaken s .profile = false → hasCall t .profile = true)
        ∧ (∀ i : Fin 6, t.calls.inputs.get i = { s.calls.inputs.get i with pressed := false }
            ∧ ((s.calls.inputs.get i).pressed = true → p.inputs.get i = .helpPoint →
                hasTaken s (.input i) = false → hasCall t (.input i) = true)
            ∧ ((s.calls.inputs.get i).pressed = true → p.inputs.get i = .firePoint →
                t.hazard.manualFire = true ∧ t.hazard.zone = .fire
                  ∧ (hasTaken s (.input i) = false → hasCall t (.input i) = true))
            ∧ (p.inputs.get i = .motion → (s.calls.inputs.get i).active = true → t.control.posture = .night →
                hasTaken s (.input i) = false → hasCall t (.input i) = true)
            ∧ (p.inputs.get i = .unconfigured → hasCall t (.input i) = true → hasCall s (.input i) = true))
        ∧ (s.route.next = .none → t.route.next = .none → t.control.posture ≠ .evacuate →
            t.lamp.placeholder = false
              ∧ t.lamp.aspect = if s.lamp.placeholder then p.defaultAspect else s.lamp.aspect)
        ∧ (∀ (k : Fin 4) (c : HeadConfig), p.heads[k.val]? = some c →
            (s.hazard.heads.get k = none →
              t.hazard.heads.get k = some (Head.fresh c.kind (thresholdsInForce c) (!thresholdsInOrder c)))
            ∧ (∀ h, s.hazard.heads.get k = some h → c.kind = .smoke →
              t.hazard.heads.get k =
                some { h with kind := .smoke, thresholds := thresholdsInForce c, refused := !thresholdsInOrder c })
            ∧ (∀ h, s.hazard.heads.get k = some h → c.kind = .heat →
              t.hazard.heads.get k =
                some
                  { Head.fresh .heat (thresholdsInForce c) (!thresholdsInOrder c) with
                    level := h.level, fireWorthy := h.fireWorthy }))
        ∧ (∀ k : Fin 4, p.heads[k.val]? = none →
            t.hazard.heads.get k = none
              ∧ ∀ h, s.hazard.heads.get k = some h → h.level = .fire → t.hazard.manualFire = true)
        ∧ (∀ (n : Fin 4) (j : Fin 8), j ∈ linksOf p n ↔ ∃ a, p.adjacencies[j.val]? = some a ∧ a.door = .own n)
        ∧ (s.front.scan.isSome = true → t.front.scan.any (·.void) = true))

/-! ## Scans and heads (chapter 1, R153 to R155) -/

/-- SCAN_INTERVAL_EXPIRY: a scan starts, or is held while one converts; before the load and under the
fallback the head set follows the presence senses, and a Fire head that leaves it sets the manual Fire latch (R1, R7,
R19, R20; log entry 21 for the senses, 19 for `turns`). -/
def Obligations.IntervalStartsOrHoldsAScan : Prop :=
  ∀ (present : BitVec 4) (s : State), s.power = .running →
    (s.front.scan.isSome = true →
      Changes (.scanIntervalExpiry present) s [.front, .line, .outputs] (fun t =>
        t.front = { s.front with scanHeld := true }))
    ∧ (s.front.scan = none → s.loader.state = .loaded →
      Changes (.scanIntervalExpiry present) s [.front, .lamp, .line, .outputs] (fun t =>
        t.front = { s.front with scan := some ⟨false, false⟩, scanHeld := false, interval := true }
          ∧ t.lamp = { s.lamp with turns := [] }))
    ∧ (s.front.scan = none → s.loader.state ≠ .loaded →
      Changes (.scanIntervalExpiry present) s
        [.front, .hazard, .control, .route, .doors, .calls, .lamp, .line, .counters, .outputs] (fun t =>
        t.front.scan = some ⟨false, false⟩
          ∧ (∀ k : Fin 4, t.hazard.heads.get k =
              if present.getLsbD k.val then
                some ((s.hazard.heads.get k).getD (Head.fresh .smoke ⟨12, 24, 40⟩ false))
              else none)
          ∧ (t.hazard.manualFire = true ↔
              s.hazard.manualFire = true
                ∨ ∃ (k : Fin 4) (h : Head), s.hazard.heads.get k = some h ∧ h.level = .fire
                    ∧ present.getLsbD k.val = false)
          ∧ (t.hazard.manualFire = true → t.hazard.zone = .fire)))

/-- SCAN_RESULT of a scan that is discarded: warm-up and a scan overtaken by the load change nothing but
the sequencer; an invalid scan advances the invalid run and its counter, freezes the heads at the third,
and leaves every head and the last readings as they were. A scan that was held while this one converted
starts when it completes, and before the load and under the fallback its start takes the presence senses
(R1, R2, R3, R4, R5, R7; log entry 21 for the senses, 19 for `turns`). -/
def Obligations.DiscardedScansTouchNoHead : Prop :=
  ∀ (r : ScanReadings) (present : BitVec 4) (scan : Scan) (s : State), s.power = .running →
    s.front.scan = some scan →
    ((scan.warmUp = true ∨ scan.void = true) → s.front.scanHeld = false →
      Changes (.scanResult r present) s [.front, .line, .outputs] (fun t =>
        t.front = { s.front with scan := none, scanHeld := false }))
    ∧ ((scan.warmUp = true ∨ scan.void = true) → s.front.scanHeld = true → s.loader.state = .loaded →
      Changes (.scanResult r present) s [.front, .lamp, .line, .outputs] (fun t =>
        t.front = { s.front with scan := some ⟨false, false⟩, scanHeld := false, interval := true }
          ∧ t.lamp = { s.lamp with turns := [] }))
    ∧ ((scan.warmUp = true ∨ scan.void = true) → s.front.scanHeld = true → s.loader.state ≠ .loaded →
      Changes (.scanResult r present) s
        [.front, .hazard, .control, .route, .doors, .calls, .lamp, .line, .counters, .outputs] (fun t =>
        t.front = { s.front with scan := some ⟨false, false⟩, scanHeld := false, interval := true }
          ∧ ∀ k : Fin 4, t.hazard.heads.get k =
              if present.getLsbD k.val then
                some ((s.hazard.heads.get k).getD (Head.fresh .smoke ⟨12, 24, 40⟩ false))
              else none))
    ∧ (scan.warmUp = false → scan.void = false → (r.refh.toNat < 960 ∨ 63 < r.refl.toNat) →
      Changes (.scanResult r present) s
        [.front, .hazard, .control, .route, .doors, .calls, .lamp, .line, .counters, .outputs] (fun t =>
        (∀ k : Fin 4, t.hazard.heads.get k =
            if s.front.scanHeld = true ∧ s.loader.state ≠ .loaded then
              if present.getLsbD k.val then
                some ((s.hazard.heads.get k).getD (Head.fresh .smoke ⟨12, 24, 40⟩ false))
              else none
            else s.hazard.heads.get k)
          ∧ t.front.lastRaw = s.front.lastRaw
          ∧ t.front.scan = (if s.front.scanHeld then some ⟨false, false⟩ else none)
          ∧ t.front.scanHeld = false
          ∧ t.front.invalidRun = min (s.front.invalidRun + 1) 3
          ∧ t.counters.invalidScan = satInc s.counters.invalidScan
          ∧ t.lamp.sign = s.lamp.sign ∧ t.lamp.chainA = s.lamp.chainA ∧ t.lamp.chainB = s.lamp.chainB
          ∧ t.front.fault = (s.front.fault || decide (2 ≤ s.front.invalidRun))
          ∧ (s.front.fault = false → 2 ≤ s.front.invalidRun →
              t.hazard.blind = true ∧ hasCall t .frontEnd = true ∧ t.outputs.relay = false)))

/-- SCAN_RESULT of a valid scan: every head of the set takes its step under the present posture's confirm requirement,
Front-end fault clears, and each chain is graded by its reading; a chain that newly enters Fault and a head that newly
reaches Fire, enters its own Fault or becomes Dirty has its call, which only another station's earlier take lets a
higher call of the same scan evict (R106, R113); a zone that becomes Fire makes the Alert request (R32, R33, R171); a
held scan then starts (R1, R2, R4, R6, R11, R12, R14 to R16, R18). What a chain makes of a reading (R154, R155), and
which strip chains are dark (R153, R157; log entry 19 for the moment of a conversion, 46 for the order of the calls). -/
def Obligations.ValidScanStepsEveryHead : Prop :=
  (∀ (r : ScanReadings) (present : BitVec 4) (s : State), s.power = .running →
    s.front.scan = some ⟨false, false⟩ → 960 ≤ r.refh.toNat → r.refl.toNat ≤ 63 →
    Changes (.scanResult r present) s
      [.front, .hazard, .control, .route, .doors, .calls, .lamp, .line, .counters, .outputs] (fun t =>
      (∀ k : Fin 4, t.hazard.heads.get k =
          if s.front.scanHeld = true ∧ s.loader.state ≠ .loaded then
            if present.getLsbD k.val then
              some
                (((s.hazard.heads.get k).map
                  (Head.step (if s.control.posture = .day then 3 else 1) (r.heads.get k))).getD
                  (Head.fresh .smoke ⟨12, 24, 40⟩ false))
            else none
          else
            (s.hazard.heads.get k).map (Head.step (if s.control.posture = .day then 3 else 1) (r.heads.get k)))
        ∧ t.front.scan = (if s.front.scanHeld then some ⟨false, false⟩ else none) ∧ t.front.scanHeld = false
        ∧ t.front.invalidRun = 0 ∧ t.front.fault = false
        ∧ t.front.lastRaw.refh = r.refh ∧ t.front.lastRaw.isg = r.isg
        ∧ t.lamp.sign = s.lamp.sign.take r.isg.toNat false
        ∧ t.lamp.chainA = s.lamp.chainA.take r.isa.toNat (s.lamp.showBefore r.sinceA).darkA
        ∧ t.lamp.chainB = s.lamp.chainB.take r.isb.toNat (s.lamp.showBefore r.sinceB).darkB
        ∧ (s.lamp.sign.fault = false → t.lamp.sign.fault = true → hasTaken s .chainSign = false → hasCall t .chainSign = true)
        ∧ (s.lamp.chainA.fault = false → t.lamp.chainA.fault = true → hasTaken s .chainA = false → hasCall t .chainA = true)
        ∧ (s.lamp.chainB.fault = false → t.lamp.chainB.fault = true → hasTaken s .chainB = false → hasCall t .chainB = true)
        ∧ (∀ (k : Fin 4) (h n : Head), s.hazard.heads.get k = some h → t.hazard.heads.get k = some n →
            (h.level ≠ .fire → n.level = .fire → hasTaken s (.head k) = false → hasCall t (.head k) = true)
              ∧ (h.fault = false → n.fault = true → hasTaken s (.headFault k) = false →
                  hasCall t (.headFault k) = true)
              ∧ (h.dirty = false → n.dirty = true → hasTaken s (.headDirty k) = false →
                  hasCall t (.headDirty k) = true))
        ∧ (s.hazard.zone ≠ .fire → t.hazard.zone = .fire → AlertRequested s t)))
    ∧ (∀ (c : Chain) (reading : Nat),
      c.take reading true = c
        ∧ (c.fault = false →
            (32 ≤ reading → c.take reading false = { c with lowRun := 0 })
            ∧ (reading < 32 → c.lowRun < 2 → c.take reading false = { c with lowRun := c.lowRun + 1 })
            ∧ (reading < 32 → 2 ≤ c.lowRun → c.take reading false = ⟨true, 0, 0⟩))
        ∧ (c.fault = true →
            (reading < 32 → c.take reading false = { c with recovery := 0 })
            ∧ (32 ≤ reading → c.recovery < 2 → c.take reading false = { c with recovery := c.recovery + 1 })
            ∧ (32 ≤ reading → 2 ≤ c.recovery → c.take reading false = ⟨false, 0, 0⟩)))
    ∧ ∀ (since : Nat) (l : Lamp),
      (l.test.isSome = true ∨ l.pattern = .steady → stripShow l = ⟨false, false⟩)
        ∧ (l.test = none → l.pattern = .flash → stripShow l = ⟨!l.flashOn, !l.flashOn⟩)
        ∧ (l.test = none → l.pattern = .chase →
            stripShow l = ⟨decide (l.position.val % 2 = 1), decide (l.position.val % 2 = 0)⟩)
        ∧ l.showBefore 0 = stripShow l
        ∧ ∀ show', l.turns[since]? = some show' → l.showBefore (since + 1) = show'

/-- A head at Fire stays at Fire, and a head comes to Fire only by a Fire-worthy reading that meets the
confirm requirement. What a head's step gives: a frozen head counts its recovery, a head whose bad readings
run long enough enters Fault, and any other head is graded, with the excess or rise of the reading, the
confirm count, the level of E and H, and then the baseline and the Dirty mark, or the window (R9 to R17; log entry 40
for the runs of a head that enters Fault). -/
def Obligations.FireLatchesAndNeedsConfirmation : Prop :=
  ∀ (required : Nat) (r : HeadReading) (h : Head), 0 < required →
    (h.level = .fire → (h.step required r).level = .fire)
    ∧ (h.level ≠ .fire → (h.step required r).level = .fire →
        (h.step required r).fault = false ∧ (h.step required r).fireWorthy = true
          ∧ required ≤ h.confirm + 1)
    ∧ (∀ bad : Bool,
        bad = (if h.kind = .smoke then decide (r.second.toNat - r.first.toNat < 4)
          else r.first.toNat == 0 || r.first.toNat == 1023) →
        (h.fault = true → bad = true → h.step required r = { h with goodRun := 0 })
        ∧ (h.fault = true → bad = false → h.goodRun < 2 → h.step required r = { h with goodRun := h.goodRun + 1 })
        ∧ (h.fault = true → bad = false → 2 ≤ h.goodRun →
            (h.step required r).fault = false ∧ (h.step required r).badRun = 0
              ∧ GradedBy required r { h with confirm := 0 } (h.step required r))
        ∧ (h.fault = false → bad = true → (if h.kind = .smoke then 9 else 2) ≤ h.badRun →
            h.step required r =
              { h with
                fault := true, confirm := 0, badRun := 0, goodRun := 0
                window := if h.kind = .smoke then h.window else [] })
        ∧ (h.fault = false → bad = false ∨ h.badRun < (if h.kind = .smoke then 9 else 2) →
            (h.step required r).fault = false
              ∧ (h.step required r).badRun = (if bad then h.badRun + 1 else 0)
              ∧ (h.step required r).goodRun = h.goodRun
              ∧ GradedBy required r h (h.step required r)))

/-! ## Postures and triggers (chapter 2, R170 to R172) -/

/-- JOIN_TIMER_EXPIRY in Startup: Night, with base Night; the Motion sources that Night asserts request (R27, R110; log
entry 4 for due, 46 for their order). -/
def Obligations.JoinWaitEndsInNight : Prop :=
  ∀ (n : Nat) (s : State), s.power = .running → s.control.posture = .startup →
    s.control.joinTimer = some n → 20 ≤ n →
    Changes .joinTimerExpiry s [.control, .doors, .calls, .route, .lamp, .line, .counters, .outputs] (fun t =>
      t.control = { s.control with posture := .night, base := .night, joinTimer := none }
        ∧ t.calls = (requestMotion (s.setControl t.control)).calls ∧ t.lamp.brightness = 10)

/-- POSTURE_ORDER_DAY and POSTURE_ORDER_NIGHT: posture and base, or only the base in Evacuate; where the posture
becomes Night, the Motion sources that it asserts request (R29, R30, R110; log entry 46 for their order). -/
def Obligations.BaseOrdersSetPostureOrBase : Prop :=
  ∀ (wire : List Byte) (corrected : Bool) (source : Station) (o : Order) (b : Base) (i : Instr) (s : State),
    (o = .day ∧ b = .day ∧ i = .postureOrderDay wire) ∨ (o = .night ∧ b = .night ∧ i = .postureOrderNight wire) →
    Hears wire corrected source (.order o) s →
    Changes i s [.control, .doors, .calls, .route, .lamp, .line, .counters, .outputs] (fun t =>
      t.control =
          (if s.control.posture = .evacuate then { s.control with base := b, provisionalBase := false }
          else { s.control with posture := b.posture, base := b, joinTimer := none })
        ∧ t.calls =
          if s.control.posture ≠ .night ∧ t.control.posture = .night then
            (requestMotion (s.setControl t.control)).calls
          else s.calls)

/-- POSTURE_ORDER_RESTORE: acceptable where every healthy head's last Fire-worthy mark is clear, no frozen head is at
Fire and no Fire point is active, before the load no input at all; outside Evacuate disregarded; refused, the posture,
the fire set and every head stay, and a station in Fire has a fire bulletin captured at once; accepted, no head, no
latch and no call of the station is at Fire and the posture is the base (R22, R23, R40 to R42, R123; log entry 15 for
the bulletin's count). -/
def Obligations.RestoreIsJudged : Prop :=
  (∀ s : State, restoreAcceptable s = true ↔
    (∀ (k : Fin 4) (h : Head), s.hazard.heads.get k = some h →
      (h.fault = false → s.front.fault = false → h.fireWorthy = false)
        ∧ (h.fault = true ∨ s.front.fault = true → h.level ≠ .fire))
      ∧ (loadComplete s = true → ∀ i : Fin 6, inputKind s i = .firePoint → (s.calls.inputs.get i).active = false)
      ∧ (loadComplete s = false → ∀ i : Fin 6, (s.calls.inputs.get i).active = false))
  ∧ ∀ (wire : List Byte) (corrected : Bool) (source : Station) (s : State),
    Hears wire corrected source (.order .restore) s →
    ((s.control.posture ≠ .evacuate ∨ restoreAcceptable s = false) →
      Changes (.postureOrderRestore wire) s [.line, .counters, .outputs] (fun t =>
        (s.control.posture ≠ .evacuate ∨ s.hazard.zone ≠ .fire → t.line.queue = s.line.queue)
          ∧ (s.control.posture = .evacuate → s.hazard.zone = .fire →
              t.line.bulletins = s.line.bulletins + 1
                ∧ (HasRoom s ∨ Waits s (fun f => f.isBulletin = true) →
                    Waits t (fun f => f = .bulletin true (s.line.bulletins + 1) (captureBulletin s))))))
    ∧ (s.control.posture = .evacuate → restoreAcceptable s = true →
      Changes (.postureOrderRestore wire) s
        [.hazard, .control, .route, .doors, .calls, .lamp, .line, .counters, .outputs] (fun t =>
        t.control.posture = s.control.base.posture ∧ t.control.base = s.control.base
          ∧ t.control.fireSet = [] ∧ t.control.hushed = false ∧ t.control.provisionalBase = false
          ∧ t.hazard.manualFire = false ∧ t.hazard.zone ≠ .fire
          ∧ t.hazard.heads = s.hazard.heads.map (fun o => o.map (Head.restored s.front.fault))
          ∧ ∀ i : Fin 8, (t.calls.slots.get i).isOpen = true → (t.calls.slots.get i).kind ≠ some .fire))

/-- ALERT_TRIGGER, HUSH_TRIGGER, OTHER_TRIGGER_CODE and CODE_WAIT_TIMEOUT: the receiver passes to
Discard; an Alert enters Evacuate, a Hush sets the flag in Evacuate, another code and a missing one do
nothing more (R29, R36, R38, R160, R172; log entry 10 for a code in Break). -/
def Obligations.CodeBytesAreTaken : Prop :=
  ∀ (code : Byte) (s : State), s.power = .running → awaitsCode s = true →
    Changes .alertTrigger s [.control, .doors, .calls, .route, .lamp, .line, .counters, .outputs] (fun t =>
      t.line.receiver = .discard
        ∧ t.control =
          if s.control.posture = .evacuate then s.control
          else
            { s.control with
              posture := .evacuate, hushed := false, joinTimer := none
              provisionalBase := s.control.provisionalBase || s.control.posture == .startup })
    ∧ Changes .hushTrigger s [.control, .lamp, .line, .outputs] (fun t =>
        t.line.receiver = .discard
          ∧ t.control = { s.control with hushed := s.control.hushed || s.control.posture == .evacuate })
    ∧ (code ≠ 75 → code ≠ 150 →
        Changes (.otherTriggerCode code) s [.line, .outputs] (fun t => t.line.receiver = .discard))
    ∧ Changes .codeWaitTimeout s [.line, .outputs] (fun t => t.line.receiver = .discard)

/-! ## The line port (chapter 9) -/

/-- LINE_IDLE: a held Alert is driven, else a pending Hush, else the head entry is started, else the receiver is
Quiet; and an Idle that ends the line fault asks for the Line call, queues the bulletin, restarts a running refresh
timer and drives a held Alert (R140, R160, R167, R171, R173; log entries 11, 15 and 35, and 46 for the call before the
bulletin that counts it). -/
def Obligations.IdleLineStartsSending : Prop :=
  ∀ s : State, s.power = .running →
    (s.line.receiver = .discard ∨ s.line.receiver = .quiet → s.line.fault = false → s.line.onLine = none →
      s.line.driving = none → s.line.alertHeld = false →
      Changes .lineIdle s [.line, .outputs] (fun t =>
        t.line =
          if s.line.hushPending then { s.line with receiver := .frame, driving := some .hush }
          else
            match s.line.queue with
            | e :: rest =>
              if strapped s && loadComplete s then
                { s.line with
                  queue := { e with inFlight := true } :: rest, onLine := some e.frame, receiver := .frame }
              else { s.line with receiver := .quiet }
            | [] => { s.line with receiver := .quiet }))
    ∧ (s.line.receiver ∈ [Receiver.discard, .quiet, .stuck] → s.line.fault = false → s.line.driving = none →
      s.line.alertHeld = true →
      Changes .lineIdle s [.line, .outputs] (fun t =>
        t.line = { s.line with receiver := .frame, driving := some .alert }))
    ∧ (s.line.receiver = .stuck → s.line.fault = true →
      Changes .lineIdle s [.calls, .line, .counters, .outputs] (fun t =>
        t.line.fault = false ∧ hasCall t .line = true ∧ t.line.bulletins = s.line.bulletins + 1
          ∧ t.line.refresh = s.line.refresh.map (fun _ => 0)
          ∧ (s.line.alertHeld = true → s.line.driving = none → t.line.driving = some .alert)
          ∧ (s.line.queue.length ≤ 10 →
              Waits t (fun f => f = .bulletin (s.hazard.zone == .fire) (s.line.bulletins + 1) (captureBulletin t)))))

/-- FRAME_COMPLETE: the frame has left the line, its entry has left the queue unless it was replaced in flight,
the receiver passes to Discard, and the completion is handed on: a bulletin restarts the refresh; an order is
applied as if heard; a take or cancel addressed to the own number is judged with the own number as sender; at
a post an own notice is taken as if heard, a new or updated entry showing what the notice shows and the Help
chime and the selection following the board; the closings of a cancel serve the waiting sources and ask again
for an active Motion; the other frames and the frames for other stations hand on nothing (R30, R40, R110, R114,
R118, R126, R127, R128, R142, R165, R169; log entries 46 for the order of the Motion calls, 48 for the kind that
an update leaves as it is). -/
def Obligations.CompletionIsHandedOn : Prop :=
  ∀ (f : Frame) (s : State), s.power = .running → s.line.driving = none → s.line.onLine = some f →
    Changes .frameComplete s
      [.hazard, .control, .route, .doors, .calls, .post, .lamp, .line, .counters, .outputs] (fun t =>
      t.line.onLine = none ∧ t.line.receiver = .discard ∧ (∀ e ∈ t.line.queue, e.inFlight = false)
        ∧ (∀ e ∈ t.line.queue, s.line.placed ≤ e.place
            ∨ ∃ old ∈ s.line.queue, old.inFlight = false ∧ old.place = e.place)
        ∧ (f.isBulletin = true →
            t.line.refresh = some 0 ∧ t.line.queue = s.line.queue.filter (fun e => !e.inFlight))
        ∧ (f.isBulletin = false → t.line.refresh = s.line.refresh)
        ∧ (∀ o, f = .order o → OrderApplied o s t)
        ∧ (∀ target slot seq, f = .take target slot seq →
            (addressedHere target s = true → ∀ i : Fin 8, slot = wideSlot i →
              TakeApplied s.loader.station i seq s t)
            ∧ (addressedHere target s = false ∨ 8 ≤ slot.val → HandsOnNothing s t))
        ∧ (∀ target slot seq, f = .cancel target slot seq →
            (addressedHere target s = true → ∀ i : Fin 8, slot = wideSlot i →
              CancelApplied s.loader.station i seq s t)
            ∧ (addressedHere target s = false ∨ 8 ≤ slot.val → HandsOnNothing s t))
        ∧ (∀ count n, f = .notice count n →
            t.line.queue = s.line.queue.filter (fun e => !e.inFlight)
              ∧ (s.post.role = false ∨ s.loader.station = 0 → t.post = s.post)
              ∧ (s.post.role = true → s.loader.station ≠ 0 → NoticeApplied s.loader.station n s t))
        ∧ ((∃ target area index, f = .request target area index) ∨ (∃ tag payload, f = .answer tag payload) →
            HandsOnNothing s t))

/-- ARBITRATION_LOST, TRANSMIT_BIT_ERROR, BREAK and LINE_STUCK across an own frame: the frame leaves the
line, its entry stays, no entry is in flight, and the cause is counted (R160, R168, R170, R173; log entry
13 for the framing error counted with a line error, 25 for a LINE_STUCK while the line fault is set). -/
def Obligations.CutFrameStaysQueued : Prop :=
  ∀ (f : Frame) (wire : List Byte) (s : State), s.power = .running → s.line.onLine = some f →
    (s.line.driving = none →
      Changes .arbitrationLost s [.line, .counters, .outputs] (fun t =>
        t.line.queue = landed s.line.queue ∧ t.line.onLine = none ∧ t.line.receiver = .frame
          ∧ t.counters = { s.counters with arbitrationLost := satInc s.counters.arbitrationLost }))
    ∧ (∀ cause, Changes (.transmitBitError cause) s [.line, .counters, .outputs] (fun t =>
        t.line.queue = landed s.line.queue ∧ t.line.onLine = none ∧ t.line.receiver = .discard
          ∧ t.counters.bitError = satInc s.counters.bitError
          ∧ t.counters.discardedFrame =
            if cause = .lineError then satInc s.counters.discardedFrame else s.counters.discardedFrame))
    ∧ Changes (.lineBreak wire) s [.line, .counters, .outputs] (fun t =>
        t.line.queue = landed s.line.queue ∧ t.line.onLine = none ∧ t.line.receiver = .brk
          ∧ t.counters = { s.counters with abortedByBreak := satInc s.counters.abortedByBreak })
    ∧ Changes .lineStuck s [.line, .counters, .outputs] (fun t =>
        t.line.queue = landed s.line.queue ∧ t.line.onLine = none ∧ t.line.receiver = .stuck
          ∧ t.line.fault = true ∧ t.line.driving = none ∧ t.outputs.relay = false
          ∧ t.counters.stuckLine = if s.line.fault then s.counters.stuckLine else satInc s.counters.stuckLine)

/-- TRIGGER_DRIVEN and TRIGGER_LOST: a driven trigger's request is over and a Hush is applied at the
post; a lost one keeps its request, an Alert is driven again at once, a Hush waits, a failed drive is counted
(R38, R171; log entry 10 for the receiver after the own break, 12 for the Alert driven again and for the receiver
after a Hush that fails before its break). -/
def Obligations.TriggerEnds : Prop :=
  ∀ s : State, s.power = .running →
    (s.line.driving = some .alert → s.line.receiver ≠ .quiet →
      Changes .triggerDriven s [.line, .outputs] (fun t => t.line.alertHeld = false ∧ t.line.driving = none)
      ∧ ∀ cause, Changes (.triggerLost cause) s [.line, .counters, .outputs] (fun t =>
          t.line.driving = some .alert ∧ t.line.alertHeld = s.line.alertHeld
            ∧ t.counters.bitError =
              if cause = .driveFailed then satInc s.counters.bitError else s.counters.bitError))
    ∧ (s.line.driving = some .hush →
      Changes .triggerDriven s [.control, .lamp, .line, .outputs] (fun t =>
        t.line.hushPending = false
          ∧ t.control = { s.control with hushed := s.control.hushed || s.control.posture == .evacuate })
      ∧ (s.line.receiver = .brk → ∀ cause,
          Changes (.triggerLost cause) s [.line, .counters, .outputs] (fun t =>
            t.line = { s.line with driving := none, receiver := .codeWait }
              ∧ t.counters.bitError =
                if cause = .driveFailed then satInc s.counters.bitError else s.counters.bitError))
      ∧ (s.line.receiver ∈ [Receiver.frame, .discard, .codeWait] → ∀ cause,
          Changes (.triggerLost cause) s [.line, .counters, .outputs] (fun t =>
            t.line =
                { s.line with
                  receiver :=
                    if s.line.receiver = .frame ∧ cause = .driveFailed then .discard else s.line.receiver
                  driving :=
                    if s.line.alertHeld = true ∧ s.line.fault = false ∧ s.line.receiver ≠ .codeWait then some .alert
                    else none }
              ∧ t.counters.bitError =
                if cause = .driveFailed then satInc s.counters.bitError else s.counters.bitError)))

/-- FRAMING_ERROR, FRAME_DISCARDED, SURVEY_ANSWER and BREAK at a receiver that takes another station's frame: the
receiver passes to Discard, or to Break, the matching counter advances, a header corrected before the frame
was cut is counted, and nothing is handed on; a framing error in a code byte ends in Discard and counts
nothing (R160, R161, R162, R170, R172, R184; log entry 8 for the receiver in Quiet, 10 for a code in
Break). -/
def Obligations.ReceiverEndsInDiscard : Prop :=
  ∀ (wire : List Byte) (s : State), s.power = .running →
    (receiving s = true →
    Changes (.framingError wire) s [.line, .counters, .outputs] (fun t =>
      t.line.receiver = .discard ∧ t.line.queue = s.line.queue
        ∧ t.counters =
          { headerCounted (cutCorrected wire) s.counters with discardedFrame := satInc s.counters.discardedFrame })
    ∧ Changes (.lineBreak wire) s [.line, .counters, .outputs] (fun t =>
        t.line.receiver = .brk ∧ t.line.queue = s.line.queue
          ∧ t.counters = headerCounted (cutCorrected wire) s.counters)
    ∧ (judgeFrame wire = .headerLost →
      Changes (.frameDiscarded wire) s [.line, .counters, .outputs] (fun t =>
        t.line.receiver = .discard ∧ t.line.queue = s.line.queue
          ∧ t.counters = { s.counters with discardedHeader := satInc s.counters.discardedHeader }))
    ∧ (∀ corrected, judgeFrame wire = .discarded corrected →
      Changes (.frameDiscarded wire) s [.line, .counters, .outputs] (fun t =>
        t.line.receiver = .discard ∧ t.line.queue = s.line.queue
          ∧ t.counters =
            { headerCounted corrected s.counters with discardedFrame := satInc s.counters.discardedFrame }))
    ∧ (∀ corrected source tag payload, judgeFrame wire = .accepted corrected source (.answer tag payload) →
      Changes (.surveyAnswer wire) s [.line, .counters, .outputs] (fun t =>
        t.line.receiver = .discard ∧ t.line.queue = s.line.queue
          ∧ t.counters = headerCounted corrected s.counters)))
    ∧ (awaitsCode s = true →
      Changes (.framingError wire) s [.line, .outputs] (fun t =>
        t.line.receiver = .discard ∧ t.line.queue = s.line.queue))

/-- BULLETIN_REFRESH_EXPIRY: a bulletin with its content captured now waits in the queue, and the timer restarts; on a
line that has been Idle the head entry is started at once, or, where another station's start bit was seen first, the
station waits for the next Idle (R160, R163, R165, R166, R167; log entry 4 for due, 7 for the moment of the start, 8
for the start bit, 15 for the count). FRAME_COMPLETE of an own bulletin restarts the timer (R165, R169). What a
captured bulletin shows, and what of the route is advertised (R74, R124, spec 11.2; log entry 39 for a provisional
leaf). -/
def Obligations.RefreshQueuesABulletin : Prop :=
  (∀ s : State, BulletinShows s (captureBulletin s) ∧ AdvertisesItsRoute s)
  ∧ (∀ (fire : Bool) (count : Byte) (b : Bulletin) (s : State), s.power = .running → s.line.driving = none →
    s.line.onLine = some (.bulletin fire count b) →
    Changes .frameComplete s [.line, .outputs] (fun t =>
      t.line.onLine = none ∧ t.line.refresh = some 0 ∧ t.line.receiver = .discard
        ∧ t.line.queue = s.line.queue.filter (fun e => !e.inFlight) ∧ t.line.bulletins = s.line.bulletins))
  ∧ ∀ (n : Nat) (s : State), s.power = .running → s.line.refresh = some n → 10 ≤ n →
    HasRoom s ∨ Waits s (fun f => f.isBulletin = true) →
    Changes .bulletinRefreshExpiry s [.line, .outputs] (fun t =>
      t.line.refresh = some 0 ∧ t.line.bulletins = s.line.bulletins + 1
        ∧ Waits t (fun f =>
            f = .bulletin (s.hazard.zone == .fire) (s.line.bulletins + 1) (captureBulletin s))
        ∧ (strapped s = true → loadComplete s = true → s.line.fault = false → s.line.receiver = .quiet →
            s.line.onLine = none → s.line.driving = none → s.line.alertHeld = false →
            t.line.receiver = .frame ∧ t.line.startBits = s.line.startBits.tail
              ∧ (s.line.startBits.head? = some true → t.line.onLine = none)
              ∧ (s.line.startBits.head? ≠ some true →
                  ∃ e rest, t.line.queue = e :: rest ∧ e.inFlight = true ∧ t.line.onLine = some e.frame)))

/-! ## Bulletins heard (chapters 2 and 3) -/

/-- BULLETIN and FIRE_BULLETIN from a neighbour: the entry takes every heard field, is Current and of age
0; no other entry changes (R46, R47). -/
def Obligations.NeighbourBulletinFillsItsEntry : Prop :=
  ∀ (wire : List Byte) (corrected asFire : Bool) (source : Station) (count : Byte) (b : Bulletin) (j : Fin 8)
    (e : Entry) (s : State),
    Hears wire corrected source (.bulletin asFire count b) s → source ≠ 0 → source ≠ s.loader.station →
    entryFor s source = some j → entryAt s j = some e →
    Changes (bulletinRow asFire wire) s
      [.control, .peers, .doors, .calls, .route, .lamp, .line, .counters, .outputs] (fun t =>
      t.peers =
        { s.peers with
          entries := s.peers.entries.set j.val
            { e with
              status := .current, age := some 0
              heard := some
                { hazard := b.hazard, blind := b.flags.getLsbD 7, posture := b.posture, cost := b.cost.toNat
                  hops := b.hops.toNat, nextHop := b.nextHop, doors := b.doors } } })

/-- BULLETIN and FIRE_BULLETIN that bear the own number or 0: no entry and no posture is touched; the own
number sets the Duplicate fault, counts, and opens the relay; 0 is disregarded (R26, R46, R54, R55,
R174). -/
def Obligations.OwnNumberIsADuplicate : Prop :=
  ∀ (wire : List Byte) (corrected asFire : Bool) (source : Station) (count : Byte) (b : Bulletin) (s : State),
    Hears wire corrected source (.bulletin asFire count b) s →
    (source = 0 →
      Changes (bulletinRow asFire wire) s [.line, .counters, .outputs] (fun t =>
        t.counters = headerCounted corrected s.counters))
    ∧ (source ≠ 0 → source = s.loader.station →
      Changes (bulletinRow asFire wire) s [.peers, .calls, .line, .counters, .outputs] (fun t =>
        t.peers = { s.peers with duplicate := true, duplicateTimer := some 0 }
          ∧ t.counters.duplicate = satInc s.counters.duplicate ∧ t.outputs.relay = false
          ∧ (s.peers.duplicate = false → hasCall t .duplicate = true)))

/-- A bulletin that shows Fire, of either kind, from another station: Evacuate, its source in the fire
set, the hushed flag clear for a new member, the base kept in Day or Night, taken from the bulletin in Startup,
and taken from it in Evacuate while the base is provisional (R31, R34, R35). -/
def Obligations.FireHeardMeansEvacuate : Prop :=
  ∀ (wire : List Byte) (corrected asFire : Bool) (source : Station) (count : Byte) (b : Bulletin) (s : State),
    Hears wire corrected source (.bulletin asFire count b) s → source ≠ 0 → source ≠ s.loader.station →
    b.hazard = .fire →
    Changes (bulletinRow asFire wire) s
      [.control, .peers, .route, .doors, .calls, .lamp, .line, .counters, .outputs] (fun t =>
      t.control.posture = .evacuate ∧ (∀ m, m ∈ t.control.fireSet ↔ m = source ∨ m ∈ s.control.fireSet)
        ∧ (source ∉ s.control.fireSet → t.control.hushed = false)
        ∧ (s.control.posture = .day ∨ s.control.posture = .night → t.control.base = s.control.base)
        ∧ (s.control.posture = .startup →
            t.control.joinTimer = none
              ∧ t.control.base = (shownBase b).getD s.control.base
              ∧ t.control.provisionalBase = (s.control.provisionalBase || b.posture == .startup))
        ∧ (s.control.posture = .evacuate →
            t.control.base = (if s.control.provisionalBase then (shownBase b).getD s.control.base else s.control.base)
              ∧ t.control.provisionalBase = (s.control.provisionalBase && b.posture == .startup)
              ∧ (source ∈ s.control.fireSet → t.control.hushed = s.control.hushed)))

/-- A bulletin below Fire from another station: its source leaves the fire set, a station in Startup adopts the
posture and the base that it shows, and a provisional base is taken from it (R28, R31, R37). -/
def Obligations.BulletinIsAdoptedInStartup : Prop :=
  ∀ (wire : List Byte) (corrected asFire : Bool) (source : Station) (count : Byte) (b : Bulletin) (s : State),
    Hears wire corrected source (.bulletin asFire count b) s → source ≠ 0 → source ≠ s.loader.station →
    b.hazard ≠ .fire →
    Changes (bulletinRow asFire wire) s
      [.control, .peers, .route, .doors, .calls, .lamp, .line, .counters, .outputs] (fun t =>
      (∀ m, m ∈ t.control.fireSet ↔ m ≠ source ∧ m ∈ s.control.fireSet)
        ∧ (s.control.posture = .startup → t.control.posture = b.posture)
        ∧ (s.control.posture = .startup → b.posture ≠ .startup → t.control.joinTimer = none)
        ∧ (s.control.posture = .startup → b.posture = .evacuate → t.control.base = b.base)
        ∧ (s.control.posture = .startup → t.control.base = (shownBase b).getD s.control.base)
        ∧ (s.control.posture ≠ .startup → t.control.posture = s.control.posture)
        ∧ (s.control.posture ≠ .startup → s.control.provisionalBase = false → t.control = 
            { s.control with fireSet := s.control.fireSet.filter (· != source) })
        ∧ (s.control.posture ≠ .startup → s.control.provisionalBase = true →
            t.control =
              { s.control with
                fireSet := s.control.fireSet.filter (· != source)
                base := (shownBase b).getD s.control.base, provisionalBase := b.posture == .startup }))

/-- STALE_EXPIRY, LOST_EXPIRY and DUPLICATE_TIMER_EXPIRY: a due expiry changes the status, or clears the fault; heard
fields and age stay; the fault's timer needs no entry; a Stale or Lost expiry that is not due reaches no block but the
line port (R50, R51, R52, R56; log entry 4 for due). -/
def Obligations.PeerTimersExpire : Prop :=
  (∀ (j : Fin 8) (e : Entry) (n : Nat) (s : State), s.power = .running → entryAt s j = some e → e.age = some n →
    (e.status = .current → 25 ≤ n →
      Changes (.staleExpiry j) s [.peers, .route, .lamp, .line, .counters, .outputs] (fun t =>
        t.peers = { s.peers with entries := s.peers.entries.set j.val { e with status := .stale } }))
    ∧ (e.status = .stale → 60 ≤ n →
      Changes (.lostExpiry j) s [.peers, .route, .lamp, .line, .counters, .outputs] (fun t =>
        t.peers = { s.peers with entries := s.peers.entries.set j.val { e with status := .lost } }))
    ∧ (e.status ≠ .current ∨ n < 25 → Changes (.staleExpiry j) s [.line, .outputs] (fun _ => True))
    ∧ (e.status ≠ .stale ∨ n < 60 → Changes (.lostExpiry j) s [.line, .outputs] (fun _ => True)))
  ∧ ∀ (m : Nat) (s : State), s.power = .running → s.peers.duplicateTimer = some m →
    (60 ≤ m →
      Changes .duplicateTimerExpiry s [.peers, .line, .counters, .outputs] (fun t =>
        t.peers = { s.peers with duplicate := false, duplicateTimer := none }
          ∧ t.line.bulletins = s.line.bulletins + 1 ∧ t.counters.duplicate = s.counters.duplicate))
    ∧ (m < 60 → Changes .duplicateTimerExpiry s [.line, .outputs] (fun _ => True))

/-! ## Route (chapter 4) -/

/-- R63, R65, R68: the penalty of a neighbour, the candidate via it, which is none via an Unheard or Lost neighbour,
and the exit candidate. -/
def Obligations.WaysOutAreWeighed : Prop :=
  (∀ (leaves : Four Leaf) (e : Entry),
    (e.status = .unheard ∨ e.status = .lost → penalty leaves e = none)
      ∧ (∀ p, penalty leaves e = some p → p ≤ 34)
      ∧ ∀ h, e.heard = some h → e.status = .current ∨ e.status = .stale →
          (h.hazard = .fire ∨ passageClass leaves e.fixed.door h = some .blocked → penalty leaves e = none)
          ∧ (h.hazard ≠ .fire → passageClass leaves e.fixed.door h ≠ some .blocked →
              penalty leaves e =
                some
                  ((if e.status = .stale then 8 else 0)
                    + (if h.hazard = .watch then 4 else if h.hazard = .prealarm then 16 else 0)
                    + (if h.blind then 8 else 0)
                    + (if passageClass leaves e.fixed.door h = some .slow then 2 else 0))))
    ∧ (∀ (own : Station) (leaves : Four Leaf) (e : Entry),
        e.status = .unheard ∨ e.status = .lost ∨ e.heard = none → entryCandidate own leaves e = ⟨255, 0⟩)
    ∧ (∀ (own : Station) (leaves : Four Leaf) (e : Entry) (h : Heard), e.heard = some h →
        (penalty leaves e = none ∨ h.cost = 255 ∨ h.nextHop = .station own ∨ h.hops = 24 →
          entryCandidate own leaves e = ⟨255, 0⟩)
        ∧ ∀ p, penalty leaves e = some p → h.cost ≠ 255 → h.nextHop ≠ .station own → h.hops ≠ 24 →
            (h.cost + e.fixed.weight + p < 255 →
              entryCandidate own leaves e = ⟨h.cost + e.fixed.weight + p, h.hops + 1⟩)
            ∧ (255 ≤ h.cost + e.fixed.weight + p → entryCandidate own leaves e = ⟨255, 0⟩))
    ∧ ∀ (weight : Nat) (leaf : Option Leaf),
        (weight = 0 → exitCandidate weight leaf = ⟨255, 0⟩)
          ∧ (0 < weight → leaf.bind shownClass = some .blocked → exitCandidate weight leaf = ⟨255, 0⟩)
          ∧ (0 < weight → leaf.bind shownClass = some .slow → exitCandidate weight leaf = ⟨weight + 2, 0⟩)
          ∧ (0 < weight → leaf.bind shownClass = some .usable ∨ leaf = none →
              exitCandidate weight leaf = ⟨weight, 0⟩)

/-- A computation chooses as R70 to R73 say: with no passable next hop held, the cheapest way, the exit
first and then the lower entry between equals; with a passable one held, it is left only for a way
cheaper by more than 2; and a station with a route then has a next hop that is the exit or a Current or
Stale neighbour that does not name it, with hops of 0 to 24 (R66, R73). -/
def Obligations.RouteChoiceKeepsTheMargin : Prop :=
  (∀ (held : NextHop) (exit : Candidate) (entries : Eight Candidate),
    exit.cost ≤ 255 → (∀ j, (entries.get j).cost ≤ 255) →
    ((candidateVia exit entries held).cost = 255 →
      (chooseRoute held exit entries).cost ≤ exit.cost
        ∧ (∀ j, (chooseRoute held exit entries).cost ≤ (entries.get j).cost)
        ∧ ((chooseRoute held exit entries).next = .exit ↔
            exit.cost < 255 ∧ ∀ j, exit.cost ≤ (entries.get j).cost)
        ∧ (∀ j, (chooseRoute held exit entries).next = .entry j ↔
            (entries.get j).cost < 255 ∧ (entries.get j).cost < exit.cost
              ∧ (∀ k, k < j → (entries.get j).cost < (entries.get k).cost)
              ∧ ∀ k, (entries.get j).cost ≤ (entries.get k).cost))
    ∧ ((candidateVia exit entries held).cost < 255 →
      ((chooseRoute held exit entries).next = held
          ∧ (chooseRoute held exit entries).cost = (candidateVia exit entries held).cost
          ∧ (chooseRoute held exit entries).hops = (candidateVia exit entries held).hops
          ∧ (candidateVia exit entries held).cost ≤ exit.cost + 2
          ∧ ∀ j, (candidateVia exit entries held).cost ≤ (entries.get j).cost + 2)
        ∨ ((chooseRoute held exit entries).cost + 2 < (candidateVia exit entries held).cost
          ∧ (chooseRoute held exit entries).cost ≤ exit.cost
          ∧ ∀ j, (chooseRoute held exit entries).cost ≤ (entries.get j).cost)))
    ∧ ∀ (s : State), HeardHopsBounded s → (computeRoute s).route.cost < 255 →
        (computeRoute s).route.hops ≤ 24
          ∧ ((computeRoute s).route.next = .exit
            ∨ ∃ j e h, (computeRoute s).route.next = .entry j ∧ entryAt s j = some e ∧ e.heard = some h
                ∧ (e.status = .current ∨ e.status = .stale) ∧ h.hazard ≠ .fire
                ∧ h.nextHop ≠ .station s.loader.station)

/-! ## Doors (chapter 5) -/

/-- DOOR_CONTACT_CHANGE of a configured leaf: a Secured leaf that opens is Forced and has its Intrusion
call, any other shut leaf is Open, and a leaf that shuts comes to rest by its lock demand and bolt; either
contact of a provisional record sets its state by the three-way test, and an unconfigured position
disregards both (R80, R81, R85 to R92, R100, R102; log entry 42 for a leaf that shuts with its lock demand true
and its bolt thrown). -/
def Obligations.DoorContactMovesTheLeaf : Prop :=
  ∀ (n : Fin 4) (c : LeafConfig) (exitDoor : Bool) (links : List (Fin 8)) (s : State), s.power = .running →
    ((s.doors.leaves.get n).role = .configured c exitDoor links →
    ((s.doors.leaves.get n).doorClosed = true →
      Changes (.doorContactChange n false) s [.doors, .calls, .route, .lamp, .line, .counters, .outputs] (fun t =>
        (∀ m, m ≠ n → t.doors.leaves.get m = s.doors.leaves.get m)
          ∧ (t.doors.leaves.get n).doorClosed = false ∧ (t.doors.leaves.get n).state.atLock = false
          ∧ ((s.doors.leaves.get n).state = .secured →
              (t.doors.leaves.get n).state = .forced ∧ hasCall t (.leaf n) = true)
          ∧ ((s.doors.leaves.get n).state ∉ [LeafState.secured, .forced, .propped] →
              (t.doors.leaves.get n).state = .opened)))
    ∧ ((s.doors.leaves.get n).doorClosed = false → (s.doors.leaves.get n).state ∈ [LeafState.opened, .forced, .propped] →
      Changes (.doorContactChange n true) s [.doors, .calls, .route, .lamp, .line, .counters, .outputs] (fun t =>
        (∀ m, m ≠ n → t.doors.leaves.get m = s.doors.leaves.get m)
          ∧ (t.doors.leaves.get n).doorClosed = true
          ∧ (t.doors.leaves.get n).state =
            if demandNow s (s.doors.leaves.get n) then
              if (s.doors.leaves.get n).boltThrown then .secured else .securing
            else
              if (s.doors.leaves.get n).boltThrown then .releasing else .closed))
    ∧ (∀ closed, (s.doors.leaves.get n).doorClosed = closed →
      Changes (.doorContactChange n closed) s [.line, .outputs] (fun _ => True)))
    ∧ ((s.doors.leaves.get n).role = .provisional →
      (∀ closed, (s.doors.leaves.get n).doorClosed ≠ closed →
        Changes (.doorContactChange n closed) s [.doors, .line, .outputs] (fun t =>
          t.doors.leaves =
            s.doors.leaves.set n
              { s.doors.leaves.get n with
                doorClosed := closed
                state :=
                  if closed = false then .opened
                  else if (s.doors.leaves.get n).boltThrown then .jammed .release
                  else .closed }))
      ∧ ∀ thrown, (s.doors.leaves.get n).boltThrown ≠ thrown →
        Changes (.boltContactChange n thrown) s [.doors, .line, .outputs] (fun t =>
          t.doors.leaves =
            s.doors.leaves.set n
              { s.doors.leaves.get n with
                boltThrown := thrown
                state :=
                  if (s.doors.leaves.get n).doorClosed = false then .opened
                  else if thrown then .jammed .release
                  else .closed }))
    ∧ ((s.doors.leaves.get n).role = .dropped →
      ∀ level, Changes (.doorContactChange n level) s [.line, .outputs] (fun _ => True)
        ∧ Changes (.boltContactChange n level) s [.line, .outputs] (fun _ => True))

/-- BOLT_CONTACT_CHANGE of a configured leaf: Securing ends in Secured and Releasing in Closed at the
commanded position, a lost bolt goes back to Securing, and a shut idle leaf draws a thrown bolt back
(R85 to R89). What the lock demand of a leaf is, and its class by its state (R83, R99; log entry 39 for the class of
a provisional leaf). -/
def Obligations.BoltContactMovesTheLeaf : Prop :=
  (∀ (n : Fin 4) (s : State), DemandIsR83 s n ∧ ClassIsR99 (s.doors.leaves.get n))
  ∧ ∀ (n : Fin 4) (c : LeafConfig) (exitDoor : Bool) (links : List (Fin 8)) (s : State), s.power = .running →
    (s.doors.leaves.get n).role = .configured c exitDoor links →
    ((s.doors.leaves.get n).boltThrown = false →
      Changes (.boltContactChange n true) s [.doors, .calls, .route, .lamp, .line, .counters, .outputs] (fun t =>
        (t.doors.leaves.get n).boltThrown = true
          ∧ ((s.doors.leaves.get n).state ∈ [LeafState.securing, .jammed .lock] →
              (t.doors.leaves.get n).state = .secured)
          ∧ ((s.doors.leaves.get n).state = .closed → demandNow s (s.doors.leaves.get n) = false →
              (t.doors.leaves.get n).state = .releasing ∧ (t.doors.leaves.get n).bolt = some 0)
          ∧ ((s.doors.leaves.get n).state ∈ [LeafState.opened, .forced, .propped] →
              (t.doors.leaves.get n).state = (s.doors.leaves.get n).state)))
    ∧ ((s.doors.leaves.get n).boltThrown = true →
      Changes (.boltContactChange n false) s [.doors, .calls, .route, .lamp, .line, .counters, .outputs] (fun t =>
        (t.doors.leaves.get n).boltThrown = false
          ∧ ((s.doors.leaves.get n).state ∈ [LeafState.releasing, .jammed .release] →
              (t.doors.leaves.get n).state =
                if demandNow s (s.doors.leaves.get n) then .securing else .closed)
          ∧ ((s.doors.leaves.get n).state = .secured → demandNow s (s.doors.leaves.get n) = true →
              (t.doors.leaves.get n).state = .securing ∧ (t.doors.leaves.get n).bolt = some 0)
          ∧ ((s.doors.leaves.get n).state ∈ [LeafState.opened, .forced, .propped] →
              (t.doors.leaves.get n).state = (s.doors.leaves.get n).state)))

/-- EXIT_REQUEST_EDGE and EXIT_REQUEST: the edge sets the latch; the press clears it, starts a pass that
releases a locked leaf, restarts a running pass, and in Night has an Intrusion call; a provisional record
only latches and clears, and an unconfigured position disregards its button (R80, R81, R94, R95, R102,
R109). -/
def Obligations.PressGrantsAPass : Prop :=
  ∀ (n : Fin 4) (c : LeafConfig) (exitDoor : Bool) (links : List (Fin 8)) (s : State), s.power = .running →
    ((s.doors.leaves.get n).role = .configured c exitDoor links →
    Changes (.exitRequestEdge n) s [.doors, .outputs] (fun t =>
      t.doors.leaves = s.doors.leaves.set n { s.doors.leaves.get n with pressLatch := true })
    ∧ ((s.doors.leaves.get n).pressLatch = true →
      Changes (.exitRequest n) s [.doors, .calls, .route, .lamp, .line, .counters, .outputs] (fun t =>
        (t.doors.leaves.get n).pressLatch = false
          ∧ (s.control.posture = .night → hasCall t (.leaf n) = true)
          ∧ ((s.doors.leaves.get n).pass.isSome = true → (t.doors.leaves.get n).pass = some 0)
          ∧ ((s.doors.leaves.get n).pass = none →
              (s.doors.leaves.get n).state ∈ [LeafState.secured, .securing, .jammed .lock] →
              (t.doors.leaves.get n).pass = some 0)
          ∧ ((s.doors.leaves.get n).pass = none → demandNow s (s.doors.leaves.get n) = true →
              (s.doors.leaves.get n).state ∈ [LeafState.secured, .securing, .jammed .lock] →
              (t.doors.leaves.get n).state =
                if (s.doors.leaves.get n).boltThrown then .releasing else .closed)
          ∧ ((s.doors.leaves.get n).pass = none →
              (s.doors.leaves.get n).state ∉ [LeafState.secured, .securing, .jammed .lock] →
              (t.doors.leaves.get n).pass = none ∧ (t.doors.leaves.get n).state = (s.doors.leaves.get n).state))))
    ∧ ((s.doors.leaves.get n).role = .provisional →
      Changes (.exitRequestEdge n) s [.doors, .outputs] (fun t =>
        t.doors.leaves = s.doors.leaves.set n { s.doors.leaves.get n with pressLatch := true })
      ∧ Changes (.exitRequest n) s [.doors, .line, .outputs] (fun t =>
        t.doors.leaves = s.doors.leaves.set n { s.doors.leaves.get n with pressLatch := false }))
    ∧ ((s.doors.leaves.get n).role = .dropped →
      Changes (.exitRequestEdge n) s [.outputs] (fun _ => True))

/-- BOLT_TIME_EXPIRY, PROP_TIMER_EXPIRY and PASS_EXPIRY: a due bolt time jams the leaf and has its Fault
call, a due prop time makes an Open leaf Propped and has its Intrusion call, and a pass that ends gives
the lock demand back: a Closed leaf, one that is Releasing and one Jammed toward release go to lock where it is true,
and an Open one starts its prop timer; a bolt time that is not due reaches no block but the line port (R86, R88, R91, R93,
R95; log entry 4 for due). -/
def Obligations.LeafTimersExpire : Prop :=
  ∀ (n : Fin 4) (c : LeafConfig) (exitDoor : Bool) (links : List (Fin 8)) (m : Nat) (s : State), s.power = .running →
    (s.doors.leaves.get n).role = .configured c exitDoor links →
    ((s.doors.leaves.get n).bolt = some m → c.boltTime ≤ m →
      (s.doors.leaves.get n).state = .securing ∨ (s.doors.leaves.get n).state = .releasing →
      Changes (.boltTimeExpiry n) s [.doors, .calls, .route, .lamp, .line, .counters, .outputs] (fun t =>
        (t.doors.leaves.get n).state =
            (if (s.doors.leaves.get n).state = .securing then .jammed .lock else .jammed .release)
          ∧ (t.doors.leaves.get n).bolt = none ∧ hasCall t (.leafFault n) = true))
    ∧ ((s.doors.leaves.get n).bolt = some m → m < c.boltTime →
      Changes (.boltTimeExpiry n) s [.line, .outputs] (fun _ => True))
    ∧ ((s.doors.leaves.get n).state = .opened → (s.doors.leaves.get n).prop = some m → propTime s ≤ m →
      Changes (.propTimerExpiry n) s [.doors, .calls, .route, .lamp, .line, .counters, .outputs] (fun t =>
        (t.doors.leaves.get n).state = .propped ∧ (t.doors.leaves.get n).prop = none
          ∧ hasCall t (.leaf n) = true))
    ∧ ((s.doors.leaves.get n).pass = some m → 8 ≤ m →
      Changes (.passExpiry n) s [.doors, .calls, .route, .lamp, .line, .counters, .outputs] (fun t =>
        (t.doors.leaves.get n).pass = none
          ∧ ((s.doors.leaves.get n).state ∈ [LeafState.closed, .releasing, .jammed .release] →
              (t.doors.leaves.get n).state =
                if demandNow s { s.doors.leaves.get n with pass := none } then
                  if (s.doors.leaves.get n).boltThrown then .secured else .securing
                else (s.doors.leaves.get n).state)
          ∧ ((s.doors.leaves.get n).state ∈ [LeafState.opened, .forced, .propped] →
              (t.doors.leaves.get n).state = (s.doors.leaves.get n).state)
          ∧ ((s.doors.leaves.get n).state = .opened → (s.doors.leaves.get n).prop = none →
              (t.doors.leaves.get n).prop =
                if demandNow s { s.doors.leaves.get n with pass := none } = true
                    ∧ ¬(c.fire = true ∧ (s.doors.leaves.get n).magnet = true) then some 0
                else none)))

/-! ## Calls (chapter 6) -/

/-- CALL_INPUT_CHANGE: the level is recorded; an activation latches a press at a Help or Fire point and,
before the load, at any input; a Motion input that becomes active in Night has its call (R107, R108,
R110). -/
def Obligations.InputLevelIsTaken : Prop :=
  ∀ (i : Fin 6) (s : State), s.power = .running →
    ((s.calls.inputs.get i).active = true →
      Changes (.callInputChange i false) s [.calls, .line, .outputs] (fun t =>
        t.calls = { s.calls with inputs := s.calls.inputs.set i { s.calls.inputs.get i with active := false } }))
    ∧ ((s.calls.inputs.get i).active = false →
      (loadComplete s = false ∨ inputKind s i = .helpPoint ∨ inputKind s i = .firePoint) →
      Changes (.callInputChange i true) s [.calls, .line, .outputs] (fun t =>
        t.calls = { s.calls with inputs := s.calls.inputs.set i ⟨true, true⟩ }))
    ∧ ((s.calls.inputs.get i).active = false → loadComplete s = true → inputKind s i = .motion →
      Changes (.callInputChange i true) s [.calls, .line, .counters, .outputs] (fun t =>
        t.calls.inputs = s.calls.inputs.set i { s.calls.inputs.get i with active := true }
          ∧ (s.control.posture = .night → hasCall t (.input i) = true)
          ∧ (s.control.posture ≠ .night → t.calls.slots = s.calls.slots ∧ t.calls.pending = s.calls.pending)))

/-- HELP_POINT_PRESS: a latched press of a source without a call is raised into the lowest Free slot with
the next sequence number, its notice queued and its repeat timer started, a full queue losing its latest
refusable entry that is not in flight; a source that has a call gets no other (R106, R108, R112, R116, R117,
R163, R164; log entry 15 for the notice's value B of 1, R166). -/
def Obligations.HelpPressRaisesOneCall : Prop :=
  ∀ (k : Fin 6) (i : Fin 8) (s : State), s.power = .running →
    (s.calls.inputs.get k).pressed = true → inputKind s k = .helpPoint →
    (hasCall s (.input k) = false → freeSlot s = some i → HasRoom s →
      Changes (.helpPointPress k) s [.calls, .line, .outputs] (fun t =>
        t.calls =
            { s.calls with
              inputs := s.calls.inputs.set k { s.calls.inputs.get k with pressed := false }
              slots := s.calls.slots.set i
                { seq := (s.calls.slots.get i).seq + 1, state := .raised, kind := some .help
                  source := some (.input k), age := 0, repeatTimer := some 0, notices := 1 } }
          ∧ Waits t (fun f =>
              f = .notice 1
                { slot := i, seq := (s.calls.slots.get i).seq + 1, kind := some .help, state := .raised
                  taker := 0, source := some (.input k), age := 0 })))
    ∧ (hasCall s (.input k) = false → freeSlot s = some i → ¬HasRoom s →
      ¬Waits s (fun f => f.isNoticeOf i = true) →
      (∃ e ∈ s.line.queue, e.frame.refusable = true ∧ e.inFlight = false) →
      Changes (.helpPointPress k) s [.calls, .line, .counters, .outputs] (fun t =>
        t.calls =
            { s.calls with
              inputs := s.calls.inputs.set k { s.calls.inputs.get k with pressed := false }
              slots := s.calls.slots.set i
                { seq := (s.calls.slots.get i).seq + 1, state := .raised, kind := some .help
                  source := some (.input k), age := 0, repeatTimer := some 0, notices := 1 } }
          ∧ t.counters = { s.counters with refusedFrames := satInc s.counters.refusedFrames }
          ∧ (∀ e ∈ t.line.queue, e.frame.isNoticeOf i = true ∨ ∃ old ∈ s.line.queue, old.frame = e.frame)
          ∧ (∃ victim ∈ s.line.queue, victim.frame.refusable = true ∧ victim.inFlight = false
              ∧ (∀ e ∈ s.line.queue, e.frame.refusable = true → e.inFlight = false → e.place ≤ victim.place)
              ∧ ∀ e ∈ t.line.queue, e.place ≠ victim.place ∨ e.place = s.line.placed)
          ∧ Waits t (fun f =>
              f = .notice 1
                { slot := i, seq := (s.calls.slots.get i).seq + 1, kind := some .help, state := .raised
                  taker := 0, source := some (.input k), age := 0 })))
    ∧ (hasCall s (.input k) = false → freeSlot s = none → (∀ i : Fin 8, (s.calls.slots.get i).kind ≠ none) →
      Changes (.helpPointPress k) s [.calls, .line, .outputs] (fun t =>
        t.calls =
          { s.calls with
            inputs := s.calls.inputs.set k { s.calls.inputs.get k with pressed := false }
            pending := s.calls.pending ++ [.input k] }))
    ∧ (hasCall s (.input k) = true →
      Changes (.helpPointPress k) s [.calls, .line, .outputs] (fun t =>
        t.calls =
          { s.calls with inputs := s.calls.inputs.set k { s.calls.inputs.get k with pressed := false } }))

/-- A new call that finds no Free slot: it takes the slot of the oldest Taken call of lower rank, the lower
slot between equal ages, and an evicted Motion source that is asserted waits; with nothing to evict, the
source waits (R113, R114). A request of a source that has a call does nothing, and a call goes into the lowest Free
slot (R106, R112). Pending sources are served one after another, the one of highest rank and then the earliest first
(R114). Each asserted Motion source that has no call requests (R110; log entry 46 for the order of several). -/
def Obligations.FullSlotsEvictOrWait : Prop :=
  (∀ (src : Source) (s : State), freeSlot s = none →
    (∀ (i : Fin 8) (taker : Station), (s.calls.slots.get i).state = .taken taker →
      kindCode (s.calls.slots.get i).kind < (kindOf s src).rank →
      (∀ j, outranked (kindOf s src).rank (s.calls.slots.get j) = true →
        (s.calls.slots.get j).age < (s.calls.slots.get i).age
          ∨ ((s.calls.slots.get j).age = (s.calls.slots.get i).age ∧ i ≤ j)) →
      (raiseCall src s).calls.slots =
          s.calls.slots.set i
            { seq := (s.calls.slots.get i).seq + 1, state := .raised, kind := some (kindOf s src)
              source := some src, age := 0, repeatTimer := some 0, notices := 1 }
        ∧ ((∀ k, (s.calls.slots.get i).source ≠ some (.input k)) →
            (raiseCall src s).calls.pending = s.calls.pending)
        ∧ ∀ k, (s.calls.slots.get i).source = some (.input k) → .input k ∉ s.calls.pending →
            (raiseCall src s).calls.pending =
              if asserted s k then s.calls.pending ++ [.input k] else s.calls.pending)
    ∧ ((∀ j, outranked (kindOf s src).rank (s.calls.slots.get j) = false) → src ∉ s.calls.pending →
      raiseCall src s = s.setCalls { s.calls with pending := s.calls.pending ++ [src] }))
  ∧ (∀ (src : Source) (s : State),
      (hasCall s src = true → requestCall src s = s) ∧ (hasCall s src = false → requestCall src s = raiseCall src s)
        ∧ ∀ i : Fin 8, (s.calls.slots.get i).state = .free → (∀ j, j < i → (s.calls.slots.get j).state ≠ .free) →
            (raiseCall src s).calls =
              { s.calls with
                slots := s.calls.slots.set i
                  { seq := (s.calls.slots.get i).seq + 1, state := .raised, kind := some (kindOf s src)
                    source := some src, age := 0, repeatTimer := some 0, notices := 1 } })
  ∧ (∀ (n : Nat) (s : State), s.calls.pending = [] ∨ (∀ i : Fin 8, (s.calls.slots.get i).state ≠ .free) →
      servePending n s = s)
  ∧ (∀ (n : Nat) (i : Fin 8) (src : Source) (before after : List Source) (s : State),
      (s.calls.slots.get i).state = .free → s.calls.pending = before ++ src :: after →
      src ∉ before → src ∉ after → (∀ x ∈ before, (kindOf s x).rank < (kindOf s src).rank) →
      (∀ x ∈ after, (kindOf s x).rank ≤ (kindOf s src).rank) →
      servePending (n + 1) s =
        servePending n (raiseCall src (s.setCalls { s.calls with pending := before ++ after })))
  ∧ ∀ s : State,
      ((∀ k : Fin 6, asserted s k = true → hasCall s (.input k) = true) → requestMotion s = s)
        ∧ (∀ k : Fin 6, asserted s k = true → hasCall (requestMotion s) (.input k) = true)
        ∧ ∀ k : Fin 6, asserted s k = true →
            (∀ j : Fin 6, j ≠ k → asserted s j = true → hasCall s (.input j) = true) →
            requestMotion s = requestCall (.input k) s

/-- FIRE_POINT_PRESS: the manual Fire latch is set and the zone hazard is Fire; the station is in Evacuate
with its own number in its fire set, the source has a call, and a zone that becomes Fire makes the Alert request,
which is driven at once (R19, R20, R32, R33, R106, R108, R171; log entry 47 for an Alert beside the own Hush). -/
def Obligations.FirePressSetsTheLatch : Prop :=
  ∀ (k : Fin 6) (s : State), s.power = .running → FireInEvacuate s →
    (s.calls.inputs.get k).pressed = true → inputKind s k = .firePoint →
    Changes (.firePointPress k) s
      [.hazard, .control, .route, .doors, .calls, .lamp, .line, .counters, .outputs] (fun t =>
      t.hazard.manualFire = true ∧ t.hazard.zone = .fire ∧ t.hazard.heads = s.hazard.heads
        ∧ t.control.posture = .evacuate ∧ t.loader.station ∈ t.control.fireSet
        ∧ (t.calls.inputs.get k).pressed = false ∧ hasCall t (.input k) = true
        ∧ (s.hazard.zone ≠ .fire → AlertRequested s t))

/-- REPEAT_TIMER_EXPIRY: a due timer of an open call queues its notice with the present content and
restarts; the interval is 5 s in Raised and 30 s in Taken (R116, R117; log entry 4 for due, 15 for the
notice's count, R166). -/
def Obligations.RepeatAnnouncesTheCall : Prop :=
  ∀ (i : Fin 8) (n : Nat) (s : State), s.power = .running →
    HasRoom s ∨ Waits s (fun f => f.isNoticeOf i = true) →
    (s.calls.slots.get i).isOpen = true → (s.calls.slots.get i).repeatTimer = some n →
    ((if (s.calls.slots.get i).state = .raised then 5 else 30) ≤ n →
      Changes (.repeatTimerExpiry i) s [.calls, .line, .outputs] (fun t =>
        t.calls =
            { s.calls with
              slots := s.calls.slots.set i
                { s.calls.slots.get i with
                  repeatTimer := some 0, notices := (s.calls.slots.get i).notices + 1 } }
          ∧ Waits t (fun f =>
              f = .notice ((s.calls.slots.get i).notices + 1) (openNotice i (s.calls.slots.get i)))))
    ∧ (n < (if (s.calls.slots.get i).state = .raised then 5 else 30) →
      Changes (.repeatTimerExpiry i) s [.line, .outputs] (fun _ => True))

/-- GALLERY_RESET: turning on closes every open call that is not Fire and leaves the Fire calls; the pending flags of
the other kinds are dropped, the pending Fire sources are served, and the asserted Motion sources request anew; turning
off does nothing more (R110, R114, R115, R122; log entry 24 for the level, 46 for the order of several Motion
sources). -/
def Obligations.GalleryKeyClosesAllButFire : Prop :=
  ∀ s : State, s.power = .running →
    (s.calls.grsOn = false → s.calls.pending = [] → (∀ k : Fin 6, asserted s k = false) →
      Changes (.galleryReset true) s [.calls, .line, .counters, .outputs] (fun t =>
        t.calls.grsOn = true ∧ t.calls.pending = [] ∧ t.calls.inputs = s.calls.inputs
          ∧ ∀ i : Fin 8, t.calls.slots.get i =
              if (s.calls.slots.get i).isOpen = true ∧ (s.calls.slots.get i).kind ≠ some .fire then
                { s.calls.slots.get i with state := .free, age := 0, repeatTimer := none }
              else s.calls.slots.get i))
    ∧ (s.calls.grsOn = false →
      Changes (.galleryReset true) s [.calls, .line, .counters, .outputs] (fun t =>
        t.calls =
          (requestMotion
            (servePending 8
              (s.setCalls
                { s.calls with
                  grsOn := true, pending := s.calls.pending.filter (fun src => kindOf s src == .fire)
                  slots := s.calls.slots.map (fun sl =>
                    if sl.isOpen && sl.kind != some .fire then { sl with state := .free, age := 0, repeatTimer := none }
                    else sl) }))).calls))
    ∧ (s.calls.grsOn = true →
      Changes (.galleryReset false) s [.calls, .line, .outputs] (fun t =>
        t.calls = { s.calls with grsOn := false }))

/-- CALL_TAKE addressed here: a Raised call with the named sequence number is Taken by the sender, a Taken
one keeps its taker, another identity changes no slot; a frame for another station, from source 0 or for
a slot above 7 is disregarded (R118, R119, R120, R162). -/
def Obligations.TakeIsJudged : Prop :=
  ∀ (wire : List Byte) (corrected : Bool) (source : Station) (target : Byte) (slot seq : Fin 16) (s : State),
    Hears wire corrected source (.take target slot seq) s →
    (addressedHere target s = true → source ≠ 0 → ∀ i : Fin 8, slot = wideSlot i →
      Changes (.callTake wire) s [.calls, .line, .counters, .outputs] (fun t =>
        t.calls =
          if (s.calls.slots.get i).isOpen = true ∧ (s.calls.slots.get i).seq = seq then
            { s.calls with
              slots := s.calls.slots.set i
                { s.calls.slots.get i with
                  state :=
                    if (s.calls.slots.get i).state = .raised then .taken source else (s.calls.slots.get i).state
                  repeatTimer := some 0
                  notices := (s.calls.slots.get i).notices + 1 } }
          else s.calls))
    ∧ (addressedHere target s = false ∨ source = 0 ∨ 8 ≤ slot.val →
      Changes (.callTake wire) s [.line, .counters, .outputs] (fun t =>
        t.counters = headerCounted corrected s.counters ∧ t.line.queue = s.line.queue))

/-- CALL_CANCEL addressed here: accepted from anyone for a Raised call and from the taker for a Taken one, but never
for a Fire call while the zone is in Fire; an accepted one frees the slot and queues its Cleared notice, after which
the pending sources and the asserted Motion sources are served; a refused one leaves it and announces it, another
identity changes no slot and a closed one is answered with a Cleared notice; a frame for another station, from source
0 or for a slot above 7 is disregarded (R110, R114, R115, R118, R120, R121, R162; log entry 15 for the counts in the
notices, R166). -/
def Obligations.CancelIsJudged : Prop :=
  ∀ (wire : List Byte) (corrected : Bool) (source : Station) (target : Byte) (slot seq : Fin 16) (i : Fin 8)
    (s : State),
    Hears wire corrected source (.cancel target slot seq) s →
    (addressedHere target s = false ∨ source = 0 ∨ 8 ≤ slot.val →
      Changes (.callCancel wire) s [.line, .counters, .outputs] (fun t =>
        t.counters = headerCounted corrected s.counters ∧ t.line.queue = s.line.queue))
    ∧ (addressedHere target s = true → source ≠ 0 → slot = wideSlot i →
    (s.calls.pending = [] → (∀ k : Fin 6, asserted s k = false) → (s.calls.slots.get i).seq = seq →
      ¬((s.calls.slots.get i).kind = some .fire ∧ s.hazard.zone = .fire) →
      (s.calls.slots.get i).state = .raised ∨ (s.calls.slots.get i).state = .taken source →
      Changes (.callCancel wire) s [.calls, .line, .counters, .outputs] (fun t =>
        t.calls =
          { s.calls with
            slots := s.calls.slots.set i
              { s.calls.slots.get i with state := .free, age := 0, repeatTimer := none } }
          ∧ (HasRoom s ∨ Waits s (fun f => f.isNoticeOf i = true) →
              Waits t (fun f =>
                f = .notice ((s.calls.slots.get i).notices + 1) (clearedNotice i (s.calls.slots.get i))))))
    ∧ ((s.calls.slots.get i).seq = seq →
      ¬((s.calls.slots.get i).kind = some .fire ∧ s.hazard.zone = .fire) →
      (s.calls.slots.get i).state = .raised ∨ (s.calls.slots.get i).state = .taken source →
      Changes (.callCancel wire) s [.calls, .line, .counters, .outputs] (fun t =>
        t.calls = (callsAfterFreeing i s).calls))
    ∧ ((s.calls.slots.get i).isOpen = true → (s.calls.slots.get i).seq = seq →
      (((s.calls.slots.get i).kind = some .fire ∧ s.hazard.zone = .fire)
        ∨ ∃ other, (s.calls.slots.get i).state = .taken other ∧ other ≠ source) →
      Changes (.callCancel wire) s [.calls, .line, .counters, .outputs] (fun t =>
        t.calls =
          { s.calls with
            slots := s.calls.slots.set i
              { s.calls.slots.get i with
                repeatTimer := some 0, notices := (s.calls.slots.get i).notices + 1 } }
          ∧ (HasRoom s ∨ Waits s (fun f => f.isNoticeOf i = true) →
              Waits t (fun f =>
                f = .notice ((s.calls.slots.get i).notices + 1) (openNotice i (s.calls.slots.get i))))))
    ∧ ((s.calls.slots.get i).isOpen = false ∨ (s.calls.slots.get i).seq ≠ seq →
      Changes (.callCancel wire) s [.line, .counters, .outputs] (fun t =>
        (s.calls.slots.get i).isOpen = false → HasRoom s ∨ Waits s (fun f => f.isNoticeOf i = true) →
          Waits t (fun f => ∃ n, f = .notice 0 n ∧ n.slot = i ∧ n.seq = seq ∧ n.state = .cleared ∧ n.taker = 0
            ∧ n.age = 0))))

/-! ## The post (chapter 7) -/

/-- CALL_NOTICE: without the post role, or from source 0, the board stays; a Cleared notice removes the
entry of its call; a Raised or Taken one updates it in place, replaces the slot's other call, or joins at
the end (R126, R127, R128, R129). What an entry then shows (R127, R128; log entry 48 for the kind of an updated one),
when the Help chime starts (R142), and what becomes of Overflow and of a held selection (R130, R132). -/
def Obligations.NoticeGoesOnTheBoard : Prop :=
  (∀ (own source : Station) (kind : CallKind) (n : Notice) (e : BoardEntry),
    EntriesFollowNotices own source kind n e)
  ∧ ∀ (wire : List Byte) (corrected : Bool) (source : Station) (count : Byte) (n : Notice) (s : State),
    Hears wire corrected source (.notice count n) s →
    (s.post.role = false ∨ source = 0 →
      Changes (.callNotice wire) s [.line, .counters, .outputs] (fun _ => True))
    ∧ (s.post.role = true → source ≠ 0 →
      Changes (.callNotice wire) s [.post, .lamp, .line, .counters, .outputs] (fun t =>
        (n.state = .cleared →
          t.post.board =
              s.post.board.filter (fun e => !(e.station == source && e.slot == n.slot && e.seq == n.seq))
            ∧ t.post.helpChime = s.post.helpChime)
        ∧ (n.state ≠ .cleared → n.kind = none → t.post = s.post)
        ∧ (n.state = .cleared ∨ n.kind ≠ none → PostFollowsBoard s t)
        ∧ (∀ kind, n.state ≠ .cleared → n.kind = some kind →
            (∀ e, s.post.board.find? (·.isFor source n.slot) = some e → e.seq = n.seq →
              t.post.board =
                  s.post.board.map (fun x => if x.isFor source n.slot then x.heard s.loader.station n else x)
                ∧ t.post.helpChime = s.post.helpChime)
            ∧ (∀ e, s.post.board.find? (·.isFor source n.slot) = some e → e.seq ≠ n.seq →
              t.post.board =
                  s.post.board.filter (fun x => !x.isFor source n.slot)
                    ++ [newBoardEntry s.loader.station source kind n]
                ∧ t.post.helpChime = chimeOnJoin kind n s)
            ∧ (s.post.board.find? (·.isFor source n.slot) = none → s.post.board.length < 16 →
              t.post.board = s.post.board ++ [newBoardEntry s.loader.station source kind n]
                ∧ t.post.helpChime = chimeOnJoin kind n s))))

/-- A full board: the oldest entry that is Taken-by-other or of lower rank leaves for the newcomer, or the
newcomer is dropped, Overflow is lit and the counter advances; a Help newcomer in Raised that joins starts the Help
chime, and a held selection whose entry leaves gives way to the default (R130, R132, R142). -/
def Obligations.FullBoardEvictsOrDrops : Prop :=
  ∀ (wire : List Byte) (corrected : Bool) (source : Station) (count : Byte) (n : Notice) (kind : CallKind) (s : State),
    Hears wire corrected source (.notice count n) s → s.post.role = true → source ≠ 0 →
    n.state ≠ .cleared → n.kind = some kind → s.post.board.find? (·.isFor source n.slot) = none →
    s.post.board.length = 16 →
    (∀ old, s.post.board.find? (fun e => e.state == .takenByOther || decide (e.kind.rank < kind.rank)) = some old →
      Changes (.callNotice wire) s [.post, .lamp, .line, .counters, .outputs] (fun t =>
        t.post.board =
            s.post.board.filter (fun x => !x.isFor old.station old.slot)
              ++ [newBoardEntry s.loader.station source kind n]
          ∧ t.post.helpChime = chimeOnJoin kind n s ∧ PostFollowsBoard s t
          ∧ t.counters.overflow = s.counters.overflow))
    ∧ (s.post.board.find? (fun e => e.state == .takenByOther || decide (e.kind.rank < kind.rank)) = none →
      Changes (.callNotice wire) s [.post, .lamp, .line, .counters, .outputs] (fun t =>
        t.post.board = s.post.board ∧ t.post.overflow = true ∧ t.post.helpChime = s.post.helpChime
          ∧ t.post.held = s.post.held ∧ t.counters.overflow = satInc s.counters.overflow))

/-- KEY_DOWN and KEY_UP at a post: a key that goes down alone is Held, one that joins another locks the
panel, and a locked panel does nothing until every key is up; which key stands at which crossing (R135). -/
def Obligations.TwoKeysLockThePanel : Prop :=
  (∀ (x : Crossing) (k : Key) (s : State), keyAt x = k → s.power = .running → s.post.role = true →
    (k ∉ s.post.down →
      Changes (.keyDown x) s [.post, .outputs] (fun t =>
        t.post.panel = (if s.post.panel = .ready then .held k else .locked)
          ∧ (∀ x, x ∈ t.post.down ↔ x = k ∨ x ∈ s.post.down)
          ∧ t.post.board = s.post.board ∧ t.post.held = s.post.held))
    ∧ (k ∈ s.post.down → s.post.panel = .locked →
      Changes (.keyUp x) s [.post, .line, .outputs] (fun t =>
        t.post.down = s.post.down.filter (· != k)
          ∧ t.post.panel = (if s.post.down.filter (· != k) = [] then .ready else .locked)
          ∧ t.post.board = s.post.board ∧ t.post.held = s.post.held)))
    ∧ keyAt ⟨0, 0⟩ = .take ∧ keyAt ⟨0, 1⟩ = .next ∧ keyAt ⟨0, 2⟩ = .cancel
    ∧ keyAt ⟨1, 0⟩ = .hush ∧ keyAt ⟨1, 1⟩ = .day ∧ keyAt ⟨1, 2⟩ = .night
    ∧ keyAt ⟨2, 0⟩ = .restore ∧ keyAt ⟨2, 1⟩ = .test ∧ keyAt ⟨2, 2⟩ = .unused

/-- KEY_UP of the held key: it acts. Take queues a take of a Raised selection and marks it pending, Cancel
queues a cancel and removes a Silent selection, Day, Night and Restore queue an order with authority, Hush
asks for the trigger, which waits for the next Idle, Test starts the lamp test, Next holds the next entry, and
what may not act blinks; so does what an unstrapped post or a full queue refuses (R132, R136 to R141, R164; log
entry 11 for the Hush, 51 for Next on an empty board). -/
def Obligations.HeldKeyActs : Prop :=
  ∀ (x : Crossing) (k : Key) (s : State), keyAt x = k → s.power = .running → s.post.role = true → s.post.panel = .held k →
    k ∈ s.post.down →
    (strapped s = true → HasRoom s →
    Changes (.keyUp x) s [.post, .lamp, .line, .outputs] (fun t =>
      t.post.panel = .ready
        ∧ (∀ e, selected s.post = some e → e.state = .raised → k = .take →
            Waits t (fun f => f = .take (byteOf e.station.val) (wideSlot e.slot) e.seq)
              ∧ t.post.board =
                s.post.board.map (fun x => if x.isFor e.station e.slot then { x with takePending := true } else x)
              ∧ t.post.blink = none)
        ∧ (∀ e, selected s.post = some e → e.state ≠ .raised → k = .take → t.post.blink = some ⟨0, true⟩)
        ∧ (∀ e, selected s.post = some e → k = .cancel →
            Waits t (fun f => f = .cancel (byteOf e.station.val) (wideSlot e.slot) e.seq)
              ∧ t.post.board =
                (if e.silentMark then s.post.board.filter (fun x => !x.isFor e.station e.slot) else s.post.board)
              ∧ (e.silentMark = true → t.post.board.length < 16 → t.post.overflow = false)
              ∧ (e.silentMark = true → s.post.held = some (e.station, e.slot) →
                  t.post.held = none ∧ t.post.returnTimer = none))
        ∧ (selected s.post = none → k = .take ∨ k = .cancel → t.post.blink = some ⟨0, true⟩)
        ∧ (∀ o, (k = .day ∧ o = .day) ∨ (k = .night ∧ o = .night) ∨ (k = .restore ∧ o = .restore) →
            if s.post.authOn then Waits t (fun f => f = .order o) ∧ t.post.blink = none
            else t.post.blink = some ⟨0, true⟩)
        ∧ (k = .hush →
            if s.post.authOn then
              t.line.hushPending = true ∧ (t.line.driving = some .hush → s.line.driving = some .hush)
            else t.post.blink = some ⟨0, true⟩)
        ∧ (k = .test → t.lamp.test = some 0 ∧ t.lamp.sound = .steady)
        ∧ (k = .next → t.post.returnTimer = some 0
            ∧ t.post.held =
              ((selected s.post).bind (entryAfter s.post.board)).map (fun e => (e.station, e.slot)))
        ∧ (k = .unused → t.post.board = s.post.board ∧ t.post.blink = none)))
    ∧ (strapped s = false → k ∈ [Key.take, .cancel, .hush, .day, .night, .restore] →
      Changes (.keyUp x) s [.post, .lamp, .line, .outputs] (fun t =>
        t.post.panel = .ready ∧ t.post.blink = some ⟨0, true⟩ ∧ t.line.queue = s.line.queue
          ∧ t.line.hushPending = s.line.hushPending))
    ∧ (strapped s = true → ¬HasRoom s →
      (k = .take ∧ (selected s.post).any (·.state == .raised) = true)
        ∨ (k = .cancel ∧ (selected s.post).isSome = true)
        ∨ (s.post.authOn = true ∧ k ∈ [Key.day, .night, .restore]) →
      Changes (.keyUp x) s [.post, .lamp, .line, .counters, .outputs] (fun t =>
        t.post.panel = .ready ∧ t.post.blink = some ⟨0, true⟩
          ∧ t.line.queue.map (·.frame) = s.line.queue.map (·.frame)
          ∧ t.counters.refusedFrames = satInc s.counters.refusedFrames))

/-- AUTH_CHANGE, RETURN_TIMER_EXPIRY, SILENT, REFUSAL_BLINK_PHASE, REFUSAL_BLINK_END and HELP_CHIME_END
(R131, R132, R133, R136, R142; log entry 4 for due); and what the display positions and the indicators of a post
show, which is dark where the station is no post (R126, R133, R134, R141; log entry 27 for the points during a
refusal blink). What the display order, the selection and the entry after it are (R132). -/
def Obligations.PostTimersExpire : Prop :=
  (∀ (on : Bool) (n : Nat) (station : Station) (slot : Fin 8) (s : State), s.power = .running →
    Changes (.authChange on) s [.post, .outputs] (fun t => t.post = { s.post with authOn := on })
    ∧ (s.post.returnTimer = some n → 20 ≤ n →
      Changes .returnTimerExpiry s [.post, .outputs] (fun t =>
        t.post = { s.post with held := none, returnTimer := none }))
    ∧ Changes (.silent station slot) s [.post, .outputs] (fun t =>
        t.post =
          { s.post with
            board := s.post.board.map (fun e =>
              if e.station = station ∧ e.slot = slot ∧ 90 ≤ e.lastHeard then { e with silentMark := true } else e) })
    ∧ (∀ b, s.post.blink = some b →
      Changes .refusalBlinkPhase s [.post, .outputs] (fun t =>
        t.post = { s.post with blink := some { b with lit := !b.lit } })
      ∧ (2 ≤ b.elapsed →
        Changes .refusalBlinkEnd s [.post, .outputs] (fun t => t.post = { s.post with blink := none })))
    ∧ (s.post.helpChime = some n → 2 ≤ n →
      Changes .helpChimeEnd s [.post, .lamp, .outputs] (fun t =>
        t.post = { s.post with helpChime := none } ∧ t.lamp.sound = soundOf t)))
    ∧ (∀ (board : List BoardEntry) (p : Post), DisplayIsR132 board ∧ NextIsR132 board ∧ SelectionIsR132 p)
    ∧ ∀ s : State, s.power = .running → PinsAgree s →
      (s.post.role = false →
        s.outputs.display = Four.fill ⟨.dark, false⟩ ∧ s.outputs.indicators = Six.fill false)
      ∧ (s.post.role = true → s.lamp.test.isSome = true →
        s.outputs.display = Four.fill ⟨.every, true⟩ ∧ s.outputs.indicators = Six.fill true)
      ∧ (s.post.role = true → s.lamp.test = none →
        (∀ b, s.post.blink = some b →
          s.outputs.display = Four.fill ⟨if b.lit then .dash else .dark, false⟩)
        ∧ (s.post.blink = none → s.post.board = [] → s.outputs.display = Four.fill ⟨.dash, false⟩)
        ∧ (s.post.blink = none → ∀ e, selected s.post = some e →
          s.outputs.display =
            ⟨⟨if e.station.val < 10 then .dark else .digit (e.station.val / 10), e.state == .takenByMe⟩,
             ⟨.digit (e.station.val % 10), e.state == .takenByOther⟩,
             ⟨.letter e.kind, e.takePending⟩,
             ⟨.digit (min 9 ((s.post.board.filter (·.state == .raised)).length)), e.silentMark⟩⟩)
        ∧ (∀ (i : Fin 6) (kind : CallKind), (i.val, kind) ∈ [(0, .fire), (1, .intrusion), (2, .fault), (3, .help)] →
          (s.outputs.indicators.get i = true ↔ ∃ e ∈ s.post.board, e.kind = kind ∧ e.state = .raised))
        ∧ s.outputs.indicators.get 4 = s.post.overflow
        ∧ (s.outputs.indicators.get 5 = true ↔ s.control.posture = .evacuate))

/-! ## Lamp and sounder (chapter 8) -/

/-- DRIVE_PERIOD, CHASE_STEP_EXPIRY, FLASH_PHASE_EXPIRY, SOUNDER_CADENCE_EXPIRY and LAMP_TEST_END (R144,
R145, R149, R150, R151, R156, R157; log entry 4 for due, 19 for `turns`). -/
def Obligations.LampTimersExpire : Prop :=
  ∀ (n : Nat) (s : State), s.power = .running →
    Changes .drivePeriod s [.lamp, .outputs] (fun t =>
      t.lamp.driveSign =
          some (if s.lamp.test.isSome then ⟨8, 100⟩ else ⟨s.lamp.aspect.code, s.lamp.brightness⟩)
        ∧ (s.lamp.test.isSome = true → t.lamp.driveA = some ⟨5, 100⟩ ∧ t.lamp.driveB = some ⟨5, 100⟩)
        ∧ (s.lamp.test = none → s.lamp.pattern = .steady →
            t.lamp.driveA = some ⟨5, s.lamp.brightness⟩ ∧ t.lamp.driveB = some ⟨5, s.lamp.brightness⟩)
        ∧ (s.lamp.test = none → s.lamp.pattern = .flash → s.lamp.flashOn = false →
            t.lamp.driveA = none ∧ t.lamp.driveB = none)
        ∧ (s.lamp.test = none → s.lamp.pattern = .chase →
            if s.lamp.position.val % 2 = 0 then
              t.lamp.driveA = some ⟨s.lamp.position.val / 2 + 1, s.lamp.brightness⟩ ∧ t.lamp.driveB = none
            else
              t.lamp.driveA = none ∧ t.lamp.driveB = some ⟨s.lamp.position.val / 2 + 1, s.lamp.brightness⟩))
    ∧ (s.lamp.pattern = .chase →
      Changes .chaseStepExpiry s [.lamp, .outputs] (fun t =>
        t.lamp =
          { s.lamp with
            position := if s.lamp.direction = .forward then s.lamp.position + 1 else s.lamp.position - 1
            turns := if s.lamp.test = none then stripShow s.lamp :: s.lamp.turns else s.lamp.turns }))
    ∧ (s.lamp.pattern = .flash →
      Changes .flashPhaseExpiry s [.lamp, .outputs] (fun t =>
        t.lamp =
          { s.lamp with
            flashOn := !s.lamp.flashOn
            turns := if s.lamp.test = none then stripShow s.lamp :: s.lamp.turns else s.lamp.turns }))
    ∧ (s.lamp.sound = .tone ∨ s.lamp.sound = .continuousChime ∨ s.lamp.sound = .helpChime →
      Changes .sounderCadenceExpiry s [.lamp, .outputs] (fun t =>
        t.lamp = { s.lamp with soundOn := !s.lamp.soundOn } ∧ t.outputs.sounder = !s.lamp.soundOn))
    ∧ (s.lamp.test = some n → 3 ≤ n →
      Changes .lampTestEnd s [.lamp, .outputs] (fun t => t.lamp.test = none ∧ t.lamp.sound = soundOf t))

/-! ## Survey and ages (chapter 11, R50) -/

/-- The eight survey rows: a request addressed here with room in the queue has its answer, built after the
header was counted, waiting with the request's value B; a full queue refuses it; a request for another
station is disregarded (R57, R78, R104, R124, R162, R164, R186). -/
def Obligations.SurveyRequestIsAnswered : Prop :=
  ∀ (wire : List Byte) (corrected : Bool) (source : Station) (target : Byte) (area index : Fin 16) (s : State),
    Hears wire corrected source (.request target area index) s →
    (addressedHere target s = true → HasRoom s →
      Changes (surveyRow area wire) s [.line, .counters, .freeUsed, .outputs] (fun t =>
        t.counters = headerCounted corrected s.counters
          ∧ Waits t (fun f => f = .answer (nibbles area index)
              (surveyAnswerOf area index (s.setCounters (headerCounted corrected s.counters))))))
    ∧ (addressedHere target s = true → ¬HasRoom s →
      Changes (surveyRow area wire) s [.line, .counters, .freeUsed, .outputs] (fun t =>
        t.line.queue = s.line.queue ∧ t.counters.refusedFrames = satInc s.counters.refusedFrames))
    ∧ (addressedHere target s = false →
      Changes (surveyRow area wire) s [.line, .counters, .outputs] (fun t => t.line.queue = s.line.queue))

/-- The answer to each section byte by byte, and which items have none (R57, R78, R104, R124, R186, R187; log
entry 33 for the role byte before the load). The baseline bytes of an unseeded head are open (log entry 22); what
the raw reading is after the load turned a Smoke head into Heat is log entry 44. -/
def Obligations.SurveyAnswersHaveTheirLayout : Prop :=
  ∀ (area index : Fin 16) (s : State),
    (surveyAnswerOf 0 index s =
        [byteOf s.loader.station.val, byteOf s.post.role.toNat, byteOf s.loader.result.code,
         byteOf s.loader.cause.code, byteOf s.control.posture.code, byteOf s.control.base.code,
         byteOf (numberOf
          [s.line.fault, s.front.fault, s.loader.profileFault, s.peers.duplicate, s.hazard.blind])])
    ∧ (surveyAnswerOf 1 index s =
        [s.counters.invalidScan, s.counters.duplicate, s.counters.overflow, s.counters.correctedHeader,
         s.counters.discardedHeader, s.counters.discardedFrame, s.counters.refusedFrames,
         s.counters.arbitrationLost, s.counters.bitError, s.counters.abortedByBreak, s.counters.stuckLine].flatMap
          (fun n => [byteOf (n / 256), byteOf n]))
    ∧ (surveyAnswerOf 2 index s).length = (if index.val < s.peers.entries.length then 14 else 0)
    ∧ (∀ e, s.peers.entries[index.val]? = some e →
        surveyAnswerOf 2 index s =
          [byteOf e.fixed.neighbour.val, byteOf e.fixed.weight,
           byteOf (e.fixed.aspect.code * 16
            + (if e.fixed.strip = some .forward then 1 else if e.fixed.strip = some .backward then 2 else 0)),
           byteOf e.fixed.door.code, byteOf e.status.code,
           byteOf (e.age.getD 65535 / 256), byteOf (e.age.getD 65535)] ++
          match e.heard with
          | some h =>
            [byteOf h.hazard.code, byteOf h.blind.toNat, byteOf h.posture.code, byteOf h.cost, byteOf h.hops,
             byteOf h.nextHop.code, doorSummary h.doors]
          | none => List.replicate 7 0)
    ∧ (surveyAnswerOf 3 index s).length = (if index.val < 8 then 9 else 0)
    ∧ (∀ i : Fin 8, index.val = i.val →
        surveyAnswerOf 3 index s =
          [byteOf (match (s.calls.slots.get i).state with | .free => 0 | .raised => 1 | .taken _ => 2),
           byteOf (s.calls.slots.get i).seq.val, byteOf (kindCode (s.calls.slots.get i).kind),
           byteOf (sourceCode (s.calls.slots.get i).source),
           byteOf (match (s.calls.slots.get i).state with | .taken taker => taker.val | _ => 0),
           byteOf ((s.calls.slots.get i).age / 256), byteOf (s.calls.slots.get i).age,
           byteOf (match (s.calls.slots.get i).repeatTimer, (s.calls.slots.get i).state with
            | none, _ => 0
            | some n, .taken _ => 30 - n
            | some n, _ => 5 - n),
           byteOf s.calls.pending.length])
    ∧ (∀ n : Fin 4, index.val = n.val →
        (surveyAnswerOf 4 index s).length =
          match (s.doors.leaves.get n).role with
          | .configured _ _ _ => 10
          | _ => 0)
    ∧ (∀ (n : Fin 4) (c : LeafConfig) (exitDoor : Bool) (links : List (Fin 8)), index.val = n.val →
        (s.doors.leaves.get n).role = .configured c exitDoor links →
        surveyAnswerOf 4 index s =
          [byteOf (numberOf [true, c.secure, c.escape, c.fire, c.failSecure, exitDoor, false, false]),
           byteOf c.boltTime, byteOf (s.doors.leaves.get n).state.code,
           byteOf (if (s.doors.leaves.get n).state = .jammed .lock then 1
            else if (s.doors.leaves.get n).state = .jammed .release then 2 else 0),
           byteOf (numberOf [(s.doors.leaves.get n).doorClosed, (s.doors.leaves.get n).boltThrown]),
           byteOf (numberOf
            [(s.doors.leaves.get n).pass.isSome, (s.doors.leaves.get n).state.atLock,
             (s.doors.leaves.get n).magnet]),
           byteOf (match (s.doors.leaves.get n).pass with | some m => 8 - m | none => 0),
           byteOf (min ((s.doors.leaves.get n).prop.getD 0) 255),
           byteOf (s.doors.leaves.get n).state.doorClass.code, byteOf links.length])
    ∧ (∀ k : Fin 4, index.val = k.val →
        (surveyAnswerOf 5 index s).length = if (s.hazard.heads.get k).isSome then 11 else 0)
    ∧ (∀ (k : Fin 4) (h : Head), index.val = k.val → s.hazard.heads.get k = some h →
        ∃ b1 b0 : Byte,
          surveyAnswerOf 5 index s =
            [byteOf h.kind.code, byteOf h.level.code, byteOf h.confirm,
             byteOf (numberOf
              [h.refused, h.fault, h.dirty, h.fault || s.front.fault, h.baseline.isSome, h.fireWorthy]),
             b1, b0,
             byteOf ((s.front.lastRaw.heads.get k).first.toNat / 256),
             byteOf (s.front.lastRaw.heads.get k).first.toNat,
             (if h.kind = .smoke then byteOf ((s.front.lastRaw.heads.get k).second.toNat / 256) else 0),
             (if h.kind = .smoke then byteOf (s.front.lastRaw.heads.get k).second.toNat else 0),
             byteOf h.window.length]
            ∧ ∀ b, h.baseline = some b → b1 = byteOf (b / 256) ∧ b0 = byteOf b)
    ∧ (4 ≤ index.val → surveyAnswerOf 4 index s = [] ∧ surveyAnswerOf 5 index s = [])
    ∧ (surveyAnswerOf 6 index s =
        [byteOf s.route.cost, byteOf s.route.hops, byteOf s.route.next.code,
         byteOf (advertisedCost s.hazard.zone s.route), byteOf (advertisedHop s).code, byteOf (advertisedHops s),
         byteOf s.route.viaExit.cost] ++ allEight.map (fun j => byteOf (s.route.viaEntry.get j).cost))
    ∧ (7 ≤ area.val → surveyAnswerOf area index s = [])

/-- AGE_ADVANCE: every heard entry, every open slot and every board entry is one second older, and every timer
of whole seconds that runs has run one second more, up to 65,535; a stopped timer stays stopped, and nothing
else of these blocks changes (R50, R111, R131; log entry 4). -/
def Obligations.SecondAgesEverything : Prop :=
  ∀ s : State, s.power = .running →
    Changes .ageAdvance s [.control, .peers, .doors, .calls, .post, .lamp, .line, .outputs] (fun t =>
      t.peers.entries = s.peers.entries.map (fun e => { e with age := e.age.map satInc })
        ∧ (∀ i : Fin 8, (t.calls.slots.get i).age =
              (if (s.calls.slots.get i).isOpen then satInc (s.calls.slots.get i).age
              else (s.calls.slots.get i).age)
            ∧ (t.calls.slots.get i).state = (s.calls.slots.get i).state)
        ∧ t.post.board = s.post.board.map (fun e => { e with lastHeard := satInc e.lastHeard })
        ∧ t.line.queue = s.line.queue ∧ t.control.posture = s.control.posture
        ∧ (∀ n : Fin 4, (t.doors.leaves.get n).state = (s.doors.leaves.get n).state)
        ∧ t.control = { s.control with joinTimer := s.control.joinTimer.map satInc }
        ∧ t.peers.duplicate = s.peers.duplicate
        ∧ t.peers.duplicateTimer = s.peers.duplicateTimer.map satInc
        ∧ (∀ i : Fin 8, (s.calls.slots.get i).isOpen = true →
            t.calls.slots.get i =
              { s.calls.slots.get i with
                age := satInc (s.calls.slots.get i).age
                repeatTimer := (s.calls.slots.get i).repeatTimer.map satInc })
        ∧ (∀ i : Fin 8, (s.calls.slots.get i).isOpen = false → t.calls.slots.get i = s.calls.slots.get i)
        ∧ t.calls.pending = s.calls.pending ∧ t.calls.inputs = s.calls.inputs
        ∧ (∀ n : Fin 4, t.doors.leaves.get n =
            { s.doors.leaves.get n with
              pass := (s.doors.leaves.get n).pass.map satInc, prop := (s.doors.leaves.get n).prop.map satInc
              bolt := (s.doors.leaves.get n).bolt.map satInc })
        ∧ t.post =
            { s.post with
              board := s.post.board.map (fun e => { e with lastHeard := satInc e.lastHeard })
              returnTimer := s.post.returnTimer.map satInc
              blink := s.post.blink.map (fun b => { b with elapsed := satInc b.elapsed })
              helpChime := s.post.helpChime.map satInc }
        ∧ t.lamp = { s.lamp with test := s.lamp.test.map satInc }
        ∧ t.line = { s.line with refresh := s.line.refresh.map satInc })

/-! ## What every step keeps -/

/-- The route record stays in one of its two forms, where the exit weight in force is at most 15 (R59,
R68); every peer entry is Unheard with no age and no heard fields, or has both, and no heard hop count passes
24 (section 3.1); and the record is always that of a computation on the present inputs: its candidates are the present
ones, and a computation now would choose it again (R60, R61, R65, R68, R73, R99; log entry 2 for a held
station). -/
def Obligations.RouteFormKept : Prop :=
  Kept (fun s => s.route.InForm ∧ exitWeight s ≤ 15) ∧ Kept (fun s => ∀ e ∈ s.peers.entries, e.InForm)
    ∧ Kept HeardHopsBounded ∧ Kept (fun s => RouteFollows s ∧ RouteInputsAgree s ∧ HeldAtReset s)

/-- The transmit queue holds at most 12 frames, at most one bulletin and at most one notice of each slot; it
stands in sending order, with no two entries of one place time; at most one entry is in flight and it is the
frame on the line; an own trigger under way keeps its request, and nothing is driven while the line fault holds
(R163, R167, R171, R173; log entry 16 for the place time). A step between two running states that changes the zone
hazard, Blind, a Front-end, Duplicate, profile or chain fault, a Dirty mark, posture or base, the route or the
advertised cost, or that ends the line fault, has a bulletin captured (R5, R6, R11, R20, R21, R25, R55, R56, R76, R154,
R155, R166, R173, R181). -/
def Obligations.QueueBoundKept : Prop :=
  Kept (fun s => QueueBounded s.line.queue) ∧ Kept (fun s => QueueOrdered s.line)
    ∧ Kept (fun s => s.line.FlightAgrees) ∧ Kept (fun s => s.line.Consistent)
    ∧ ∀ s t : State, s.power = .running → t.power = .running → step s = .next t → BulletinDue s t →
        t.line.bulletins ≠ s.line.bulletins

/-- A station whose zone hazard is Fire is in Evacuate and holds its own number in its fire set, and a
station whose fire set is not empty is in Evacuate, where a held station stands in its reset state (R32,
R35, R176; log entry 2, and 8, 34 and 38 for what a reset keeps); the zone hazard is what the heads and the latch
give; in Day and Night the base is the posture, and it is provisional only in Evacuate; the brightness follows the
posture, the sound is the one that R156 gives, the Blind flag is R21's, the aspect and the strip pattern follow
posture and next hop, and Chase and Flash begin at their start (R20, R21, R25, R31, R61, R145, R146, R147, R149,
R150, R151, R156). -/
def Obligations.FireMeansEvacuateKept : Prop :=
  Kept (fun s => FireInEvacuate s ∧ s.control.FireSetInEvacuate ∧ HeldAtReset s)
    ∧ Kept ZoneAgrees ∧ Kept (fun s => s.control.BaseAgrees) ∧ Kept BrightnessAgrees ∧ Kept SoundAgrees
    ∧ Kept BlindAgrees ∧ Kept (fun s => LampFollows s ∧ HeldAtReset s)
    ∧ (∀ s t : State, step s = .next t → PatternsBegin s.lamp t.lamp)
    ∧ (∀ s : State, ZoneAgrees s → ZoneIsR20 s.hazard) ∧ ∀ s : State, SoundAgrees s → SoundIsR156 s

/-- Whenever the posture is Evacuate the drive of every escape leaf stands at release, as of every leaf
whose lock demand is false, and the drive of a configured leaf whose lock demand is true stands at lock unless its door
is open; the prop timer runs exactly while its conditions hold, and the bolt time of a
running station exactly in travel; the pins are what the blocks' state gives, and a lock's pin is driven at lock
for a fail-safe leaf and at release for a fail-secure one, and the fault relay is held closed exactly while none of
its causes holds (R82, R83, R84, R85, R86, R88, R89, R93, R174). -/
def Obligations.LocksFollowDemandKept : Prop :=
  Kept LocksAgree ∧ Kept LocksMeetDemand
    ∧ (∀ (s : State) (n : Fin 4) (c : LeafConfig) (exitDoor : Bool) (links : List (Fin 8)), LocksAgree s →
        s.control.posture = .evacuate → (s.doors.leaves.get n).role = .configured c exitDoor links →
        c.escape = true → (s.doors.leaves.get n).state.atLock = false)
    ∧ Kept PropsAgree ∧ Kept BoltsTimed ∧ Kept PinsAgree
    ∧ ∀ (s : State) (n : Fin 4), s.power = .running → PinsAgree s →
        (∀ c exitDoor links, (s.doors.leaves.get n).role = .configured c exitDoor links →
          s.outputs.locks.get n = (if c.failSecure then !(s.doors.leaves.get n).state.atLock
            else (s.doors.leaves.get n).state.atLock)
            ∧ s.outputs.magnets.get n = (s.doors.leaves.get n).magnet)
        ∧ ((s.doors.leaves.get n).role = .provisional ∨ (s.doors.leaves.get n).role = .dropped →
            s.outputs.locks.get n = false ∧ s.outputs.magnets.get n = false)
        ∧ (s.outputs.relay = true ↔
          (s.loader.state = .loaded ∨ s.loader.state = .fallback) ∧ s.loader.station ≠ 0 ∧ s.line.fault = false
            ∧ s.front.fault = false ∧ s.loader.profileFault = false ∧ s.peers.duplicate = false)

/-- R97: the magnet of a configured fire leaf is on exactly while the three conditions hold, and every other
magnet is off, between any two events, from reset on (R98; the leaf's passage links are the entries that
name it, R80). -/
def Obligations.MagnetsFollowTheirRuleKept : Prop :=
  Kept (fun s => MagnetsAgree s ∧ LinksAgree s)
    ∧ MagnetsAgree State.reset ∧ LinksAgree State.reset
    ∧ ∀ (s : State) (n : Fin 4), MagnetsAgree s →
        (∀ c exitDoor links, (s.doors.leaves.get n).role = .configured c exitDoor links →
          ((s.doors.leaves.get n).magnet = true ↔
            c.fire = true
              ∧ (s.control.posture = .startup ∨ s.control.posture = .day ∨ s.control.posture = .night)
              ∧ (s.hazard.zone = .clear ∨ s.hazard.zone = .watch)
              ∧ ∀ j ∈ links, ∀ e h, entryAt s j = some e → e.heard = some h → h.hazard ≠ .fire))
        ∧ ((s.doors.leaves.get n).role = .provisional ∨ (s.doors.leaves.get n).role = .dropped →
            (s.doors.leaves.get n).magnet = false)

/-- Each source has at most one call: open in one slot, or pending once (R106); a Free slot has no age and no
repeat timer and an open one has a kind, a source and a repeat timer (R111, R116, R117, R125); a board has at most
16 entries, one for a station and slot (R127, R130); and at a post the panel agrees with the keys that are down
(R135), a held selection is on the board with its return timer running, and Overflow is lit on a full board only
(R130, R132). -/
def Obligations.OneCallPerSourceKept : Prop :=
  Kept (fun s => OneCallPerSource s.calls) ∧ Kept (fun s => ∀ i : Fin 8, (s.calls.slots.get i).InForm)
    ∧ Kept (fun s => BoardInForm s.post.board) ∧ Kept (fun s => s.post.PanelAgrees)
    ∧ Kept (fun s => s.post.SelectionAgrees)

/-- A running unstrapped station has no frame and no trigger on the line and no request for one, and a held
station stands in its reset state (R183, R176; log entry 2). -/
def Obligations.UnstrappedStationNeverDrives : Prop := Kept (fun s => UnstrappedSilent s ∧ HeldAtReset s)

/-- No step but a power-on reset lowers a counter, and none passes 65,535 (R187). -/
def Obligations.CountersNeverFall : Prop :=
  Kept (fun s => s.counters.Bounded)
    ∧ ∀ s t : State, s.counters.Bounded → s.pending.head? ≠ some .powerOnReset → step s = .next t →
        s.counters.invalidScan ≤ t.counters.invalidScan ∧ s.counters.duplicate ≤ t.counters.duplicate
          ∧ s.counters.overflow ≤ t.counters.overflow
          ∧ s.counters.correctedHeader ≤ t.counters.correctedHeader
          ∧ s.counters.discardedHeader ≤ t.counters.discardedHeader
          ∧ s.counters.discardedFrame ≤ t.counters.discardedFrame
          ∧ s.counters.refusedFrames ≤ t.counters.refusedFrames
          ∧ s.counters.arbitrationLost ≤ t.counters.arbitrationLost
          ∧ s.counters.bitError ≤ t.counters.bitError
          ∧ s.counters.abortedByBreak ≤ t.counters.abortedByBreak
          ∧ s.counters.stuckLine ≤ t.counters.stuckLine

/-- Every invariant above holds right after reset (R24, R43, R58, R79, R102, R125, R143, R158, R175, R176). -/
def Obligations.ResetMeetsTheInvariants : Prop :=
  State.reset.route.InForm ∧ exitWeight State.reset ≤ 15 ∧ QueueBounded State.reset.line.queue ∧ FireInEvacuate State.reset
    ∧ State.reset.control.FireSetInEvacuate ∧ HeldAtReset State.reset ∧ LocksAgree State.reset
    ∧ OneCallPerSource State.reset.calls
    ∧ UnstrappedSilent State.reset ∧ State.reset.counters.Bounded
    ∧ (∀ e ∈ State.reset.peers.entries, e.InForm) ∧ HeardHopsBounded State.reset
    ∧ QueueOrdered State.reset.line ∧ State.reset.line.FlightAgrees ∧ State.reset.line.Consistent
    ∧ ZoneAgrees State.reset ∧ State.reset.control.BaseAgrees ∧ BrightnessAgrees State.reset
    ∧ SoundAgrees State.reset ∧ PropsAgree State.reset ∧ BoltsTimed State.reset ∧ PinsAgree State.reset
    ∧ (∀ i : Fin 8, (State.reset.calls.slots.get i).InForm) ∧ BoardInForm State.reset.post.board
    ∧ State.reset.post.PanelAgrees ∧ State.reset.post.SelectionAgrees ∧ RouteFollows State.reset
    ∧ RouteInputsAgree State.reset ∧ LocksMeetDemand State.reset ∧ BlindAgrees State.reset ∧ LampFollows State.reset

/-! ## The bytes on the line (chapters 9 and 11) -/

/-- A frame that a station writes is what a receiver reads: every kind, with every field at every value
its coding admits (R161, R184, spec 9.2, 11.1, 11.2). -/
def Obligations.WrittenFrameIsReadBack : Prop :=
  ∀ (source : Station) (f : Frame), f.InRange → judgeFrame (f.wire source) = .accepted false source f

/-- `judgeHeader` corrects one wrong bit anywhere in the five header bytes to the header that was sent (R161,
R184). -/
def Obligations.OneHeaderBitIsCorrected : Prop :=
  ∀ (kind source a b : Byte) (i : Fin 5) (k : Fin 8) (c0 c1 c2 c3 c4 : Byte),
    [c0, c1, c2, c3, c4] =
      (headerBytes kind source a b).set i.val
        ((headerBytes kind source a b).getD i.val 0 ^^^ (1#8 <<< k.val)) →
    judgeHeader (headerData c0 c1 c2 c3) c4 = .corrected (headerData kind source a b)
end

