-- ==== Sys2Proof/Laws/Banks.lean ====
section
/-! SUPPORT. The banks of four, six and eight like things, and the saturating count. -/

namespace Sys2Proof

variable {α β : Type}

@[simp] theorem Four.get_set_self (v : Four α) (i : Fin 4) (x : α) : (v.set i x).get i = x := by
  fin_cases i <;> rfl

theorem Four.get_set_of_ne (v : Four α) (i j : Fin 4) (x : α) (h : j ≠ i) : (v.set i x).get j = v.get j := by
  fin_cases i <;> fin_cases j <;> first | rfl | exact absurd rfl h

@[simp] theorem Four.get_map (f : α → β) (v : Four α) (i : Fin 4) : (v.map f).get i = f (v.get i) := by
  fin_cases i <;> rfl

@[simp] theorem Four.get_tabulate (f : Fin 4 → α) (i : Fin 4) : (Four.tabulate f).get i = f i := by
  fin_cases i <;> rfl

@[simp] theorem Four.get_fill (x : α) (i : Fin 4) : (Four.fill x).get i = x := by
  fin_cases i <;> rfl

theorem Four.ext_get {v w : Four α} (h : ∀ i, v.get i = w.get i) : v = w := by
  obtain ⟨a0, a1, a2, a3⟩ := v
  obtain ⟨b0, b1, b2, b3⟩ := w
  have e := fun i => h i
  simp only [Four.mk.injEq]
  exact ⟨e 0, e 1, e 2, e 3⟩

theorem Four.toList_eq (v : Four α) : v.toList = (List.finRange 4).map v.get := rfl

@[simp] theorem Six.get_set_self (v : Six α) (i : Fin 6) (x : α) : (v.set i x).get i = x := by
  fin_cases i <;> rfl

theorem Six.get_set_of_ne (v : Six α) (i j : Fin 6) (x : α) (h : j ≠ i) : (v.set i x).get j = v.get j := by
  fin_cases i <;> fin_cases j <;> first | rfl | exact absurd rfl h

@[simp] theorem Six.get_map (f : α → β) (v : Six α) (i : Fin 6) : (v.map f).get i = f (v.get i) := by
  fin_cases i <;> rfl

@[simp] theorem Six.get_tabulate (f : Fin 6 → α) (i : Fin 6) : (Six.tabulate f).get i = f i := by
  fin_cases i <;> rfl

@[simp] theorem Six.get_fill (x : α) (i : Fin 6) : (Six.fill x).get i = x := by
  fin_cases i <;> rfl

theorem Six.ext_get {v w : Six α} (h : ∀ i, v.get i = w.get i) : v = w := by
  obtain ⟨a0, a1, a2, a3, a4, a5⟩ := v
  obtain ⟨b0, b1, b2, b3, b4, b5⟩ := w
  have e := fun i => h i
  simp only [Six.mk.injEq]
  exact ⟨e 0, e 1, e 2, e 3, e 4, e 5⟩

theorem Six.toList_eq (v : Six α) : v.toList = (List.finRange 6).map v.get := rfl

@[simp] theorem Eight.get_set_self (v : Eight α) (i : Fin 8) (x : α) : (v.set i x).get i = x := by
  fin_cases i <;> rfl

theorem Eight.get_set_of_ne (v : Eight α) (i j : Fin 8) (x : α) (h : j ≠ i) : (v.set i x).get j = v.get j := by
  fin_cases i <;> fin_cases j <;> first | rfl | exact absurd rfl h

@[simp] theorem Eight.get_map (f : α → β) (v : Eight α) (i : Fin 8) : (v.map f).get i = f (v.get i) := by
  fin_cases i <;> rfl

@[simp] theorem Eight.get_tabulate (f : Fin 8 → α) (i : Fin 8) : (Eight.tabulate f).get i = f i := by
  fin_cases i <;> rfl

@[simp] theorem Eight.get_fill (x : α) (i : Fin 8) : (Eight.fill x).get i = x := by
  fin_cases i <;> rfl

theorem Eight.ext_get {v w : Eight α} (h : ∀ i, v.get i = w.get i) : v = w := by
  obtain ⟨a0, a1, a2, a3, a4, a5, a6, a7⟩ := v
  obtain ⟨b0, b1, b2, b3, b4, b5, b6, b7⟩ := w
  have e := fun i => h i
  simp only [Eight.mk.injEq]
  exact ⟨e 0, e 1, e 2, e 3, e 4, e 5, e 6, e 7⟩

theorem Eight.toList_eq (v : Eight α) : v.toList = (List.finRange 8).map v.get := rfl

theorem mem_allFour (n : Fin 4) : n ∈ allFour := by fin_cases n <;> decide

theorem mem_allSix (n : Fin 6) : n ∈ allSix := by fin_cases n <;> decide

theorem mem_allEight (n : Fin 8) : n ∈ allEight := by fin_cases n <;> decide

theorem satInc_le (n : Nat) : satInc n ≤ ceiling16 := by
  unfold satInc
  split <;> omega

theorem satInc_of_lt {n : Nat} (h : n < ceiling16) : satInc n = n + 1 := if_pos h

end Sys2Proof
end

