-- ==== Sys2Proof/Laws/State.lean ====
section
/-! SUPPORT. What each update of State leaves in each field: one lemma for each field and update. -/

namespace Sys2Proof.Machine

variable (s : State)

@[simp] theorem State.setPower_power (x : Power) : (s.setPower x).power = x := rfl
@[simp] theorem State.setPower_loader (x : Power) : (s.setPower x).loader = s.loader := rfl
@[simp] theorem State.setPower_front (x : Power) : (s.setPower x).front = s.front := rfl
@[simp] theorem State.setPower_hazard (x : Power) : (s.setPower x).hazard = s.hazard := rfl
@[simp] theorem State.setPower_control (x : Power) : (s.setPower x).control = s.control := rfl
@[simp] theorem State.setPower_peers (x : Power) : (s.setPower x).peers = s.peers := rfl
@[simp] theorem State.setPower_route (x : Power) : (s.setPower x).route = s.route := rfl
@[simp] theorem State.setPower_doors (x : Power) : (s.setPower x).doors = s.doors := rfl
@[simp] theorem State.setPower_calls (x : Power) : (s.setPower x).calls = s.calls := rfl
@[simp] theorem State.setPower_post (x : Power) : (s.setPower x).post = s.post := rfl
@[simp] theorem State.setPower_lamp (x : Power) : (s.setPower x).lamp = s.lamp := rfl
@[simp] theorem State.setPower_line (x : Power) : (s.setPower x).line = s.line := rfl
@[simp] theorem State.setPower_counters (x : Power) : (s.setPower x).counters = s.counters := rfl
@[simp] theorem State.setPower_outputs (x : Power) : (s.setPower x).outputs = s.outputs := rfl
@[simp] theorem State.setPower_freeUsed (x : Power) : (s.setPower x).freeUsed = s.freeUsed := rfl
@[simp] theorem State.setPower_pending (x : Power) : (s.setPower x).pending = s.pending := rfl

@[simp] theorem State.setLoader_power (x : Loader) : (s.setLoader x).power = s.power := rfl
@[simp] theorem State.setLoader_loader (x : Loader) : (s.setLoader x).loader = x := rfl
@[simp] theorem State.setLoader_front (x : Loader) : (s.setLoader x).front = s.front := rfl
@[simp] theorem State.setLoader_hazard (x : Loader) : (s.setLoader x).hazard = s.hazard := rfl
@[simp] theorem State.setLoader_control (x : Loader) : (s.setLoader x).control = s.control := rfl
@[simp] theorem State.setLoader_peers (x : Loader) : (s.setLoader x).peers = s.peers := rfl
@[simp] theorem State.setLoader_route (x : Loader) : (s.setLoader x).route = s.route := rfl
@[simp] theorem State.setLoader_doors (x : Loader) : (s.setLoader x).doors = s.doors := rfl
@[simp] theorem State.setLoader_calls (x : Loader) : (s.setLoader x).calls = s.calls := rfl
@[simp] theorem State.setLoader_post (x : Loader) : (s.setLoader x).post = s.post := rfl
@[simp] theorem State.setLoader_lamp (x : Loader) : (s.setLoader x).lamp = s.lamp := rfl
@[simp] theorem State.setLoader_line (x : Loader) : (s.setLoader x).line = s.line := rfl
@[simp] theorem State.setLoader_counters (x : Loader) : (s.setLoader x).counters = s.counters := rfl
@[simp] theorem State.setLoader_outputs (x : Loader) : (s.setLoader x).outputs = s.outputs := rfl
@[simp] theorem State.setLoader_freeUsed (x : Loader) : (s.setLoader x).freeUsed = s.freeUsed := rfl
@[simp] theorem State.setLoader_pending (x : Loader) : (s.setLoader x).pending = s.pending := rfl

@[simp] theorem State.setFront_power (x : FrontEnd) : (s.setFront x).power = s.power := rfl
@[simp] theorem State.setFront_loader (x : FrontEnd) : (s.setFront x).loader = s.loader := rfl
@[simp] theorem State.setFront_front (x : FrontEnd) : (s.setFront x).front = x := rfl
@[simp] theorem State.setFront_hazard (x : FrontEnd) : (s.setFront x).hazard = s.hazard := rfl
@[simp] theorem State.setFront_control (x : FrontEnd) : (s.setFront x).control = s.control := rfl
@[simp] theorem State.setFront_peers (x : FrontEnd) : (s.setFront x).peers = s.peers := rfl
@[simp] theorem State.setFront_route (x : FrontEnd) : (s.setFront x).route = s.route := rfl
@[simp] theorem State.setFront_doors (x : FrontEnd) : (s.setFront x).doors = s.doors := rfl
@[simp] theorem State.setFront_calls (x : FrontEnd) : (s.setFront x).calls = s.calls := rfl
@[simp] theorem State.setFront_post (x : FrontEnd) : (s.setFront x).post = s.post := rfl
@[simp] theorem State.setFront_lamp (x : FrontEnd) : (s.setFront x).lamp = s.lamp := rfl
@[simp] theorem State.setFront_line (x : FrontEnd) : (s.setFront x).line = s.line := rfl
@[simp] theorem State.setFront_counters (x : FrontEnd) : (s.setFront x).counters = s.counters := rfl
@[simp] theorem State.setFront_outputs (x : FrontEnd) : (s.setFront x).outputs = s.outputs := rfl
@[simp] theorem State.setFront_freeUsed (x : FrontEnd) : (s.setFront x).freeUsed = s.freeUsed := rfl
@[simp] theorem State.setFront_pending (x : FrontEnd) : (s.setFront x).pending = s.pending := rfl

@[simp] theorem State.setHazard_power (x : Hazard) : (s.setHazard x).power = s.power := rfl
@[simp] theorem State.setHazard_loader (x : Hazard) : (s.setHazard x).loader = s.loader := rfl
@[simp] theorem State.setHazard_front (x : Hazard) : (s.setHazard x).front = s.front := rfl
@[simp] theorem State.setHazard_hazard (x : Hazard) : (s.setHazard x).hazard = x := rfl
@[simp] theorem State.setHazard_control (x : Hazard) : (s.setHazard x).control = s.control := rfl
@[simp] theorem State.setHazard_peers (x : Hazard) : (s.setHazard x).peers = s.peers := rfl
@[simp] theorem State.setHazard_route (x : Hazard) : (s.setHazard x).route = s.route := rfl
@[simp] theorem State.setHazard_doors (x : Hazard) : (s.setHazard x).doors = s.doors := rfl
@[simp] theorem State.setHazard_calls (x : Hazard) : (s.setHazard x).calls = s.calls := rfl
@[simp] theorem State.setHazard_post (x : Hazard) : (s.setHazard x).post = s.post := rfl
@[simp] theorem State.setHazard_lamp (x : Hazard) : (s.setHazard x).lamp = s.lamp := rfl
@[simp] theorem State.setHazard_line (x : Hazard) : (s.setHazard x).line = s.line := rfl
@[simp] theorem State.setHazard_counters (x : Hazard) : (s.setHazard x).counters = s.counters := rfl
@[simp] theorem State.setHazard_outputs (x : Hazard) : (s.setHazard x).outputs = s.outputs := rfl
@[simp] theorem State.setHazard_freeUsed (x : Hazard) : (s.setHazard x).freeUsed = s.freeUsed := rfl
@[simp] theorem State.setHazard_pending (x : Hazard) : (s.setHazard x).pending = s.pending := rfl

@[simp] theorem State.setControl_power (x : Control) : (s.setControl x).power = s.power := rfl
@[simp] theorem State.setControl_loader (x : Control) : (s.setControl x).loader = s.loader := rfl
@[simp] theorem State.setControl_front (x : Control) : (s.setControl x).front = s.front := rfl
@[simp] theorem State.setControl_hazard (x : Control) : (s.setControl x).hazard = s.hazard := rfl
@[simp] theorem State.setControl_control (x : Control) : (s.setControl x).control = x := rfl
@[simp] theorem State.setControl_peers (x : Control) : (s.setControl x).peers = s.peers := rfl
@[simp] theorem State.setControl_route (x : Control) : (s.setControl x).route = s.route := rfl
@[simp] theorem State.setControl_doors (x : Control) : (s.setControl x).doors = s.doors := rfl
@[simp] theorem State.setControl_calls (x : Control) : (s.setControl x).calls = s.calls := rfl
@[simp] theorem State.setControl_post (x : Control) : (s.setControl x).post = s.post := rfl
@[simp] theorem State.setControl_lamp (x : Control) : (s.setControl x).lamp = s.lamp := rfl
@[simp] theorem State.setControl_line (x : Control) : (s.setControl x).line = s.line := rfl
@[simp] theorem State.setControl_counters (x : Control) : (s.setControl x).counters = s.counters := rfl
@[simp] theorem State.setControl_outputs (x : Control) : (s.setControl x).outputs = s.outputs := rfl
@[simp] theorem State.setControl_freeUsed (x : Control) : (s.setControl x).freeUsed = s.freeUsed := rfl
@[simp] theorem State.setControl_pending (x : Control) : (s.setControl x).pending = s.pending := rfl

@[simp] theorem State.setPeers_power (x : PeerTable) : (s.setPeers x).power = s.power := rfl
@[simp] theorem State.setPeers_loader (x : PeerTable) : (s.setPeers x).loader = s.loader := rfl
@[simp] theorem State.setPeers_front (x : PeerTable) : (s.setPeers x).front = s.front := rfl
@[simp] theorem State.setPeers_hazard (x : PeerTable) : (s.setPeers x).hazard = s.hazard := rfl
@[simp] theorem State.setPeers_control (x : PeerTable) : (s.setPeers x).control = s.control := rfl
@[simp] theorem State.setPeers_peers (x : PeerTable) : (s.setPeers x).peers = x := rfl
@[simp] theorem State.setPeers_route (x : PeerTable) : (s.setPeers x).route = s.route := rfl
@[simp] theorem State.setPeers_doors (x : PeerTable) : (s.setPeers x).doors = s.doors := rfl
@[simp] theorem State.setPeers_calls (x : PeerTable) : (s.setPeers x).calls = s.calls := rfl
@[simp] theorem State.setPeers_post (x : PeerTable) : (s.setPeers x).post = s.post := rfl
@[simp] theorem State.setPeers_lamp (x : PeerTable) : (s.setPeers x).lamp = s.lamp := rfl
@[simp] theorem State.setPeers_line (x : PeerTable) : (s.setPeers x).line = s.line := rfl
@[simp] theorem State.setPeers_counters (x : PeerTable) : (s.setPeers x).counters = s.counters := rfl
@[simp] theorem State.setPeers_outputs (x : PeerTable) : (s.setPeers x).outputs = s.outputs := rfl
@[simp] theorem State.setPeers_freeUsed (x : PeerTable) : (s.setPeers x).freeUsed = s.freeUsed := rfl
@[simp] theorem State.setPeers_pending (x : PeerTable) : (s.setPeers x).pending = s.pending := rfl

@[simp] theorem State.setRoute_power (x : RouteRecord) : (s.setRoute x).power = s.power := rfl
@[simp] theorem State.setRoute_loader (x : RouteRecord) : (s.setRoute x).loader = s.loader := rfl
@[simp] theorem State.setRoute_front (x : RouteRecord) : (s.setRoute x).front = s.front := rfl
@[simp] theorem State.setRoute_hazard (x : RouteRecord) : (s.setRoute x).hazard = s.hazard := rfl
@[simp] theorem State.setRoute_control (x : RouteRecord) : (s.setRoute x).control = s.control := rfl
@[simp] theorem State.setRoute_peers (x : RouteRecord) : (s.setRoute x).peers = s.peers := rfl
@[simp] theorem State.setRoute_route (x : RouteRecord) : (s.setRoute x).route = x := rfl
@[simp] theorem State.setRoute_doors (x : RouteRecord) : (s.setRoute x).doors = s.doors := rfl
@[simp] theorem State.setRoute_calls (x : RouteRecord) : (s.setRoute x).calls = s.calls := rfl
@[simp] theorem State.setRoute_post (x : RouteRecord) : (s.setRoute x).post = s.post := rfl
@[simp] theorem State.setRoute_lamp (x : RouteRecord) : (s.setRoute x).lamp = s.lamp := rfl
@[simp] theorem State.setRoute_line (x : RouteRecord) : (s.setRoute x).line = s.line := rfl
@[simp] theorem State.setRoute_counters (x : RouteRecord) : (s.setRoute x).counters = s.counters := rfl
@[simp] theorem State.setRoute_outputs (x : RouteRecord) : (s.setRoute x).outputs = s.outputs := rfl
@[simp] theorem State.setRoute_freeUsed (x : RouteRecord) : (s.setRoute x).freeUsed = s.freeUsed := rfl
@[simp] theorem State.setRoute_pending (x : RouteRecord) : (s.setRoute x).pending = s.pending := rfl

@[simp] theorem State.setDoors_power (x : Doors) : (s.setDoors x).power = s.power := rfl
@[simp] theorem State.setDoors_loader (x : Doors) : (s.setDoors x).loader = s.loader := rfl
@[simp] theorem State.setDoors_front (x : Doors) : (s.setDoors x).front = s.front := rfl
@[simp] theorem State.setDoors_hazard (x : Doors) : (s.setDoors x).hazard = s.hazard := rfl
@[simp] theorem State.setDoors_control (x : Doors) : (s.setDoors x).control = s.control := rfl
@[simp] theorem State.setDoors_peers (x : Doors) : (s.setDoors x).peers = s.peers := rfl
@[simp] theorem State.setDoors_route (x : Doors) : (s.setDoors x).route = s.route := rfl
@[simp] theorem State.setDoors_doors (x : Doors) : (s.setDoors x).doors = x := rfl
@[simp] theorem State.setDoors_calls (x : Doors) : (s.setDoors x).calls = s.calls := rfl
@[simp] theorem State.setDoors_post (x : Doors) : (s.setDoors x).post = s.post := rfl
@[simp] theorem State.setDoors_lamp (x : Doors) : (s.setDoors x).lamp = s.lamp := rfl
@[simp] theorem State.setDoors_line (x : Doors) : (s.setDoors x).line = s.line := rfl
@[simp] theorem State.setDoors_counters (x : Doors) : (s.setDoors x).counters = s.counters := rfl
@[simp] theorem State.setDoors_outputs (x : Doors) : (s.setDoors x).outputs = s.outputs := rfl
@[simp] theorem State.setDoors_freeUsed (x : Doors) : (s.setDoors x).freeUsed = s.freeUsed := rfl
@[simp] theorem State.setDoors_pending (x : Doors) : (s.setDoors x).pending = s.pending := rfl

@[simp] theorem State.setCalls_power (x : Calls) : (s.setCalls x).power = s.power := rfl
@[simp] theorem State.setCalls_loader (x : Calls) : (s.setCalls x).loader = s.loader := rfl
@[simp] theorem State.setCalls_front (x : Calls) : (s.setCalls x).front = s.front := rfl
@[simp] theorem State.setCalls_hazard (x : Calls) : (s.setCalls x).hazard = s.hazard := rfl
@[simp] theorem State.setCalls_control (x : Calls) : (s.setCalls x).control = s.control := rfl
@[simp] theorem State.setCalls_peers (x : Calls) : (s.setCalls x).peers = s.peers := rfl
@[simp] theorem State.setCalls_route (x : Calls) : (s.setCalls x).route = s.route := rfl
@[simp] theorem State.setCalls_doors (x : Calls) : (s.setCalls x).doors = s.doors := rfl
@[simp] theorem State.setCalls_calls (x : Calls) : (s.setCalls x).calls = x := rfl
@[simp] theorem State.setCalls_post (x : Calls) : (s.setCalls x).post = s.post := rfl
@[simp] theorem State.setCalls_lamp (x : Calls) : (s.setCalls x).lamp = s.lamp := rfl
@[simp] theorem State.setCalls_line (x : Calls) : (s.setCalls x).line = s.line := rfl
@[simp] theorem State.setCalls_counters (x : Calls) : (s.setCalls x).counters = s.counters := rfl
@[simp] theorem State.setCalls_outputs (x : Calls) : (s.setCalls x).outputs = s.outputs := rfl
@[simp] theorem State.setCalls_freeUsed (x : Calls) : (s.setCalls x).freeUsed = s.freeUsed := rfl
@[simp] theorem State.setCalls_pending (x : Calls) : (s.setCalls x).pending = s.pending := rfl

@[simp] theorem State.setPost_power (x : Post) : (s.setPost x).power = s.power := rfl
@[simp] theorem State.setPost_loader (x : Post) : (s.setPost x).loader = s.loader := rfl
@[simp] theorem State.setPost_front (x : Post) : (s.setPost x).front = s.front := rfl
@[simp] theorem State.setPost_hazard (x : Post) : (s.setPost x).hazard = s.hazard := rfl
@[simp] theorem State.setPost_control (x : Post) : (s.setPost x).control = s.control := rfl
@[simp] theorem State.setPost_peers (x : Post) : (s.setPost x).peers = s.peers := rfl
@[simp] theorem State.setPost_route (x : Post) : (s.setPost x).route = s.route := rfl
@[simp] theorem State.setPost_doors (x : Post) : (s.setPost x).doors = s.doors := rfl
@[simp] theorem State.setPost_calls (x : Post) : (s.setPost x).calls = s.calls := rfl
@[simp] theorem State.setPost_post (x : Post) : (s.setPost x).post = x := rfl
@[simp] theorem State.setPost_lamp (x : Post) : (s.setPost x).lamp = s.lamp := rfl
@[simp] theorem State.setPost_line (x : Post) : (s.setPost x).line = s.line := rfl
@[simp] theorem State.setPost_counters (x : Post) : (s.setPost x).counters = s.counters := rfl
@[simp] theorem State.setPost_outputs (x : Post) : (s.setPost x).outputs = s.outputs := rfl
@[simp] theorem State.setPost_freeUsed (x : Post) : (s.setPost x).freeUsed = s.freeUsed := rfl
@[simp] theorem State.setPost_pending (x : Post) : (s.setPost x).pending = s.pending := rfl

@[simp] theorem State.setLamp_power (x : Lamp) : (s.setLamp x).power = s.power := rfl
@[simp] theorem State.setLamp_loader (x : Lamp) : (s.setLamp x).loader = s.loader := rfl
@[simp] theorem State.setLamp_front (x : Lamp) : (s.setLamp x).front = s.front := rfl
@[simp] theorem State.setLamp_hazard (x : Lamp) : (s.setLamp x).hazard = s.hazard := rfl
@[simp] theorem State.setLamp_control (x : Lamp) : (s.setLamp x).control = s.control := rfl
@[simp] theorem State.setLamp_peers (x : Lamp) : (s.setLamp x).peers = s.peers := rfl
@[simp] theorem State.setLamp_route (x : Lamp) : (s.setLamp x).route = s.route := rfl
@[simp] theorem State.setLamp_doors (x : Lamp) : (s.setLamp x).doors = s.doors := rfl
@[simp] theorem State.setLamp_calls (x : Lamp) : (s.setLamp x).calls = s.calls := rfl
@[simp] theorem State.setLamp_post (x : Lamp) : (s.setLamp x).post = s.post := rfl
@[simp] theorem State.setLamp_lamp (x : Lamp) : (s.setLamp x).lamp = x := rfl
@[simp] theorem State.setLamp_line (x : Lamp) : (s.setLamp x).line = s.line := rfl
@[simp] theorem State.setLamp_counters (x : Lamp) : (s.setLamp x).counters = s.counters := rfl
@[simp] theorem State.setLamp_outputs (x : Lamp) : (s.setLamp x).outputs = s.outputs := rfl
@[simp] theorem State.setLamp_freeUsed (x : Lamp) : (s.setLamp x).freeUsed = s.freeUsed := rfl
@[simp] theorem State.setLamp_pending (x : Lamp) : (s.setLamp x).pending = s.pending := rfl

@[simp] theorem State.setLine_power (x : LinePort) : (s.setLine x).power = s.power := rfl
@[simp] theorem State.setLine_loader (x : LinePort) : (s.setLine x).loader = s.loader := rfl
@[simp] theorem State.setLine_front (x : LinePort) : (s.setLine x).front = s.front := rfl
@[simp] theorem State.setLine_hazard (x : LinePort) : (s.setLine x).hazard = s.hazard := rfl
@[simp] theorem State.setLine_control (x : LinePort) : (s.setLine x).control = s.control := rfl
@[simp] theorem State.setLine_peers (x : LinePort) : (s.setLine x).peers = s.peers := rfl
@[simp] theorem State.setLine_route (x : LinePort) : (s.setLine x).route = s.route := rfl
@[simp] theorem State.setLine_doors (x : LinePort) : (s.setLine x).doors = s.doors := rfl
@[simp] theorem State.setLine_calls (x : LinePort) : (s.setLine x).calls = s.calls := rfl
@[simp] theorem State.setLine_post (x : LinePort) : (s.setLine x).post = s.post := rfl
@[simp] theorem State.setLine_lamp (x : LinePort) : (s.setLine x).lamp = s.lamp := rfl
@[simp] theorem State.setLine_line (x : LinePort) : (s.setLine x).line = x := rfl
@[simp] theorem State.setLine_counters (x : LinePort) : (s.setLine x).counters = s.counters := rfl
@[simp] theorem State.setLine_outputs (x : LinePort) : (s.setLine x).outputs = s.outputs := rfl
@[simp] theorem State.setLine_freeUsed (x : LinePort) : (s.setLine x).freeUsed = s.freeUsed := rfl
@[simp] theorem State.setLine_pending (x : LinePort) : (s.setLine x).pending = s.pending := rfl

@[simp] theorem State.setCounters_power (x : Counters) : (s.setCounters x).power = s.power := rfl
@[simp] theorem State.setCounters_loader (x : Counters) : (s.setCounters x).loader = s.loader := rfl
@[simp] theorem State.setCounters_front (x : Counters) : (s.setCounters x).front = s.front := rfl
@[simp] theorem State.setCounters_hazard (x : Counters) : (s.setCounters x).hazard = s.hazard := rfl
@[simp] theorem State.setCounters_control (x : Counters) : (s.setCounters x).control = s.control := rfl
@[simp] theorem State.setCounters_peers (x : Counters) : (s.setCounters x).peers = s.peers := rfl
@[simp] theorem State.setCounters_route (x : Counters) : (s.setCounters x).route = s.route := rfl
@[simp] theorem State.setCounters_doors (x : Counters) : (s.setCounters x).doors = s.doors := rfl
@[simp] theorem State.setCounters_calls (x : Counters) : (s.setCounters x).calls = s.calls := rfl
@[simp] theorem State.setCounters_post (x : Counters) : (s.setCounters x).post = s.post := rfl
@[simp] theorem State.setCounters_lamp (x : Counters) : (s.setCounters x).lamp = s.lamp := rfl
@[simp] theorem State.setCounters_line (x : Counters) : (s.setCounters x).line = s.line := rfl
@[simp] theorem State.setCounters_counters (x : Counters) : (s.setCounters x).counters = x := rfl
@[simp] theorem State.setCounters_outputs (x : Counters) : (s.setCounters x).outputs = s.outputs := rfl
@[simp] theorem State.setCounters_freeUsed (x : Counters) : (s.setCounters x).freeUsed = s.freeUsed := rfl
@[simp] theorem State.setCounters_pending (x : Counters) : (s.setCounters x).pending = s.pending := rfl

@[simp] theorem State.setOutputs_power (x : Outputs) : (s.setOutputs x).power = s.power := rfl
@[simp] theorem State.setOutputs_loader (x : Outputs) : (s.setOutputs x).loader = s.loader := rfl
@[simp] theorem State.setOutputs_front (x : Outputs) : (s.setOutputs x).front = s.front := rfl
@[simp] theorem State.setOutputs_hazard (x : Outputs) : (s.setOutputs x).hazard = s.hazard := rfl
@[simp] theorem State.setOutputs_control (x : Outputs) : (s.setOutputs x).control = s.control := rfl
@[simp] theorem State.setOutputs_peers (x : Outputs) : (s.setOutputs x).peers = s.peers := rfl
@[simp] theorem State.setOutputs_route (x : Outputs) : (s.setOutputs x).route = s.route := rfl
@[simp] theorem State.setOutputs_doors (x : Outputs) : (s.setOutputs x).doors = s.doors := rfl
@[simp] theorem State.setOutputs_calls (x : Outputs) : (s.setOutputs x).calls = s.calls := rfl
@[simp] theorem State.setOutputs_post (x : Outputs) : (s.setOutputs x).post = s.post := rfl
@[simp] theorem State.setOutputs_lamp (x : Outputs) : (s.setOutputs x).lamp = s.lamp := rfl
@[simp] theorem State.setOutputs_line (x : Outputs) : (s.setOutputs x).line = s.line := rfl
@[simp] theorem State.setOutputs_counters (x : Outputs) : (s.setOutputs x).counters = s.counters := rfl
@[simp] theorem State.setOutputs_outputs (x : Outputs) : (s.setOutputs x).outputs = x := rfl
@[simp] theorem State.setOutputs_freeUsed (x : Outputs) : (s.setOutputs x).freeUsed = s.freeUsed := rfl
@[simp] theorem State.setOutputs_pending (x : Outputs) : (s.setOutputs x).pending = s.pending := rfl

@[simp] theorem State.setFreeUsed_power (x : Nat) : (s.setFreeUsed x).power = s.power := rfl
@[simp] theorem State.setFreeUsed_loader (x : Nat) : (s.setFreeUsed x).loader = s.loader := rfl
@[simp] theorem State.setFreeUsed_front (x : Nat) : (s.setFreeUsed x).front = s.front := rfl
@[simp] theorem State.setFreeUsed_hazard (x : Nat) : (s.setFreeUsed x).hazard = s.hazard := rfl
@[simp] theorem State.setFreeUsed_control (x : Nat) : (s.setFreeUsed x).control = s.control := rfl
@[simp] theorem State.setFreeUsed_peers (x : Nat) : (s.setFreeUsed x).peers = s.peers := rfl
@[simp] theorem State.setFreeUsed_route (x : Nat) : (s.setFreeUsed x).route = s.route := rfl
@[simp] theorem State.setFreeUsed_doors (x : Nat) : (s.setFreeUsed x).doors = s.doors := rfl
@[simp] theorem State.setFreeUsed_calls (x : Nat) : (s.setFreeUsed x).calls = s.calls := rfl
@[simp] theorem State.setFreeUsed_post (x : Nat) : (s.setFreeUsed x).post = s.post := rfl
@[simp] theorem State.setFreeUsed_lamp (x : Nat) : (s.setFreeUsed x).lamp = s.lamp := rfl
@[simp] theorem State.setFreeUsed_line (x : Nat) : (s.setFreeUsed x).line = s.line := rfl
@[simp] theorem State.setFreeUsed_counters (x : Nat) : (s.setFreeUsed x).counters = s.counters := rfl
@[simp] theorem State.setFreeUsed_outputs (x : Nat) : (s.setFreeUsed x).outputs = s.outputs := rfl
@[simp] theorem State.setFreeUsed_freeUsed (x : Nat) : (s.setFreeUsed x).freeUsed = x := rfl
@[simp] theorem State.setFreeUsed_pending (x : Nat) : (s.setFreeUsed x).pending = s.pending := rfl

@[simp] theorem State.setPending_power (x : List Instr) : (s.setPending x).power = s.power := rfl
@[simp] theorem State.setPending_loader (x : List Instr) : (s.setPending x).loader = s.loader := rfl
@[simp] theorem State.setPending_front (x : List Instr) : (s.setPending x).front = s.front := rfl
@[simp] theorem State.setPending_hazard (x : List Instr) : (s.setPending x).hazard = s.hazard := rfl
@[simp] theorem State.setPending_control (x : List Instr) : (s.setPending x).control = s.control := rfl
@[simp] theorem State.setPending_peers (x : List Instr) : (s.setPending x).peers = s.peers := rfl
@[simp] theorem State.setPending_route (x : List Instr) : (s.setPending x).route = s.route := rfl
@[simp] theorem State.setPending_doors (x : List Instr) : (s.setPending x).doors = s.doors := rfl
@[simp] theorem State.setPending_calls (x : List Instr) : (s.setPending x).calls = s.calls := rfl
@[simp] theorem State.setPending_post (x : List Instr) : (s.setPending x).post = s.post := rfl
@[simp] theorem State.setPending_lamp (x : List Instr) : (s.setPending x).lamp = s.lamp := rfl
@[simp] theorem State.setPending_line (x : List Instr) : (s.setPending x).line = s.line := rfl
@[simp] theorem State.setPending_counters (x : List Instr) : (s.setPending x).counters = s.counters := rfl
@[simp] theorem State.setPending_outputs (x : List Instr) : (s.setPending x).outputs = s.outputs := rfl
@[simp] theorem State.setPending_freeUsed (x : List Instr) : (s.setPending x).freeUsed = s.freeUsed := rfl
@[simp] theorem State.setPending_pending (x : List Instr) : (s.setPending x).pending = x := rfl

end Sys2Proof.Machine
end

