-- ==== Sys2Proof/Laws/Frame.lean ====
section
/-! SUPPORT. The footprint of each shared operation: which fields of State it may change. Every proof of
a frame goes through these lemmas; none of them needs an operation's callees unfolded twice. -/

namespace Sys2Proof.Machine

/-! ## The relation -/

variable {c d : List Block} {s t u : State}

theorem SameOutside.refl (c : List Block) (s : State) : SameOutside c s s := by
  intro b; right; cases b <;> rfl

theorem SameOutside.trans (h : SameOutside c s t) (k : SameOutside c t u) : SameOutside c s u := by
  intro b
  rcases h b with hb | hb
  · exact .inl hb
  rcases k b with kb | kb
  · exact .inl kb
  right
  cases b <;> exact Eq.trans kb hb

theorem SameOutside.widen (h : SameOutside c s t) (sub : ∀ b, b ∈ c → b ∈ d) : SameOutside d s t := by
  intro b
  exact (h b).imp_left (sub b)

/-- Two operations one after the other change what either changes. -/
theorem SameOutside.then (h : SameOutside c s t) (k : SameOutside d t u) : SameOutside (c ++ d) s u :=
  (h.widen (fun _ hb => List.mem_append.2 (.inl hb))).trans (k.widen (fun _ hb => List.mem_append.2 (.inr hb)))

theorem SameOutside.ite {p : Prop} [Decidable p] (h : SameOutside c s t) (k : SameOutside c s u) :
    SameOutside c s (if p then t else u) := by
  split <;> assumption

theorem SameOutside.foldl {α : Type} (f : State → α → State) (h : ∀ s x, SameOutside c s (f s x)) (l : List α)
    (s : State) : SameOutside c s (l.foldl f s) := by
  induction l generalizing s with
  | nil => exact .refl c s
  | cons x l ih => exact (h s x).trans (ih _)

theorem SameOutside.block (h : SameOutside c s t) (b : Block) (hb : b ∉ c) : SameBlock s t b :=
  (h b).resolve_left hb

theorem SameOutside.power_eq (h : SameOutside c s t) (hb : Block.power ∉ c := by decide) : t.power = s.power := h.block .power hb
theorem SameOutside.loader_eq (h : SameOutside c s t) (hb : Block.loader ∉ c := by decide) : t.loader = s.loader := h.block .loader hb
theorem SameOutside.front_eq (h : SameOutside c s t) (hb : Block.front ∉ c := by decide) : t.front = s.front := h.block .front hb
theorem SameOutside.hazard_eq (h : SameOutside c s t) (hb : Block.hazard ∉ c := by decide) : t.hazard = s.hazard := h.block .hazard hb
theorem SameOutside.control_eq (h : SameOutside c s t) (hb : Block.control ∉ c := by decide) : t.control = s.control := h.block .control hb
theorem SameOutside.peers_eq (h : SameOutside c s t) (hb : Block.peers ∉ c := by decide) : t.peers = s.peers := h.block .peers hb
theorem SameOutside.route_eq (h : SameOutside c s t) (hb : Block.route ∉ c := by decide) : t.route = s.route := h.block .route hb
theorem SameOutside.doors_eq (h : SameOutside c s t) (hb : Block.doors ∉ c := by decide) : t.doors = s.doors := h.block .doors hb
theorem SameOutside.calls_eq (h : SameOutside c s t) (hb : Block.calls ∉ c := by decide) : t.calls = s.calls := h.block .calls hb
theorem SameOutside.post_eq (h : SameOutside c s t) (hb : Block.post ∉ c := by decide) : t.post = s.post := h.block .post hb
theorem SameOutside.lamp_eq (h : SameOutside c s t) (hb : Block.lamp ∉ c := by decide) : t.lamp = s.lamp := h.block .lamp hb
theorem SameOutside.line_eq (h : SameOutside c s t) (hb : Block.line ∉ c := by decide) : t.line = s.line := h.block .line hb
theorem SameOutside.counters_eq (h : SameOutside c s t) (hb : Block.counters ∉ c := by decide) : t.counters = s.counters := h.block .counters hb
theorem SameOutside.outputs_eq (h : SameOutside c s t) (hb : Block.outputs ∉ c := by decide) : t.outputs = s.outputs := h.block .outputs hb
theorem SameOutside.freeUsed_eq (h : SameOutside c s t) (hb : Block.freeUsed ∉ c := by decide) : t.freeUsed = s.freeUsed := h.block .freeUsed hb
theorem SameOutside.pending_eq (h : SameOutside c s t) (hb : Block.pending ∉ c := by decide) : t.pending = s.pending := h.block .pending hb

/-! ## One field updated -/

theorem setPower_keeps (s : State) (x : Power) : SameOutside [.power] s (s.setPower x) := by
  intro b; cases b <;> first | exact .inl (by decide) | exact .inr rfl
theorem setLoader_keeps (s : State) (x : Loader) : SameOutside [.loader] s (s.setLoader x) := by
  intro b; cases b <;> first | exact .inl (by decide) | exact .inr rfl
theorem setFront_keeps (s : State) (x : FrontEnd) : SameOutside [.front] s (s.setFront x) := by
  intro b; cases b <;> first | exact .inl (by decide) | exact .inr rfl
theorem setHazard_keeps (s : State) (x : Hazard) : SameOutside [.hazard] s (s.setHazard x) := by
  intro b; cases b <;> first | exact .inl (by decide) | exact .inr rfl
theorem setControl_keeps (s : State) (x : Control) : SameOutside [.control] s (s.setControl x) := by
  intro b; cases b <;> first | exact .inl (by decide) | exact .inr rfl
theorem setPeers_keeps (s : State) (x : PeerTable) : SameOutside [.peers] s (s.setPeers x) := by
  intro b; cases b <;> first | exact .inl (by decide) | exact .inr rfl
theorem setRoute_keeps (s : State) (x : RouteRecord) : SameOutside [.route] s (s.setRoute x) := by
  intro b; cases b <;> first | exact .inl (by decide) | exact .inr rfl
theorem setDoors_keeps (s : State) (x : Doors) : SameOutside [.doors] s (s.setDoors x) := by
  intro b; cases b <;> first | exact .inl (by decide) | exact .inr rfl
theorem setCalls_keeps (s : State) (x : Calls) : SameOutside [.calls] s (s.setCalls x) := by
  intro b; cases b <;> first | exact .inl (by decide) | exact .inr rfl
theorem setPost_keeps (s : State) (x : Post) : SameOutside [.post] s (s.setPost x) := by
  intro b; cases b <;> first | exact .inl (by decide) | exact .inr rfl
theorem setLamp_keeps (s : State) (x : Lamp) : SameOutside [.lamp] s (s.setLamp x) := by
  intro b; cases b <;> first | exact .inl (by decide) | exact .inr rfl
theorem setLine_keeps (s : State) (x : LinePort) : SameOutside [.line] s (s.setLine x) := by
  intro b; cases b <;> first | exact .inl (by decide) | exact .inr rfl
theorem setCounters_keeps (s : State) (x : Counters) : SameOutside [.counters] s (s.setCounters x) := by
  intro b; cases b <;> first | exact .inl (by decide) | exact .inr rfl
theorem setOutputs_keeps (s : State) (x : Outputs) : SameOutside [.outputs] s (s.setOutputs x) := by
  intro b; cases b <;> first | exact .inl (by decide) | exact .inr rfl
theorem setFreeUsed_keeps (s : State) (x : Nat) : SameOutside [.freeUsed] s (s.setFreeUsed x) := by
  intro b; cases b <;> first | exact .inl (by decide) | exact .inr rfl
theorem setPending_keeps (s : State) (x : List Instr) : SameOutside [.pending] s (s.setPending x) := by
  intro b; cases b <;> first | exact .inl (by decide) | exact .inr rfl

/-! ## Machine/Ops.lean -/

variable (s)

theorem countInvalidScan_keeps : SameOutside [.counters] s (countInvalidScan s) := setCounters_keeps s _
theorem countDuplicate_keeps : SameOutside [.counters] s (countDuplicate s) := setCounters_keeps s _
theorem countOverflow_keeps : SameOutside [.counters] s (countOverflow s) := setCounters_keeps s _
theorem countCorrected_keeps : SameOutside [.counters] s (countCorrected s) := setCounters_keeps s _
theorem countDiscardedHeader_keeps : SameOutside [.counters] s (countDiscardedHeader s) := setCounters_keeps s _
theorem countDiscardedFrame_keeps : SameOutside [.counters] s (countDiscardedFrame s) := setCounters_keeps s _
theorem countRefused_keeps : SameOutside [.counters] s (countRefused s) := setCounters_keeps s _
theorem countArbitrationLost_keeps : SameOutside [.counters] s (countArbitrationLost s) := setCounters_keeps s _
theorem countBitError_keeps : SameOutside [.counters] s (countBitError s) := setCounters_keeps s _
theorem countAborted_keeps : SameOutside [.counters] s (countAborted s) := setCounters_keeps s _
theorem countStuck_keeps : SameOutside [.counters] s (countStuck s) := setCounters_keeps s _

theorem placeNew_keeps (f : Frame) : SameOutside [.line] s (placeNew f s) := setLine_keeps s _

theorem queueReplacing_keeps (like : Frame → Bool) (f : Frame) :
    SameOutside [.line, .counters] s (queueReplacing like f s) := by
  unfold queueReplacing
  split
  · exact (setLine_keeps s _).widen (by decide)
  · split
    · exact (placeNew_keeps s f).widen (by decide)
    · split
      · exact (((setLine_keeps s _).then (countRefused_keeps _)).then (placeNew_keeps _ f)).widen (by decide)
      · exact .refl _ s

theorem queueBulletin_keeps : SameOutside [.line, .counters] s (queueBulletin s) :=
  ((setLine_keeps s _).then (queueReplacing_keeps _ _ _)).widen (by decide)

theorem queueNotice_keeps (count : Byte) (n : Notice) : SameOutside [.line, .counters] s (queueNotice count n s) :=
  queueReplacing_keeps s _ _

theorem offerFrame_keeps (f : Frame) : SameOutside [.line, .counters] s (offerFrame f s) :=
  .ite ((countRefused_keeps s).widen (by decide)) ((placeNew_keeps s f).widen (by decide))

theorem requestAlert_keeps : SameOutside [.line] s (requestAlert s) := setLine_keeps s _

theorem startAlert_keeps : SameOutside [.line] s (startAlert s) := setLine_keeps s _

theorem startHead_keeps : SameOutside [.line] s (startHead s) := by
  unfold startHead
  split
  · exact setLine_keeps s _
  · exact .refl _ s

theorem startHeadUnlessTaken_keeps : SameOutside [.line] s (startHeadUnlessTaken s) := by
  unfold startHeadUnlessTaken
  split
  · exact setLine_keeps s _
  · exact (setLine_keeps s _).trans (startHead_keeps _)
  · exact startHead_keeps s

theorem startSending_keeps : SameOutside [.line] s (startSending s) :=
  .ite (.refl _ s) (.ite (startAlert_keeps s) (.ite (startHeadUnlessTaken_keeps s) (.refl _ s)))

theorem startAtIdle_keeps : SameOutside [.line] s (startAtIdle s) :=
  .ite (.refl _ s)
    (.ite (startAlert_keeps s) (.ite (.ite (setLine_keeps s _) (.ite (startHead_keeps s) (.refl _ s))) (.refl _ s)))

theorem countCut_keeps (wire : List Byte) : SameOutside [.counters] s (countCut wire s) :=
  .ite (countCorrected_keeps s) (.refl _ s)

theorem deriveLamps_keeps : SameOutside [.lamp] s (deriveLamps s) := setLamp_keeps s _

theorem decideSound_keeps : SameOutside [.lamp] s (decideSound s) := .ite (.refl _ s) (setLamp_keeps s _)

theorem showOutputs_keeps : SameOutside [.outputs] s (showOutputs s) := setOutputs_keeps s _

theorem settle_keeps : SameOutside [.line, .outputs] s (settle s) :=
  (startSending_keeps s).then (showOutputs_keeps _)

theorem settleAtIdle_keeps : SameOutside [.line, .outputs] s (settleAtIdle s) :=
  (startAtIdle_keeps s).then (showOutputs_keeps _)

/-! ## Machine/Calls.lean -/

theorem announce_keeps (i : Fin 8) : SameOutside [.calls, .line, .counters] s (announce i s) :=
  ((setCalls_keeps s _).then (queueNotice_keeps _ _ _)).widen (by decide)

theorem raiseInto_keeps (i : Fin 8) (src : Source) : SameOutside [.calls, .line, .counters] s (raiseInto i src s) :=
  ((setCalls_keeps s _).then (announce_keeps _ i)).widen (by decide)

theorem setPendingFlag_keeps (src : Source) : SameOutside [.calls] s (setPendingFlag src s) :=
  .ite (.refl _ s) (setCalls_keeps s _)

theorem pendIfAsserted_keeps (src : Option Source) : SameOutside [.calls] s (pendIfAsserted src s) := by
  unfold pendIfAsserted
  split
  · exact .ite (setPendingFlag_keeps s _) (.refl _ s)
  · exact .refl _ s

theorem queueCleared_keeps (i : Fin 8) : SameOutside [.line, .counters] s (queueCleared i s) :=
  queueNotice_keeps s _ _

theorem raiseCall_keeps (src : Source) : SameOutside [.calls, .line, .counters] s (raiseCall src s) := by
  unfold raiseCall
  split
  · exact raiseInto_keeps s _ src
  · split
    · exact (((queueCleared_keeps s _).then (pendIfAsserted_keeps _ _)).then (raiseInto_keeps _ _ src)).widen
        (by decide)
    · exact (setPendingFlag_keeps s src).widen (by decide)

theorem requestCall_keeps (src : Source) : SameOutside [.calls, .line, .counters] s (requestCall src s) :=
  .ite (.refl _ s) (raiseCall_keeps s src)

theorem requestMotion_keeps : SameOutside [.calls, .line, .counters] s (requestMotion s) :=
  .foldl _ (fun s i => .ite (requestCall_keeps s (.input i)) (.refl _ s)) allSix s

theorem servePending_keeps (n : Nat) : SameOutside [.calls, .line, .counters] s (servePending n s) := by
  induction n generalizing s with
  | zero => exact .refl _ s
  | succ n ih =>
    unfold servePending
    split
    · exact (((setCalls_keeps s _).then (raiseInto_keeps _ _ _)).widen (by decide)).trans (ih _)
    · exact .refl _ s

theorem closeSlot_keeps (i : Fin 8) : SameOutside [.calls, .line, .counters] s (closeSlot i s) :=
  ((queueCleared_keeps s i).then (setCalls_keeps _ _)).widen (by decide)

theorem closeSlots_keeps (which : Slot → Bool) : SameOutside [.calls, .line, .counters] s (closeSlots which s) :=
  .foldl _ (fun s i => .ite (closeSlot_keeps s i) (.refl _ s)) allEight s

theorem afterClosing_keeps : SameOutside [.calls, .line, .counters] s (afterClosing s) :=
  (servePending_keeps s 8).trans (requestMotion_keeps _)

theorem dropPending_keeps (which : CallKind → Bool) : SameOutside [.calls] s (dropPending which s) :=
  setCalls_keeps s _

theorem clearGallery_keeps : SameOutside [.calls, .line, .counters] s (clearGallery s) :=
  ((closeSlots_keeps s _).trans ((dropPending_keeps _ _).widen (by decide))).trans (afterClosing_keeps _)

theorem closeFireCalls_keeps : SameOutside [.calls, .line, .counters] s (closeFireCalls s) :=
  ((closeSlots_keeps s _).trans ((dropPending_keeps _ _).widen (by decide))).trans (afterClosing_keeps _)

theorem answerTooLate_keeps (i : Fin 8) (seq : Fin 16) :
    SameOutside [.line, .counters] s (answerTooLate i seq s) :=
  .ite (.refl _ s) (queueNotice_keeps s _ _)

theorem judgeTake_keeps (sender : Station) (i : Fin 8) (seq : Fin 16) :
    SameOutside [.calls, .line, .counters] s (judgeTake sender i seq s) := by
  unfold judgeTake
  dsimp only
  split
  · split
    · exact ((setCalls_keeps s _).then (announce_keeps _ i)).widen (by decide)
    · exact announce_keeps s i
    · exact (answerTooLate_keeps s i seq).widen (by decide)
  · exact (answerTooLate_keeps s i seq).widen (by decide)

theorem judgeCancel_keeps (sender : Station) (i : Fin 8) (seq : Fin 16) :
    SameOutside [.calls, .line, .counters] s (judgeCancel sender i seq s) := by
  unfold judgeCancel
  dsimp only
  split
  · split
    · exact (closeSlot_keeps s i).trans (afterClosing_keeps _)
    · exact announce_keeps s i
  · exact (answerTooLate_keeps s i seq).widen (by decide)

theorem callFrame_keeps (judge : Station → Fin 8 → Fin 16 → State → State)
    (h : ∀ st i q s, SameOutside c s (judge st i q s)) (sender : Station) (slot seq : Fin 16) :
    SameOutside c s (callFrame judge sender slot seq s) := by
  unfold callFrame
  split
  · exact .ite (.refl _ s) (h _ _ _ s)
  · exact .refl _ s

/-! ## Machine/Route.lean -/

theorem computeRouteFrom_keeps (before : Nat) :
    SameOutside [.route, .lamp, .line, .counters] s (computeRouteFrom before s) := by
  unfold computeRouteFrom
  dsimp only
  have h : SameOutside [.route, .lamp, .line, .counters] s (s.setRoute (routeOf s)) :=
    (setRoute_keeps s _).widen (by decide)
  refine h.trans ?_
  generalize s.setRoute (routeOf s) = u
  have k : SameOutside [.route, .lamp, .line, .counters] u
      (if (routeOf s).next = s.route.next then u else deriveLamps u) :=
    .ite (.refl _ u) ((deriveLamps_keeps u).widen (by decide))
  refine k.trans ?_
  generalize (if (routeOf s).next = s.route.next then u else deriveLamps u) = v
  exact .ite (.refl _ v) ((queueBulletin_keeps v).widen (by decide))

theorem computeRoute_keeps : SameOutside [.route, .lamp, .line, .counters] s (computeRoute s) :=
  computeRouteFrom_keeps s _

/-! ## Machine/Doors.lean -/

theorem leafRequests_keeps (n : Fin 4) (old new : Leaf) :
    SameOutside [.calls, .line, .counters] s (leafRequests n old new s) := by
  unfold leafRequests
  dsimp only
  exact (SameOutside.ite (requestCall_keeps s _) (.refl _ s)).trans
    (.ite (requestCall_keeps _ _) (.refl _ _))

theorem setLeaves_keeps (new : Four Leaf) :
    SameOutside [.doors, .calls, .route, .lamp, .line, .counters] s (setLeaves new s) := by
  unfold setLeaves
  dsimp only
  refine SameOutside.trans (t := s.setDoors { s.doors with leaves := new })
    ((setDoors_keeps s _).widen (by decide)) ?_
  have h : ∀ u, SameOutside [.doors, .calls, .route, .lamp, .line, .counters] u
      (allFour.foldl (fun u n => leafRequests n (s.doors.leaves.get n) (new.get n) u) u) :=
    fun u => .foldl _ (fun u n => (leafRequests_keeps u n _ _).widen (by decide)) allFour u
  exact (h _).trans (.ite ((computeRoute_keeps _).widen (by decide)) (.refl _ _))

theorem leafEvent_keeps (n : Fin 4) (act : Leaf → Leaf) :
    SameOutside [.doors, .calls, .route, .lamp, .line, .counters] s (leafEvent n act s) :=
  setLeaves_keeps s _

theorem evaluateMagnets_keeps : SameOutside [.doors] s (evaluateMagnets s) := setDoors_keeps s _

theorem doorsTakePosture_keeps (oldP : Posture) (oldB : Base) :
    SameOutside [.doors, .calls, .route, .lamp, .line, .counters] s (doorsTakePosture oldP oldB s) :=
  setLeaves_keeps s _

/-! ## Machine/Postures.lean -/

theorem setHushed_keeps (b : Bool) : SameOutside [.control, .lamp] s (setHushed b s) :=
  .ite (.refl _ s) ((setControl_keeps s _).then (decideSound_keeps _))

theorem callsTakePosture_keeps (oldP : Posture) :
    SameOutside [.calls, .line, .counters] s (callsTakePosture oldP s) :=
  .ite (requestMotion_keeps s) (.refl _ s)

theorem lampTakePosture_keeps : SameOutside [.lamp] s (lampTakePosture s) :=
  ((setLamp_keeps s _).trans (deriveLamps_keeps _)).trans (decideSound_keeps _)

theorem setPosture_keeps (p : Posture) (b : Base) :
    SameOutside [.control, .doors, .calls, .route, .lamp, .line, .counters] s (setPosture p b s) := by
  unfold setPosture
  dsimp only
  split
  · exact .refl _ s
  · have h := ((setControl_keeps s { s.control with posture := p, base := b }).then
      (doorsTakePosture_keeps _ s.control.posture s.control.base)).widen
      (d := [.control, .doors, .calls, .route, .lamp, .line, .counters]) (by decide)
    refine h.trans ?_
    generalize doorsTakePosture _ _ _ = u
    refine SameOutside.trans (t := if s.control.posture = p then u else
      lampTakePosture (callsTakePosture s.control.posture u)) ?_ ((queueBulletin_keeps _).widen (by decide))
    exact .ite (.refl _ u)
      (((callsTakePosture_keeps u _).then (lampTakePosture_keeps _)).widen (by decide))

/-- The footprint of a posture change. -/
abbrev postureFootprint : List Block := [.control, .doors, .calls, .route, .lamp, .line, .counters]

theorem enterEvacuate_keeps (b : Base) : SameOutside postureFootprint s (enterEvacuate b s) :=
  ((setControl_keeps s _).widen (by decide)).trans (setPosture_keeps _ _ _)

theorem enterEvacuateUnled_keeps : SameOutside postureFootprint s (enterEvacuateUnled s) :=
  .ite (((setControl_keeps s _).widen (by decide)).trans (enterEvacuate_keeps _ _)) (enterEvacuate_keeps s _)

theorem takeAlert_keeps : SameOutside postureFootprint s (takeAlert s) :=
  .ite (.refl _ s) (enterEvacuateUnled_keeps s)

theorem takeHush_keeps : SameOutside [.control, .lamp] s (takeHush s) := .ite (setHushed_keeps s true) (.refl _ s)

theorem makeAlertRequest_keeps : SameOutside [.control, .line] s (makeAlertRequest s) :=
  .ite (.refl _ s) (.ite ((requestAlert_keeps s).widen (by decide)) ((setControl_keeps s _).widen (by decide)))

theorem takeOwnFire_keeps : SameOutside postureFootprint s (takeOwnFire s) := by
  unfold takeOwnFire
  dsimp only
  refine SameOutside.trans ?_ ((makeAlertRequest_keeps _).widen (by decide))
  refine SameOutside.trans ?_ (.ite (.refl _ _) (enterEvacuateUnled_keeps _))
  exact ((setControl_keeps s _).widen (by decide)).trans ((setHushed_keeps _ false).widen (by decide))

/-- The footprint of a change of the zone hazard. -/
abbrev zoneFootprint : List Block := [.hazard, .control, .doors, .calls, .route, .lamp, .line, .counters]

theorem recomputeZone_keeps : SameOutside zoneFootprint s (recomputeZone s) := by
  unfold recomputeZone
  dsimp only
  split
  · exact .refl _ s
  · refine SameOutside.trans ?_ ((evaluateMagnets_keeps _).widen (by decide))
    refine SameOutside.trans ?_ ((computeRouteFrom_keeps _ _).widen (by decide))
    refine SameOutside.trans ?_ (.ite ((takeOwnFire_keeps _).widen (by decide)) (.refl _ _))
    exact ((setHazard_keeps s _).widen (by decide)).trans ((queueBulletin_keeps _).widen (by decide))

theorem evaluateBlind_keeps : SameOutside [.hazard, .line, .counters] s (evaluateBlind s) := by
  unfold evaluateBlind
  dsimp only
  exact .ite (.refl _ s) ((setHazard_keeps s _).then (queueBulletin_keeps _))

theorem restoreHazard_keeps : SameOutside zoneFootprint s (restoreHazard s) :=
  ((setHazard_keeps s _).widen (by decide)).trans (recomputeZone_keeps _)

theorem acceptRestore_keeps : SameOutside zoneFootprint s (acceptRestore s) := by
  unfold acceptRestore
  dsimp only
  refine SameOutside.trans ?_ ((setPosture_keeps _ _ _).widen (by decide))
  refine SameOutside.trans ?_ ((setControl_keeps _ _).widen (by decide))
  exact (restoreHazard_keeps s).trans ((closeFireCalls_keeps _).widen (by decide))

theorem takeRestore_keeps : SameOutside zoneFootprint s (takeRestore s) :=
  .ite (.ite (acceptRestore_keeps s) (.ite ((queueBulletin_keeps s).widen (by decide)) (.refl _ s))) (.refl _ s)

theorem takeBaseOrder_keeps (b : Base) : SameOutside postureFootprint s (takeBaseOrder b s) :=
  .ite (((setControl_keeps s _).widen (by decide)).trans (setPosture_keeps _ _ _))
    (((setControl_keeps s _).widen (by decide)).trans (setPosture_keeps _ _ _))

theorem takeOrder_keeps (o : Order) : SameOutside zoneFootprint s (takeOrder o s) := by
  cases o with
  | day => exact (takeBaseOrder_keeps s .day).widen (by decide)
  | night => exact (takeBaseOrder_keeps s .night).widen (by decide)
  | restore => exact takeRestore_keeps s

theorem takeBase_keeps (b : Bulletin) : SameOutside postureFootprint s (takeBase b s) := by
  unfold takeBase
  split
  · exact .ite (((setControl_keeps s _).widen (by decide)).trans (setPosture_keeps _ _ _)) (.refl _ s)
  · exact .refl _ s

theorem enterFromFireBulletin_keeps (b : Bulletin) :
    SameOutside postureFootprint s (enterFromFireBulletin b s) := by
  unfold enterFromFireBulletin
  split
  · exact enterEvacuate_keeps s _
  · exact enterEvacuateUnled_keeps s

theorem takeFireBulletin_keeps (source : Station) (b : Bulletin) :
    SameOutside postureFootprint s (takeFireBulletin source b s) := by
  unfold takeFireBulletin
  dsimp only
  have h : SameOutside postureFootprint s
      (if s.control.fireSet.contains source then s
        else setHushed false (s.setControl { s.control with fireSet := joinFireSet source s.control.fireSet })) :=
    .ite (.refl _ s) (((setControl_keeps s _).widen (by decide)).trans ((setHushed_keeps _ false).widen (by decide)))
  refine h.trans ?_
  generalize (if s.control.fireSet.contains source then s
        else setHushed false (s.setControl { s.control with fireSet := joinFireSet source s.control.fireSet })) = u
  split
  · exact takeBase_keeps u b
  · exact enterFromFireBulletin_keeps u b
  · exact enterEvacuate_keeps u _

theorem adopt_keeps (b : Bulletin) : SameOutside postureFootprint s (adopt b s) := by
  unfold adopt
  split
  · exact .refl _ s
  · exact ((setControl_keeps s _).widen (by decide)).trans (setPosture_keeps _ _ _)
  · exact ((setControl_keeps s _).widen (by decide)).trans (setPosture_keeps _ _ _)
  · exact enterEvacuate_keeps s _

theorem takeOrdinaryBulletin_keeps (source : Station) (b : Bulletin) :
    SameOutside postureFootprint s (takeOrdinaryBulletin source b s) := by
  unfold takeOrdinaryBulletin
  dsimp only
  refine SameOutside.trans
    (t := s.setControl { s.control with fireSet := leaveFireSet source s.control.fireSet })
    ((setControl_keeps s _).widen (by decide)) ?_
  generalize s.setControl _ = u
  split
  · exact adopt_keeps u b
  · exact takeBase_keeps u b

theorem controlTakeBulletin_keeps (source : Station) (b : Bulletin) :
    SameOutside postureFootprint s (controlTakeBulletin source b s) :=
  .ite (.refl _ s) (.ite (takeFireBulletin_keeps s source b) (takeOrdinaryBulletin_keeps s source b))

theorem takeFirePress_keeps (i : Fin 6) : SameOutside zoneFootprint s (takeFirePress i s) := by
  unfold takeFirePress
  dsimp only
  split
  · refine SameOutside.trans ?_ ((requestCall_keeps _ _).widen (by decide))
    refine SameOutside.trans ?_ (recomputeZone_keeps _)
    exact ((setCalls_keeps s _).widen (by decide)).trans ((setHazard_keeps _ _).widen (by decide))
  · exact .refl _ s

/-! ## Machine/Peers.lean -/

theorem updateEntry_keeps (j : Fin 8) (old : Entry) (b : Bulletin) :
    SameOutside [.peers, .doors, .route, .lamp, .line, .counters] s (updateEntry j old b s) := by
  unfold updateEntry
  dsimp only
  have h : SameOutside [.peers, .doors, .route, .lamp, .line, .counters] s
      (computeRoute (s.setEntry j (old.refreshed b))) :=
    ((setPeers_keeps s _).widen (by decide)).trans ((computeRoute_keeps _).widen (by decide))
  refine h.trans ?_
  exact .ite ((evaluateMagnets_keeps _).widen (by decide)) (.refl _ _)

theorem takeForeign_keeps : SameOutside [.peers, .calls, .line, .counters] s (takeForeign s) := by
  unfold takeForeign
  dsimp only
  have h : SameOutside [.peers, .calls, .line, .counters] s
      (countDuplicate (s.setPeers { s.peers with duplicate := true, duplicateTimer := some 0 })) :=
    ((setPeers_keeps s _).then (countDuplicate_keeps _)).widen (by decide)
  refine h.trans ?_
  refine .ite (.refl _ _) ?_
  exact ((requestCall_keeps _ _).widen (by decide)).trans ((queueBulletin_keeps _).widen (by decide))

theorem peersTakeBulletin_keeps (source : Station) (b : Bulletin) :
    SameOutside [.peers, .doors, .calls, .route, .lamp, .line, .counters] s (peersTakeBulletin source b s) := by
  unfold peersTakeBulletin
  split
  · exact .refl _ s
  · split
    · exact (takeForeign_keeps s).widen (by decide)
    · split
      · split
        · exact (updateEntry_keeps s _ _ b).widen (by decide)
        · exact .refl _ s
      · exact .refl _ s

theorem ageEntry_keeps (j : Fin 8) (before after : EntryStatus) (limit : Nat) :
    SameOutside [.peers, .route, .lamp, .line, .counters] s (ageEntry j before after limit s) := by
  unfold ageEntry
  split
  · exact .ite (((setPeers_keeps s _).widen (by decide)).trans ((computeRoute_keeps _).widen (by decide)))
      (.refl _ s)
  · exact .refl _ s

/-! ## Machine/PostUnit.lean -/

theorem setBoard_keeps (board : List BoardEntry) : SameOutside [.post] s (setBoard board s) := setPost_keeps s _

theorem startHelpChime_keeps (e : BoardEntry) : SameOutside [.post] s (startHelpChime e s) :=
  .ite (setPost_keeps s _) (.refl _ s)

theorem joinFull_keeps (e : BoardEntry) : SameOutside [.post, .counters] s (joinFull e s) := by
  unfold joinFull
  split
  · exact ((setBoard_keeps s _).trans (startHelpChime_keeps _ e)).widen (by decide)
  · exact (setPost_keeps s _).then (countOverflow_keeps _)

theorem boardTake_keeps (source : Station) (kind : CallKind) (n : Notice) :
    SameOutside [.post, .counters] s (boardTake source kind n s) := by
  unfold boardTake
  dsimp only
  split
  · exact .ite ((setBoard_keeps s _).widen (by decide))
      (((setBoard_keeps s _).trans (startHelpChime_keeps _ _)).widen (by decide))
  · exact .ite (((setBoard_keeps s _).trans (startHelpChime_keeps _ _)).widen (by decide)) (joinFull_keeps s _)

theorem takeNotice_keeps (source : Station) (n : Notice) :
    SameOutside [.post, .lamp, .counters] s (takeNotice source n s) := by
  unfold takeNotice
  split
  · exact .refl _ s
  · split
    · exact ((setBoard_keeps s _).then (decideSound_keeps _)).widen (by decide)
    · exact ((boardTake_keeps s source _ n).then (decideSound_keeps _)).widen (by decide)
    · exact .refl _ s

theorem startBlink_keeps : SameOutside [.post] s (startBlink s) := setPost_keeps s _

theorem askLine_keeps (f : Frame) : SameOutside [.post, .line, .counters] s (askLine f s) :=
  .ite (((offerFrame_keeps s f).then (startBlink_keeps _)).widen (by decide))
    ((offerFrame_keeps s f).widen (by decide))

theorem takeKey_keeps : SameOutside [.post, .line, .counters] s (takeKey s) := by
  unfold takeKey
  dsimp only
  split
  · exact .ite
      (.ite (askLine_keeps s _) ((askLine_keeps s _).trans ((setPost_keeps _ _).widen (by decide))))
      ((startBlink_keeps s).widen (by decide))
  · exact (startBlink_keeps s).widen (by decide)

theorem removeSilent_keeps (e : BoardEntry) : SameOutside [.post, .lamp] s (removeSilent e s) :=
  .ite ((setBoard_keeps s _).then (decideSound_keeps _)) (.refl _ s)

theorem cancelKey_keeps : SameOutside [.post, .lamp, .line, .counters] s (cancelKey s) := by
  unfold cancelKey
  split
  · have h : ∀ f : Frame, SameOutside [.post, .lamp, .line, .counters] s
        (if strapped s then askLine f s else startBlink s) :=
      fun f => .ite ((askLine_keeps s f).widen (by decide)) ((startBlink_keeps s).widen (by decide))
    exact (h _).trans ((removeSilent_keeps _ _).widen (by decide))
  · exact (startBlink_keeps s).widen (by decide)

theorem commandKey_keeps (act : State → State) (h : SameOutside [.post, .line, .counters] s (act s)) :
    SameOutside [.post, .line, .counters] s (commandKey act s) :=
  .ite h ((startBlink_keeps s).widen (by decide))

theorem keyAct_keeps (k : Key) : SameOutside [.post, .lamp, .line, .counters] s (keyAct k s) := by
  cases k with
  | take => exact (takeKey_keeps s).widen (by decide)
  | next => exact (setPost_keeps s _).widen (by decide)
  | cancel => exact cancelKey_keeps s
  | hush => exact (commandKey_keeps s _ ((setLine_keeps s _).widen (by decide))).widen (by decide)
  | day => exact (commandKey_keeps s _ (askLine_keeps s _)).widen (by decide)
  | night => exact (commandKey_keeps s _ (askLine_keeps s _)).widen (by decide)
  | restore => exact (commandKey_keeps s _ (askLine_keeps s _)).widen (by decide)
  | test => exact ((setLamp_keeps s _).trans (decideSound_keeps _)).widen (by decide)
  | unused => exact .refl _ s

theorem acceptKey_keeps (k : Key) : SameOutside [.post, .lamp, .line, .counters] s (acceptKey k s) :=
  ((setPost_keeps s _).widen (by decide)).trans (keyAct_keeps _ k)

theorem takeKeyUp_keeps (k : Key) : SameOutside [.post, .lamp, .line, .counters] s (takeKeyUp k s) := by
  unfold takeKeyUp
  dsimp only
  split
  · have h : ∀ p : Post, SameOutside [.post, .lamp, .line, .counters] s (s.setPost p) :=
      fun p => (setPost_keeps s p).widen (by decide)
    split
    · split
      · exact h _
      · split
        · exact ((h _).trans ((setPost_keeps _ _).widen (by decide))).trans (acceptKey_keeps _ k)
        · exact h _
      · exact .ite ((h _).trans ((setPost_keeps _ _).widen (by decide))) (h _)
    · exact h _
  · exact .refl _ s

/-! ## Machine/Survey.lean, Machine/Frames.lean and Machine/Line.lean -/

theorem spendFree_keeps (area index : Fin 16) : SameOutside [.freeUsed] s (spendFree area index s) := by
  unfold spendFree
  repeat' split
  all_goals first | exact .refl _ s | exact setFreeUsed_keeps s _

theorem answerSurvey_keeps (area index : Fin 16) :
    SameOutside [.line, .counters, .freeUsed] s (answerSurvey area index s) :=
  (offerFrame_keeps s _).then (spendFree_keeps _ area index)

theorem setReceiver_keeps (r : Receiver) : SameOutside [.line] s (s.setReceiver r) := setLine_keeps s _

theorem endFrame_keeps (corrected : Bool) : SameOutside [.line, .counters] s (endFrame corrected s) :=
  .ite ((setReceiver_keeps s _).then (countCorrected_keeps _)) ((setReceiver_keeps s _).widen (by decide))

theorem handTake_keeps (source : Station) (target : Byte) (slot seq : Fin 16) :
    SameOutside [.calls, .line, .counters] s (handTake source target slot seq s) :=
  .ite (callFrame_keeps s _ (fun st i q s => judgeTake_keeps s st i q) source slot seq) (.refl _ s)

theorem handCancel_keeps (source : Station) (target : Byte) (slot seq : Fin 16) :
    SameOutside [.calls, .line, .counters] s (handCancel source target slot seq s) :=
  .ite (callFrame_keeps s _ (fun st i q s => judgeCancel_keeps s st i q) source slot seq) (.refl _ s)

theorem handRequest_keeps (target : Byte) (area index : Fin 16) :
    SameOutside [.line, .counters, .freeUsed] s (handRequest target area index s) :=
  .ite (answerSurvey_keeps s area index) (.refl _ s)

theorem handBulletin_keeps (source : Station) (b : Bulletin) :
    SameOutside [.control, .peers, .doors, .calls, .route, .lamp, .line, .counters] s (handBulletin source b s) :=
  ((peersTakeBulletin_keeps s source b).widen (by decide)).trans
    ((controlTakeBulletin_keeps _ source b).widen (by decide))

theorem dropOwnFrame_keeps : SameOutside [.line] s (dropOwnFrame s) := setLine_keeps s _

theorem clearLineFault_keeps : SameOutside [.calls, .line, .counters] s (clearLineFault s) := by
  unfold clearLineFault
  dsimp only
  refine SameOutside.trans ?_ ((setLine_keeps _ _).widen (by decide))
  refine SameOutside.trans ?_ ((queueBulletin_keeps _).widen (by decide))
  exact ((setLine_keeps s _).widen (by decide)).trans (requestCall_keeps _ _)

theorem takeIdle_keeps : SameOutside [.calls, .line, .counters] s (takeIdle s) := by
  unfold takeIdle
  dsimp only
  split
  all_goals first
    | exact .refl _ s
    | exact ((setReceiver_keeps s _).widen (by decide)).trans (.ite (clearLineFault_keeps _) (.refl _ _))

theorem handCompletion_keeps (f : Frame) :
    SameOutside [.hazard, .control, .doors, .calls, .route, .post, .lamp, .line, .counters] s
      (handCompletion f s) := by
  unfold handCompletion
  dsimp only
  split
  · exact (setLine_keeps s _).widen (by decide)
  · exact (takeOrder_keeps s _).widen (by decide)
  · exact (handTake_keeps s _ _ _ _).widen (by decide)
  · exact (handCancel_keeps s _ _ _ _).widen (by decide)
  · exact (takeNotice_keeps s _ _).widen (by decide)
  · exact .refl _ s
  · exact .refl _ s

/-! ## Machine/Scans.lean and Machine/Loading.lean -/

theorem headRequests_keeps (k : Fin 4) (old new : Head) :
    SameOutside [.calls, .line, .counters] s (headRequests k old new s) := by
  unfold headRequests
  dsimp only
  refine SameOutside.trans ?_ (.ite ((queueBulletin_keeps _).widen (by decide)) (.refl _ _))
  refine SameOutside.trans ?_ (.ite (requestCall_keeps _ _) (.refl _ _))
  exact (SameOutside.ite (requestCall_keeps s _) (.refl _ s)).trans (.ite (requestCall_keeps _ _) (.refl _ _))

theorem stepHead_keeps (readings : Four HeadReading) (k : Fin 4) :
    SameOutside [.hazard, .calls, .line, .counters] s (stepHead readings s k) := by
  unfold stepHead
  split
  · exact ((setHazard_keeps s _).widen (by decide)).trans ((headRequests_keeps _ k _ _).widen (by decide))
  · exact .refl _ s

theorem changeHeads_keeps (new : Four (Option Head)) : SameOutside zoneFootprint s (changeHeads new s) := by
  unfold changeHeads
  dsimp only
  refine SameOutside.trans ?_ ((evaluateBlind_keeps _).widen (by decide))
  refine SameOutside.trans ?_ (recomputeZone_keeps _)
  refine SameOutside.trans
    (t := s.setHazard
      { s.hazard with heads := new, manualFire := s.hazard.manualFire || fireRemoved s.hazard.heads new })
    ((setHazard_keeps s _).widen (by decide)) ?_
  exact .ite (.refl _ _) ((queueBulletin_keeps _).widen (by decide))

/-- The footprint of a scan's start or result. -/
abbrev scanFootprint : List Block := [.front, .hazard, .control, .doors, .calls, .route, .lamp, .line, .counters]

theorem beginScan_keeps (warmUp : Bool) : SameOutside [.front, .lamp] s (beginScan warmUp s) :=
  (setFront_keeps s _).then (setLamp_keeps _ _)

theorem startScan_keeps (warmUp : Bool) (present : BitVec 4) :
    SameOutside scanFootprint s (startScan warmUp present s) := by
  unfold startScan
  dsimp only
  refine SameOutside.trans (t := beginScan warmUp s) ((beginScan_keeps s warmUp).widen (by decide)) ?_
  exact .ite ((changeHeads_keeps _ _).widen (by decide)) (.refl _ _)

theorem takeInvalidScan_keeps : SameOutside scanFootprint s (takeInvalidScan s) := by
  unfold takeInvalidScan
  dsimp only
  have h : ∀ x, SameOutside scanFootprint s (countInvalidScan (s.setFront x)) :=
    fun x => ((setFront_keeps s x).then (countInvalidScan_keeps _)).widen (by decide)
  refine (h _).trans (.ite ?_ (.refl _ _))
  unfold setFrontEndFault
  dsimp only
  refine SameOutside.trans ?_ ((recomputeZone_keeps _).widen (by decide))
  refine SameOutside.trans ?_ ((queueBulletin_keeps _).widen (by decide))
  refine SameOutside.trans ?_ ((requestCall_keeps _ _).widen (by decide))
  exact ((setFront_keeps _ _).widen (by decide)).trans ((setHazard_keeps _ _).widen (by decide))

theorem chainRequests_keeps (src : Source) (old new : Chain) :
    SameOutside [.calls, .line, .counters] s (chainRequests src old new s) := by
  unfold chainRequests
  dsimp only
  exact (SameOutside.ite (requestCall_keeps s _) (.refl _ s)).trans
    (.ite ((queueBulletin_keeps _).widen (by decide)) (.refl _ _))

theorem takeChains_keeps (shown : Lamp) (r : ScanReadings) :
    SameOutside [.calls, .lamp, .line, .counters] s (takeChains shown r s) := by
  unfold takeChains
  dsimp only
  refine SameOutside.trans ?_ ((chainRequests_keeps _ _ _ _).widen (by decide))
  refine SameOutside.trans ?_ ((setLamp_keeps _ _).widen (by decide))
  refine SameOutside.trans ?_ ((chainRequests_keeps _ _ _ _).widen (by decide))
  refine SameOutside.trans ?_ ((setLamp_keeps _ _).widen (by decide))
  exact ((setLamp_keeps s _).widen (by decide)).trans ((chainRequests_keeps _ _ _ _).widen (by decide))

theorem takeValidScan_keeps (r : ScanReadings) : SameOutside scanFootprint s (takeValidScan r s) := by
  unfold takeValidScan
  dsimp only
  refine SameOutside.trans ?_ ((takeChains_keeps _ s.lamp r).widen (by decide))
  refine SameOutside.trans ?_ ((evaluateBlind_keeps _).widen (by decide))
  refine SameOutside.trans ?_ ((recomputeZone_keeps _).widen (by decide))
  refine SameOutside.trans ?_ (.foldl _ (fun s k => (stepHead_keeps s r.heads k).widen (by decide)) _ _)
  refine SameOutside.trans ?_ ((setFront_keeps _ _).widen (by decide))
  refine SameOutside.trans (t := s.setFront { s.front with invalidRun := 0 })
    ((setFront_keeps s _).widen (by decide)) ?_
  unfold clearFrontEndFault
  dsimp only
  refine .ite ?_ (.refl _ _)
  refine SameOutside.trans ?_ ((queueBulletin_keeps _).widen (by decide))
  exact ((setFront_keeps _ _).widen (by decide)).trans ((setHazard_keeps _ _).widen (by decide))

theorem takeResult_keeps (scan : Scan) (r : ScanReadings) : SameOutside scanFootprint s (takeResult scan r s) :=
  .ite (.refl _ s) (.ite (takeValidScan_keeps s r) (takeInvalidScan_keeps s))

theorem takeScan_keeps (r : ScanReadings) (present : BitVec 4) :
    SameOutside scanFootprint s (takeScan r present s) := by
  unfold takeScan
  dsimp only
  split
  · refine SameOutside.trans ?_ (.ite (startScan_keeps _ _ _) (.refl _ _))
    exact ((setFront_keeps s _).widen (by decide)).trans (takeResult_keeps _ _ r)
  · exact .refl _ s

/-! ## How a command ends -/

/-- What a command of a running station may change: its work's footprint, the line port, the pins. -/
theorem whileRunning_changes {work : State → State} (h : SameOutside c s (work s))
    (sub : ∀ b, b ∈ c ++ [.line, .outputs] → b ∈ d) : ∃ t, whileRunning work s = .next t ∧ SameOutside d s t := by
  unfold whileRunning
  split
  · exact ⟨_, rfl, (h.then (settle_keeps _)).widen sub⟩
  · exact ⟨_, rfl, .refl _ s⟩

/-- The same for a command that stays clear of the line port. -/
theorem whileRunningLocal_changes {work : State → State} (h : SameOutside c s (work s))
    (sub : ∀ b, b ∈ c ++ [.outputs] → b ∈ d) : ∃ t, whileRunningLocal work s = .next t ∧ SameOutside d s t := by
  unfold whileRunningLocal
  split
  · exact ⟨_, rfl, (h.then (showOutputs_keeps _)).widen sub⟩
  · exact ⟨_, rfl, .refl _ s⟩

end Sys2Proof.Machine
end

