-- ==== Sys2Proof/Laws/Ops.lean ====
section
/-! SUPPORT. What each shared operation of Machine/Ops.lean and Machine/Calls.lean can do, said once: the
transmit queue, the start of frames and triggers, the turn of the strip, and how a command ends. -/

namespace Sys2Proof.Machine

variable {c d : List Block} (s : State)

/-! ## How a command ends -/

@[simp] theorem settle_power : (settle s).power = s.power := (settle_keeps s).power_eq
@[simp] theorem settle_loader : (settle s).loader = s.loader := (settle_keeps s).loader_eq
@[simp] theorem settle_front : (settle s).front = s.front := (settle_keeps s).front_eq
@[simp] theorem settle_hazard : (settle s).hazard = s.hazard := (settle_keeps s).hazard_eq
@[simp] theorem settle_control : (settle s).control = s.control := (settle_keeps s).control_eq
@[simp] theorem settle_peers : (settle s).peers = s.peers := (settle_keeps s).peers_eq
@[simp] theorem settle_route : (settle s).route = s.route := (settle_keeps s).route_eq
@[simp] theorem settle_doors : (settle s).doors = s.doors := (settle_keeps s).doors_eq
@[simp] theorem settle_calls : (settle s).calls = s.calls := (settle_keeps s).calls_eq
@[simp] theorem settle_post : (settle s).post = s.post := (settle_keeps s).post_eq
@[simp] theorem settle_lamp : (settle s).lamp = s.lamp := (settle_keeps s).lamp_eq
@[simp] theorem settle_counters : (settle s).counters = s.counters := (settle_keeps s).counters_eq
@[simp] theorem settle_freeUsed : (settle s).freeUsed = s.freeUsed := (settle_keeps s).freeUsed_eq
@[simp] theorem settle_pending : (settle s).pending = s.pending := (settle_keeps s).pending_eq

@[simp] theorem settle_line : (settle s).line = (startSending s).line := rfl

theorem settle_outputs : (settle s).outputs = outputsOf (startSending s) := rfl

theorem whileRunning_next {work : State → State} (h : s.power = .running) :
    whileRunning work s = .next (settle (work s)) := if_pos h

theorem whileRunningLocal_next {work : State → State} (h : s.power = .running) :
    whileRunningLocal work s = .next (showOutputs (work s)) := if_pos h

/-- A command of a running station changes its work's footprint, the line port and the pins, and what holds
of its settled work holds of the state it answers. -/
theorem whileRunning_answers {work : State → State} {p : State → Prop} {s : State} (h : s.power = .running)
    (k : SameOutside c s (work s)) (sub : ∀ b, b ∈ c ++ [.line, .outputs] → b ∈ d) (hp : p (settle (work s))) :
    ∃ t, whileRunning work s = .next t ∧ SameOutside d s t ∧ p t :=
  ⟨_, whileRunning_next s h, (k.then (settle_keeps _)).widen sub, hp⟩

/-- The same for a command that stays clear of the line port. -/
theorem whileRunningLocal_answers {work : State → State} {p : State → Prop} {s : State} (h : s.power = .running)
    (k : SameOutside c s (work s)) (sub : ∀ b, b ∈ c ++ [.outputs] → b ∈ d) (hp : p (showOutputs (work s))) :
    ∃ t, whileRunningLocal work s = .next t ∧ SameOutside d s t ∧ p t :=
  ⟨_, whileRunningLocal_next s h, (k.then (showOutputs_keeps _)).widen sub, hp⟩

/-! ## What the line port starts (R167, R171) -/

/-- With the receiver neither Quiet nor waiting for a code, only a held Alert is started, where nothing of the
station's own is in its way. -/
theorem startSending_line_busy {s : State} (h : s.line.receiver = .frame ∨ s.line.receiver = .discard ∨ s.line.receiver = .stuck) :
    (startSending s).line =
      if s.line.fault = false ∧ s.line.alertHeld = true ∧ alertMayCross s.line = true then
        { s.line with driving := some .alert }
      else s.line := by
  rcases h with h | h | h <;>
  · unfold startSending startAlert alertStarts lineFree
    by_cases hf : s.line.fault = true <;> by_cases ha : s.line.alertHeld = true <;>
      by_cases hm : alertMayCross s.line = true <;> simp_all [Receiver.ownStart]

/-- With the receiver in Break or Code wait nothing is started. -/
theorem startSending_line_code {s : State} (h : s.line.receiver = .brk ∨ s.line.receiver = .codeWait) :
    (startSending s).line = s.line := by
  rcases h with h | h <;> simp [startSending, alertStarts, lineFree, h]

/-- On a line that has been Idle, with nothing held, the head entry is all that may be started (R167). -/
theorem startSending_line_quiet {s : State} (ha : s.line.alertHeld = false) :
    (startSending s).line =
      if s.line.fault = false ∧ lineFree s.line = true ∧ hasToSend s = true then (startHeadUnlessTaken s).line
      else s.line := by
  unfold startSending alertStarts
  by_cases hf : s.line.fault = true <;> simp_all
  split <;> rfl

/-- The head entry goes on the line, and nothing but its in-flight mark changes in the queue (R163, R167). -/
theorem startHead_line {s : State} {e : QueueEntry} {rest : List QueueEntry} (h : s.line.queue = e :: rest) :
    (startHead s).line =
      { s.line with queue := { e with inFlight := true } :: rest, onLine := some e.frame, receiver := .frame } := by
  simp [startHead, h]

/-- What the start of the head entry may change of the line port. -/
theorem startHead_line_eqs : (startHead s).line.queue.map (·.frame) = s.line.queue.map (·.frame)
    ∧ (startHead s).line.alertHeld = s.line.alertHeld
    ∧ (startHead s).line.hushPending = s.line.hushPending ∧ (startHead s).line.refresh = s.line.refresh
    ∧ (startHead s).line.bulletins = s.line.bulletins ∧ (startHead s).line.fault = s.line.fault
    ∧ (startHead s).line.placed = s.line.placed ∧ (startHead s).line.driving = s.line.driving
    ∧ (startHead s).line.startBits = s.line.startBits := by
  unfold startHead
  split <;> simp_all

/-- The same where another station may have been first. -/
theorem startHeadUnlessTaken_line_eqs :
    (startHeadUnlessTaken s).line.queue.map (·.frame) = s.line.queue.map (·.frame)
    ∧ (startHeadUnlessTaken s).line.alertHeld = s.line.alertHeld
    ∧ (startHeadUnlessTaken s).line.hushPending = s.line.hushPending
    ∧ (startHeadUnlessTaken s).line.refresh = s.line.refresh
    ∧ (startHeadUnlessTaken s).line.bulletins = s.line.bulletins
    ∧ (startHeadUnlessTaken s).line.fault = s.line.fault
    ∧ (startHeadUnlessTaken s).line.placed = s.line.placed
    ∧ (startHeadUnlessTaken s).line.driving = s.line.driving
    ∧ (startHeadUnlessTaken s).line.startBits = s.line.startBits.tail := by
  unfold startHeadUnlessTaken
  split
  · next rest h => simp [h]
  · next rest h =>
    have := startHead_line_eqs (s.setLine { s.line with startBits := rest })
    simpa [h] using this
  · next h => simpa [h] using startHead_line_eqs s

/-- Whatever is started, what waits in the queue waits on, in the same order. -/
theorem startSending_frames : (startSending s).line.queue.map (·.frame) = s.line.queue.map (·.frame) := by
  unfold startSending
  repeat' split
  all_goals first | rfl | exact (startHeadUnlessTaken_line_eqs s).1

/-- The same where the line has come Idle. -/
theorem startAtIdle_frames : (startAtIdle s).line.queue.map (·.frame) = s.line.queue.map (·.frame) := by
  unfold startAtIdle
  repeat' split
  all_goals first | rfl | exact (startHead_line_eqs s).1

theorem startSending_line_eqs : (startSending s).line.alertHeld = s.line.alertHeld
    ∧ (startSending s).line.hushPending = s.line.hushPending ∧ (startSending s).line.refresh = s.line.refresh
    ∧ (startSending s).line.bulletins = s.line.bulletins ∧ (startSending s).line.fault = s.line.fault
    ∧ (startSending s).line.placed = s.line.placed := by
  have h := startHeadUnlessTaken_line_eqs s
  unfold startSending
  repeat' split
  all_goals first | exact ⟨rfl, rfl, rfl, rfl, rfl, rfl⟩ | exact ⟨h.2.1, h.2.2.1, h.2.2.2.1, h.2.2.2.2.1, h.2.2.2.2.2.1, h.2.2.2.2.2.2.1⟩

theorem startAtIdle_line_eqs : (startAtIdle s).line.alertHeld = s.line.alertHeld
    ∧ (startAtIdle s).line.hushPending = s.line.hushPending ∧ (startAtIdle s).line.refresh = s.line.refresh
    ∧ (startAtIdle s).line.bulletins = s.line.bulletins ∧ (startAtIdle s).line.fault = s.line.fault
    ∧ (startAtIdle s).line.placed = s.line.placed ∧ (startAtIdle s).line.startBits = s.line.startBits := by
  have h := startHead_line_eqs s
  unfold startAtIdle
  repeat' split
  all_goals first
    | exact ⟨rfl, rfl, rfl, rfl, rfl, rfl, rfl⟩
    | exact ⟨h.2.1, h.2.2.1, h.2.2.2.1, h.2.2.2.2.1, h.2.2.2.2.2.1, h.2.2.2.2.2.2.1, h.2.2.2.2.2.2.2.2⟩

/-- The start of a command other than LINE_IDLE begins no Hush (R140, R171). -/
theorem startSending_no_hush (h : (startSending s).line.driving = some .hush) : s.line.driving = some .hush := by
  unfold startSending at h
  repeat' split at h
  all_goals first
    | exact h
    | (simp [startAlert] at h)
    | exact (startHeadUnlessTaken_line_eqs s).2.2.2.2.2.2.2.1 ▸ h

/-! ## Frames that are cut (R160, R161) -/

/-- A cut frame advances the corrected-header counter, or nothing. -/
theorem countCut_counters (wire : List Byte) :
    (countCut wire s).counters = headerCounted (receiving s && cutCorrected wire) s.counters := by
  unfold countCut headerCounted
  split <;> rfl

@[simp] theorem countCut_line (wire : List Byte) : (countCut wire s).line = s.line := (countCut_keeps s wire).line_eq

/-! ## The transmit queue (R163, R164) -/

/-- A new entry joins the queue, which keeps all it had. -/
theorem insertEntry_perm (e : QueueEntry) (q : List QueueEntry) : (insertEntry e q).Perm (e :: q) := by
  induction q with
  | nil => exact .refl _
  | cons f rest ih =>
    unfold insertEntry
    split
    · exact .refl _
    · exact (ih.cons f).trans (.swap e f rest)

theorem mem_insertEntry {e f : QueueEntry} {q : List QueueEntry} : f ∈ insertEntry e q ↔ f = e ∨ f ∈ q := by
  rw [(insertEntry_perm e q).mem_iff, List.mem_cons]

/-- A queued bulletin or notice leaves the rest of the line port alone. -/
theorem queueReplacing_line_eqs (like : Frame → Bool) (f : Frame) :
    (queueReplacing like f s).line.receiver = s.line.receiver ∧ (queueReplacing like f s).line.onLine = s.line.onLine
    ∧ (queueReplacing like f s).line.driving = s.line.driving
    ∧ (queueReplacing like f s).line.alertHeld = s.line.alertHeld
    ∧ (queueReplacing like f s).line.hushPending = s.line.hushPending
    ∧ (queueReplacing like f s).line.refresh = s.line.refresh
    ∧ (queueReplacing like f s).line.bulletins = s.line.bulletins
    ∧ (queueReplacing like f s).line.fault = s.line.fault := by
  unfold queueReplacing placeNew countRefused
  repeat' split
  all_goals simp

/-- Where the queue has room or holds an entry of the like, the frame asked for waits in it. -/
theorem queueReplacing_waits {s : State} {like : Frame → Bool} {f : Frame}
    (h : HasRoom s ∨ Waits s (fun g => like g = true)) : Waits (queueReplacing like f s) (fun g => g = f) := by
  unfold queueReplacing
  split
  · exact ⟨_, by simp [mem_insertEntry]; exact .inl rfl, rfl⟩
  · next hn =>
    have room : HasRoom s := h.resolve_right (by
      rintro ⟨e, he, hl⟩
      exact absurd hl (by simpa using List.find?_eq_none.1 hn e he))
    rw [if_pos (show s.line.queue.length < Config.queueLimit from room)]
    exact ⟨_, by simp [placeNew, mem_insertEntry]; exact .inl rfl, rfl⟩

/-- A bulletin queued now shows what the station now is (R163, R166). -/
theorem queueBulletin_waits {s : State} (h : HasRoom s ∨ Waits s (fun f => f.isBulletin = true)) :
    Waits (queueBulletin s)
      (fun f => f = .bulletin (s.hazard.zone == .fire) (s.line.bulletins + 1) (captureBulletin s)) :=
  queueReplacing_waits (s := s.setLine { s.line with bulletins := s.line.bulletins + 1 }) h

/-! ## The strip and what it showed (R144, R153) -/

/-- The driver's turn changes nothing of the new state but the record of what the strip showed. -/
theorem Lamp.turnedFrom_eq (old new : Lamp) :
    old.turnedFrom new =
      { new with turns := if stripShow new = stripShow old then new.turns else stripShow old :: old.turns } := by
  unfold Lamp.turnedFrom
  split <;> rfl

@[simp] theorem stripShow_setTurns (l : Lamp) (q : List StripShow) : stripShow { l with turns := q } = stripShow l := rfl

@[simp] theorem stripShow_turnedFrom (old new : Lamp) : stripShow (old.turnedFrom new) = stripShow new := by
  simp [Lamp.turnedFrom_eq]

@[simp] theorem Lamp.showBefore_zero (l : Lamp) : l.showBefore 0 = stripShow l := by simp [Lamp.showBefore]

/-- A turn of the strip puts every earlier conversion one change further back. -/
theorem Lamp.showBefore_turnedFrom {old new : Lamp} (h : stripShow new ≠ stripShow old) (n : Nat) :
    (old.turnedFrom new).showBefore (n + 1) = old.showBefore n := by
  simp only [Lamp.showBefore, Lamp.turnedFrom, if_neg h, List.length_cons, Nat.add_min_add_right, List.getD_cons_succ]
  have inside : min n old.turns.length < (stripShow old :: old.turns).length := by simp
  rw [List.getD_eq_getElem _ _ inside, List.getD_eq_getElem _ _ inside]

theorem State.turnLamp_keeps (l : Lamp) : SameOutside [.lamp] s (s.turnLamp l) := setLamp_keeps s _

@[simp] theorem State.turnLamp_lamp (l : Lamp) : (s.turnLamp l).lamp = s.lamp.turnedFrom l := rfl

/-! ## Calls (R106, R112 to R114) -/

/-- After its request a source has a call, in a slot or pending. -/
theorem hasCall_of_slot {s : State} {src : Source} (i : Fin 8) (ho : (s.calls.slots.get i).isOpen = true)
    (hs : (s.calls.slots.get i).source = some src) : hasCall s src = true := by
  have : (s.calls.slots.get i) ∈ s.calls.slots.toList := by
    rw [Eight.toList_eq]
    exact List.mem_map_of_mem (List.mem_finRange i)
  simp only [hasCall, Bool.or_eq_true, List.any_eq_true]
  exact .inl ⟨_, this, by simp [ho, hs]⟩

theorem hasCall_congr {s t : State} (h : t.calls = s.calls) (src : Source) : hasCall t src = hasCall s src := by
  simp only [hasCall, h]

end Sys2Proof.Machine
end

