-- ==== Sys2Proof/WellFormed.lean ====
section
/-! DEFINITION. Which commands an event can be: the operands agree with what the row names. An
ill-formed command stands for no event. -/

namespace Sys2Proof

open Sys2Proof.Machine

/-- The bytes are one whole accepted frame of a class, and nothing after it. -/
def isFrame (wire : List Byte) (which : Frame → Bool) : Bool :=
  match judgeFrame wire with
  | .accepted _ source f => which f && wire.length == (f.wire source).length
  | _ => false

/-- The bytes are a frame that fails a check stage of R161. -/
def isDiscarded (wire : List Byte) : Bool :=
  match judgeFrame wire with
  | .accepted _ _ _ => false
  | _ => decide (5 ≤ wire.length)

/-- Payload length of a long kind whose value A passes stage 3 of R161; absent for a short kind. -/
def payloadLength (kind valueA : Nat) : Option Nat :=
  match kind with
  | 1 | 6 => if valueA = 12 then some 12 else none
  | 3 => if valueA = 8 then some 8 else none
  | 8 => if valueA ≤ 24 then some valueA else none
  | _ => none

/-- A frame of these header bits, with `rest` after its header, has not ended yet (R161). -/
def goesOn (data : List Bool) (rest : List Byte) : Bool :=
  let field := fun k => numberOf ((data.drop (8 * k)).take 8)
  match payloadLength (field 0) (field 2) with
  | some n => decide (field 1 < 64) && decide (rest.length < n + 2)
  | none => false

/-- The bytes may be those of a frame that was cut before its end, no check having failed. -/
def isCut : List Byte → Bool
  | b0 :: b1 :: b2 :: b3 :: check :: rest =>
    match judgeHeader (headerData b0 b1 b2 b3) check with
    | .clean => goesOn (headerData b0 b1 b2 b3) rest
    | .corrected data => goesOn data rest
    | .twoBit => false
  | _ => true

def isBulletinKind (asFire : Bool) : Frame → Bool
  | .bulletin fire _ _ => fire == asFire
  | _ => false

def isOrderOf (order : Order) : Frame → Bool
  | .order o => o == order
  | _ => false

def isRequestFor (which : Fin 16 → Bool) : Frame → Bool
  | .request _ area _ => which area
  | _ => false

/-- The operands are those of an event that the row names. -/
def Instr.wellFormed : Instr → Bool
  | .powerOnReset => true
  | .pinReset wire => isCut wire
  | .resetEnd _ => true
  | .profileReadDone block => block.length == Config.blockLength
  | .loadWaitExpiry => true
  | .scanIntervalExpiry _ => true
  | .scanResult r _ => decide (r.sinceB ≤ r.sinceA)
  | .joinTimerExpiry => true
  | .lineIdle => true
  | .frameComplete => true
  | .arbitrationLost => true
  | .transmitBitError _ => true
  | .lineBreak wire => isCut wire
  | .triggerDriven => true
  | .triggerLost _ => true
  | .alertTrigger => true
  | .hushTrigger => true
  | .codeWaitTimeout => true
  | .lineStuck => true
  | .framingError wire => isCut wire
  | .frameDiscarded wire => isDiscarded wire
  | .bulletin wire => isFrame wire (isBulletinKind false)
  | .fireBulletin wire => isFrame wire (isBulletinKind true)
  | .postureOrderDay wire => isFrame wire (isOrderOf .day)
  | .postureOrderNight wire => isFrame wire (isOrderOf .night)
  | .postureOrderRestore wire => isFrame wire (isOrderOf .restore)
  | .callNotice wire => isFrame wire (fun f => match f with | .notice _ _ => true | _ => false)
  | .callTake wire => isFrame wire (fun f => match f with | .take _ _ _ => true | _ => false)
  | .callCancel wire => isFrame wire (fun f => match f with | .cancel _ _ _ => true | _ => false)
  | .surveyIdentity wire => isFrame wire (isRequestFor (· == 0))
  | .surveyCounters wire => isFrame wire (isRequestFor (· == 1))
  | .surveyPeerEntry wire => isFrame wire (isRequestFor (· == 2))
  | .surveyCallSlot wire => isFrame wire (isRequestFor (· == 3))
  | .surveyDoorLeaf wire => isFrame wire (isRequestFor (· == 4))
  | .surveyHead wire => isFrame wire (isRequestFor (· == 5))
  | .surveyRoute wire => isFrame wire (isRequestFor (· == 6))
  | .surveyUnknownSection wire => isFrame wire (isRequestFor (fun area => decide (7 ≤ area.val)))
  | .surveyAnswer wire => isFrame wire (fun f => match f with | .answer _ _ => true | _ => false)
  | .bulletinRefreshExpiry => true
  | .staleExpiry _ => true
  | .lostExpiry _ => true
  | .duplicateTimerExpiry => true
  | .doorContactChange _ _ => true
  | .boltContactChange _ _ => true
  | .exitRequestEdge _ => true
  | .exitRequest _ => true
  | .boltTimeExpiry _ => true
  | .propTimerExpiry _ => true
  | .passExpiry _ => true
  | .callInputChange _ _ => true
  | .helpPointPress _ => true
  | .firePointPress _ => true
  | .repeatTimerExpiry _ => true
  | .galleryReset _ => true
  | .keyDown _ => true
  | .keyUp _ => true
  | .authChange _ => true
  | .returnTimerExpiry => true
  | .silent station _ => station != 0
  | .refusalBlinkPhase => true
  | .refusalBlinkEnd => true
  | .lampTestEnd => true
  | .helpChimeEnd => true
  | .drivePeriod => true
  | .chaseStepExpiry => true
  | .flashPhaseExpiry => true
  | .supplyLoss => true
  | .ageAdvance => true
  | .sounderCadenceExpiry => true
  | .otherTriggerCode code => code != Config.alertCode && code != Config.hushCode

end Sys2Proof
end

