-- ==== Sys2Proof/Tests/Slice0.lean ====
section
/-! SUPPORT. The project's own tests: ill-formed commands that WellFormed refuses, the manual's worked
examples, and for each statement with hypotheses a concrete state and operands that meet them. -/

namespace Sys2Proof.Tests

open Sys2Proof.Machine

-- One theorem after the other: side by side, the kernel evaluations below ask for one thread and stack each.
set_option Elab.async false

/-! ## A station to test on -/

/-- A leaf with a lock, a magnet and a bolt time of 2 s. -/
def leafType : LeafConfig := { secure := true, escape := true, fire := true, failSecure := false, boltTime := 2 }

/-- A profile with one head, four kinds of inputs, one leaf and two neighbours, 7 and 9. -/
def demo : Profile :=
  { post := true, defaultAspect := .left, heads := [⟨.smoke, ⟨12, 24, 40⟩⟩]
    inputs := ⟨.helpPoint, .firePoint, .motion, .unconfigured, .unconfigured, .unconfigured⟩
    leaves := ⟨some leafType, none, none, none⟩
    adjacencies := [⟨7, 3, .right, some .forward, .own 0⟩, ⟨9, 4, .left, some .backward, .absent⟩]
    exitWeight := 2, exitLeaf := none, propTime := 30 }

/-- The block that spells `demo`, written out from spec 11.3, with its sum, 591. -/
def demoBlock : List Byte :=
  [0x5C, 0x3E, 1, 1, 1,
   1, 12, 24, 40, 0, 0, 0, 0, 0, 0, 0, 0, 0, 0, 0, 0, 0, 0, 0, 0, 0, 0, 0, 0,
   1, 2, 3, 0, 0, 0,
   0xF0, 2, 0, 0, 0, 0, 0, 0,
   2, 7, 3, 0x21, 1, 9, 4, 0x12, 0] ++ List.replicate 24 0 ++ [2, 0, 30] ++ List.replicate 399 0 ++ [2, 79]

/-- Leaf 0 as the profile configures it, shut and withdrawn. -/
def leaf0 : Leaf := { Leaf.atReset with role := .configured leafType false [0], doorClosed := true, state := .closed }

/-- Station 5 in Day, its profile loaded, its line between frames. -/
def live : State :=
  { State.reset with
    power := .running
    loader := { State.reset.loader with state := .loaded, config := some demo, result := .loaded, station := 5 }
    hazard := { State.reset.hazard with heads := ⟨some (Head.fresh .smoke ⟨12, 24, 40⟩ false), none, none, none⟩ }
    control := { State.reset.control with posture := .day, base := .day }
    peers := { State.reset.peers with entries := demo.adjacencies.map (fun a => ⟨a, .unheard, none, none⟩) }
    doors := { leaves := ⟨{ leaf0 with magnet := true }, { Leaf.atReset with role := .dropped },
      { Leaf.atReset with role := .dropped }, { Leaf.atReset with role := .dropped }⟩ }
    post := { State.reset.post with role := true, authOn := true } }

def inPosture (p : Posture) (b : Base) : State :=
  live.setControl { live.control with posture := p, base := b }

/-- The receiver is ready for a frame of another station. -/
def hearing (s : State) : State := s.setLine { s.line with receiver := .quiet }

def withLeaf (lf : Leaf) (s : State) : State := s.setDoors { leaves := s.doors.leaves.set 0 lf }

def withSlots (v : Eight Slot) (s : State) : State := s.setCalls { s.calls with slots := v }

/-- An open Help call of input 0. -/
def helpCall (state : SlotState) : Slot :=
  { seq := 1, state := state, kind := some .help, source := some (.input 0), age := 10, repeatTimer := some 5, notices := 1 }

/-- What station 7 may say. -/
def said (h : Level) (p : Posture) : Bulletin :=
  { hazard := h, flags := 0, posture := p, base := .day, cost := 5, hops := 24, nextHop := .exit
    doors := Four.fill none, openCalls := 8, levels := Four.fill .clear, headFaults := Four.fill false
    headDirty := Four.fill false, manualFire := false }

def heard : Heard := heardOf (said .clear .day)

def withEntry (status : EntryStatus) (age : Nat) (s : State) : State :=
  s.setPeers { s.peers with entries := s.peers.entries.set 0 ⟨⟨7, 3, .right, some .forward, .own 0⟩, status, some age, some heard⟩ }

def boardEntry (station : Station) (k : CallKind) (state : BoardState) : BoardEntry :=
  { station := station, slot := 0, seq := 1, kind := k, state := state, lastHeard := 90, silentMark := true, takePending := false }

def withBoard (b : List BoardEntry) (s : State) : State := s.setPost { s.post with board := b }

/-- Sixteen Raised entries of one kind, from stations 20 to 35. -/
def fullBoard (k : CallKind) : List BoardEntry :=
  (List.range 16).map (fun n => boardEntry (Fin.ofNat 64 (20 + n)) k .raised)

/-- A queue of twelve entries: a bulletin and eleven takes. -/
def fullQueue : List QueueEntry :=
  ⟨.bulletin false 0 (said .clear .day), 0, false⟩ :: (List.range 11).map (fun n => ⟨.take 7 0 0, n + 1, false⟩)

def notice (state : NoticeState) (kind : Option CallKind) (seq : Fin 16) : Notice :=
  { slot := 0, seq := seq, kind := kind, state := state, taker := 5, source := some .line, age := 3 }

/-- Input 2, the Motion input of `demo`, active. -/
def withMotion (s : State) : State := s.setInput 2 ⟨true, false⟩

/-- Three sources that wait: two Fault sources, and between them the Fire point on input 1. -/
def waitingSources (s : State) : State := s.setCalls { s.calls with pending := [.line, .input 1, .profile] }

/-- The selection held on slot 0 of a station. -/
def withHeld (station : Station) (s : State) : State :=
  s.setPost { s.post with held := some (station, 0), returnTimer := some 0 }

/-! ## WellFormed refuses ill-formed commands -/

/-- A whole order, an order whose header has a two-bit error, and a bulletin of length 11 were not cut. -/
theorem test_illformed_cut :
    Instr.wellFormed (.framingError [2, 7, 1, 0, 8]) = false ∧ Instr.wellFormed (.lineBreak [0x83, 7, 1, 0, 8]) = false
      ∧ Instr.wellFormed (.pinReset (headerBytes 6 7 11 0)) = false
      ∧ Instr.wellFormed (.framingError (headerBytes 6 7 12 0 ++ [1])) = true ∧ Instr.wellFormed (.lineBreak) = true := by
  decide +kernel
theorem test_illformed_block : Instr.wellFormed (.profileReadDone [0x5C, 0x3E]) = false := by decide
theorem test_illformed_discarded_short : Instr.wellFormed (.frameDiscarded [2, 7, 1, 0]) = false := by decide +kernel
theorem test_illformed_discarded_accepted : Instr.wellFormed (.frameDiscarded [2, 7, 1, 0, 8]) = false := by
  decide +kernel
theorem test_illformed_extra_byte : Instr.wellFormed (.postureOrderDay [2, 7, 1, 0, 8, 0]) = false := by decide +kernel
theorem test_illformed_other_order :
    [Instr.postureOrderNight [2, 7, 1, 0, 8], .postureOrderRestore [2, 7, 1, 0, 8]].all (fun i => !i.wellFormed) = true := by
  decide +kernel
theorem test_illformed_other_class :
    [Instr.bulletin [2, 7, 1, 0, 8], .fireBulletin [2, 7, 1, 0, 8], .callNotice [2, 7, 1, 0, 8],
     .callTake [2, 7, 1, 0, 8], .callCancel [2, 7, 1, 0, 8], .surveyAnswer [2, 7, 1, 0, 8]].all
      (fun i => !i.wellFormed) = true := by decide +kernel
theorem test_illformed_other_section :
    [Instr.surveyIdentity, .surveyCounters, .surveyPeerEntry, .surveyCallSlot, .surveyDoorLeaf, .surveyHead,
     .surveyRoute].all (fun row => !(row ((Frame.request 5 7 0).wire 7)).wellFormed)
      && !(Instr.surveyUnknownSection ((Frame.request 5 6 0).wire 7)).wellFormed = true := by decide +kernel
/-- Chain B converts after chain A, so no more changes can have come since (spec 8.5). -/
theorem test_illformed_scan :
    let r : ScanReadings :=
      { refh := 1023, refl := 0, heads := Four.fill ⟨0, 0⟩, isg := 99, isa := 99, isb := 99, sinceA := 0, sinceB := 1 }
    (Instr.scanResult r 0).wellFormed = false ∧ (Instr.scanResult { r with sinceA := 1 } 0).wellFormed = true := by decide
theorem test_illformed_silent : Instr.wellFormed (.silent 0 0) = false := by decide
theorem test_illformed_code :
    (Instr.otherTriggerCode 75).wellFormed = false ∧ (Instr.otherTriggerCode 150).wellFormed = false := by decide
theorem test_wellformed_order : Instr.wellFormed (.postureOrderDay [2, 7, 1, 0, 8]) = true := by decide +kernel

/-! ## The bytes on the line -/

/-- R184 by hand: the ones of kind 2, source 7, A 1 stand at positions 11, 19, 20, 21 and 29, whose
exclusive-or is 4; six ones in all. -/
theorem test_header_check : (Frame.order .day).wire 7 = [2, 7, 1, 0, 0b00001000] := by decide +kernel

/-- R184: the bit at position 3 is the first bit sent, bit 7 of the kind; inverted, it is put back. -/
theorem test_header_corrected :
    judgeFrame [0x82, 7, 1, 0, 8] = .accepted true 7 (.order .day) ∧ judgeFrame [0x83, 7, 1, 0, 8] = .headerLost := by
  decide +kernel

/-- R161 stage 2: kind 9 with a good check (the ones stand at 9 and 12, whose exclusive-or is 5). -/
theorem test_unknown_kind : judgeFrame [9, 0, 0, 0, 0b00001010] = .discarded false := by decide +kernel

/-- R161 stage 1: a bulletin cut after its third payload byte, its kind received with bit 7 wrong, and the same
received clean. -/
theorem test_cut_corrected :
    cutCorrected ((headerBytes 6 7 12 0).set 0 0x86 ++ [1, 2, 3]) = true
      ∧ cutCorrected (headerBytes 6 7 12 0 ++ [1, 2, 3]) = false ∧ cutCorrected [0x82, 7, 1, 0] = false := by decide +kernel

theorem test_profile_block : profileOf 5 demoBlock = some demo := by decide +kernel
theorem test_profile_sum : profileOf 5 (demoBlock.set 78 31) = none := by decide +kernel

/-! ## Worked examples of chapter 1 -/

def reading (v : Nat) : HeadReading := ⟨0, BitVec.ofNat 10 v⟩

def graded (b n : Nat) : Head :=
  { Head.fresh .smoke ⟨12, 24, 40⟩ false with graded := true, baseline := some b, updates := n }

/-- Section 1.9: the update with v 63 takes b from 3,840 to 3,843, and with v 50 from there to 3,833. -/
theorem test_baseline_tracking :
    ((graded 3840 63).step 3 (reading 63)).baseline = some 3843
      ∧ ((graded 3843 63).step 3 (reading 50)).baseline = some 3833 := by decide +kernel

/-- Section 1.9: seven scans in Day, excesses above a baseline of 60 counts. -/
theorem test_day_confirmation :
    ([30, 45, 46, 20, 41, 42, 44].foldl (fun (p : Head × List (Level × Nat)) x =>
        let h := p.1.step 3 (reading (60 + x))
        (h, p.2 ++ [(h.level, h.confirm)])) (graded 3840 0, [])).2
      = [(.prealarm, 0), (.prealarm, 1), (.prealarm, 2), (.prealarm, 0), (.prealarm, 1), (.prealarm, 2), (.fire, 3)] := by
  decide +kernel

/-- Section 1.9: the rise of a heat head after eight readings of 300. -/
theorem test_heat_rise :
    ([318, 325, 346, 352, 340].foldl (fun (p : Head × List (Level × Nat)) t =>
        let h := p.1.step 3 ⟨BitVec.ofNat 10 t, 0⟩
        (h, p.2 ++ [(h.level, h.rise)]))
        ({ Head.fresh .heat ⟨600, 700, 40⟩ false with window := List.replicate 8 300 }, [])).2
      = [(.clear, 18), (.watch, 25), (.watch, 46), (.watch, 52), (.fire, 40)] := by decide +kernel

/-- Section 8.8: chain B's nine scans. -/
theorem test_strip_chain :
    ([(3, false), (2, false), (0, true), (4, false), (5, false), (196, false), (0, true), (201, false), (198, false)].foldl
        (fun (p : Chain × List Bool) r =>
          let c := p.1.take r.1 r.2
          (c, p.2 ++ [c.fault])) (⟨false, 0, 0⟩, [])).2
      = [false, false, false, true, true, true, true, true, false] := by decide +kernel

/-- R153: at position 3 chain A is dark. R149, R157: the steady strip and the lamp test are never dark. -/
theorem test_dark_marks :
    let lamp := fun (p : Pattern) (test : Option Nat) => { Lamp.atReset with pattern := p, position := 3, test := test }
    stripShow (lamp .chase none) = ⟨true, false⟩ ∧ stripShow { lamp .flash none with flashOn := false } = ⟨true, true⟩
      ∧ stripShow { lamp .flash none with flashOn := true } = ⟨false, false⟩
      ∧ stripShow (lamp .steady none) = ⟨false, false⟩ ∧ stripShow (lamp .chase (some 0)) = ⟨false, false⟩ := by decide

/-- R153: a strip that turns Steady after a dark conversion of chain A; the mark is that of the conversion. -/
theorem test_dark_mark_is_the_conversions :
    let l := Lamp.turnedFrom { Lamp.atReset with pattern := .chase, position := 3 } { Lamp.atReset with pattern := .steady }
    l.showBefore 0 = ⟨false, false⟩ ∧ l.showBefore 1 = ⟨true, false⟩ ∧ l.showBefore 9 = ⟨true, false⟩ := by decide

/-! ## Worked examples of chapters 3 to 6 -/

/-- Section 4.8, event 3 at station 23: 8 via 24 is taken against 13 held via 22. -/
theorem test_route_margin :
    (chooseRoute (.entry 0) noWay ⟨⟨13, 2⟩, ⟨8, 2⟩, noWay, noWay, noWay, noWay, noWay, noWay⟩).next = .entry 1
      ∧ (chooseRoute (.entry 0) noWay ⟨⟨9, 2⟩, ⟨8, 2⟩, noWay, noWay, noWay, noWay, noWay, noWay⟩).cost = 9 := by
  decide +kernel

/-- R63: the largest penalty, 8 + 16 + 8 + 2. -/
theorem test_largest_penalty :
    penalty (Four.fill Leaf.atReset)
      ⟨⟨7, 3, .right, none, .neighbour 0⟩, .stale, some 30,
        some { heard with hazard := .prealarm, blind := true, doors := Four.fill (some .slow) }⟩ = some 34 := by decide

/-- Section 5.10, times 45 and 46: the leaf shuts and its bolt is thrown. -/
theorem test_evening_leaf :
    ({ leaf0 with state := .propped, doorClosed := false }.takeDoor true true).state = .securing
      ∧ (({ leaf0 with state := .propped, doorClosed := false }.takeDoor true true).takeBolt true true).state = .secured := by
  decide

/-- Section 6.8: the oldest Taken call below Fire is slot 2, at age 900. -/
theorem test_eviction :
    evictedSlot
      (withSlots
        ⟨{ helpCall (.taken 40) with kind := some .fault, age := 400 },
         { helpCall (.taken 40) with kind := some .intrusion, age := 120 },
         { helpCall (.taken 40) with age := 900 }, helpCall .raised, helpCall .raised, helpCall .raised,
         helpCall .raised, helpCall .raised⟩ live) 4 = some 2 := by decide +kernel

/-- Section 7.7: " 23 H 1". -/
theorem test_display :
    contentDisplay (withBoard [{ boardEntry 23 .help .raised with silentMark := false }] live).post
      = ⟨⟨.digit 2, false⟩, ⟨.digit 3, false⟩, ⟨.letter .help, false⟩, ⟨.digit 1, false⟩⟩ := by decide +kernel

/-- Section 9.8: the refusable entry with the latest place time is the take of 11; after it, the cancel of 10. -/
theorem test_queue_eviction :
    (evictable
      [⟨.order .day, 3, false⟩, ⟨.take 27 0 0, 4, false⟩, ⟨.take 33 0 0, 11, false⟩, ⟨.cancel 25 0 0, 10, false⟩,
       ⟨.bulletin false 0 (said .clear .day), 8, false⟩]).map (·.place) = some 11 := by decide

/-! ## One step of the worked sequences -/

/-- The command answers a next state of which the test holds. -/
def after (i : Instr) (s : State) (p : State → Bool) : Bool :=
  match exec i s with
  | .next t => p t
  | _ => false

/-- Station 23 of section 4.8, settled on 8 via 24, its entry 1; 24 last heard some seconds ago. -/
def station23 (age : Nat) : State :=
  let entry := fun (n via : Station) (w : Nat) (a : Aspect) (d : Direction) (old : Nat) =>
    (⟨⟨n, w, a, some d, .absent⟩, .current, some old, some { heard with nextHop := .station via, hops := 1 }⟩ : Entry)
  live.setPeers { live.peers with entries := [entry 22 21 4 .left .backward 5, entry 24 25 3 .right .forward age] }
    |>.setRoute { live.route with cost := 8, hops := 2, next := .entry 1 }
    |>.setLoader { live.loader with station := 23, config := some { demo with exitWeight := 0 } }
    |>.setLamp { live.lamp with aspect := .right, placeholder := false }

/-- Section 3.7, time 125: 16 via 24 is left for 9 via 22, and a bulletin with cost 9 and hops 2 is queued. -/
theorem test_stale_moves_the_route :
    after (.staleExpiry 1) (station23 25) (fun t =>
      t.route.cost == 9 && t.route.next == .entry 0 && t.line.queue.map (·.frame.isBulletin) == [true]
        && (captureBulletin t).cost == 9 && (captureBulletin t).hops == 2) = true := by decide +kernel

/-- Section 8.8: 24's Alert reaches the driver. -/
theorem test_alert_lights_the_way :
    after .alertTrigger ((station23 5).setReceiver .codeWait) (fun t =>
      t.lamp.aspect == .right && t.lamp.brightness == 100 && t.lamp.pattern == .chase && t.lamp.direction == .forward
        && t.lamp.position == 0 && t.lamp.sound == .tone && t.control.posture == .evacuate) = true := by decide +kernel

/-- Section 6.8, time 12: post 40's take of slot 0, sequence number 1. -/
theorem test_take_of_a_help_call :
    after (.callTake ((Frame.take 5 0 1).wire 40)) (withSlots ((Eight.fill Slot.atReset).set 0 (helpCall .raised)) (hearing live))
      (fun t => (t.calls.slots.get 0).state == .taken 40 && (t.calls.slots.get 0).repeatTimer == some 0
        && t.line.queue.map (·.frame) ==
          [.notice 2 { slot := 0, seq := 1, kind := some .help, state := .taken, taker := 40, source := some (.input 0), age := 10 }])
      = true := by decide +kernel

/-- Section 2.9: in Startup, a bulletin that shows Evacuate with base Day is adopted. -/
theorem test_adoption_of_an_evacuation :
    after (.bulletin ((Frame.bulletin false 9 (said .clear .evacuate)).wire 26))
      (hearing (live.setControl State.reset.control))
      (fun t => t.control ==
        { posture := .evacuate, base := .day, fireSet := [], hushed := false, joinTimer := none, provisionalBase := false
          alertPending := false }) = true := by decide +kernel

/-- Section 9.8: station 23 loses arbitration over its bulletin. -/
theorem test_arbitration_lost :
    after .arbitrationLost
      (live.setLine
        { live.line with
          queue := [⟨.bulletin false 9 (said .clear .day), 0, true⟩], receiver := .frame
          onLine := some (.bulletin false 9 (said .clear .day)) })
      (fun t => t.counters.arbitrationLost == 1 && t.line.queue == [⟨.bulletin false 9 (said .clear .day), 0, false⟩]
        && t.line.onLine == none && t.line.receiver == .frame) = true := by decide +kernel

/-- R140, R171: a Hush released on an Idle line waits for the next Idle, and is then driven. -/
theorem test_hush_waits_for_idle :
    after (.keyUp ⟨1, 0⟩) ((hearing live).setPost { live.post with down := [.hush], panel := .held .hush })
        (fun t => t.line.hushPending && t.line.driving == none && after .lineIdle t (fun u => u.line.driving == some .hush))
      = true := by decide +kernel

/-- R168, R171: a Hush that fails on its first bit ends in Discard, and the next Idle drives it again. -/
theorem test_failed_hush_is_driven_again :
    after (.triggerLost .driveFailed)
        (live.setLine { live.line with receiver := .frame, driving := some .hush, hushPending := true })
        (fun t => t.line.receiver == .discard && t.line.driving == none && t.counters.bitError == 1
          && after .lineIdle t (fun u => u.line.driving == some .hush)) = true := by decide +kernel

/-- R38, R171: the own Hush's code row before its TRIGGER_DRIVEN; the Alert held meanwhile is driven after it. -/
theorem test_held_alert_follows_the_hush :
    after .hushTrigger
        (live.setLine
          { live.line with receiver := .codeWait, driving := some .hush, hushPending := true, alertHeld := true })
        (fun t => t.line.driving == some .hush && t.line.alertHeld
          && after .triggerDriven t (fun u => u.line.driving == some .alert && u.line.alertHeld && !u.line.hushPending))
      = true := by decide +kernel

/-- R32, R33, R171: a confirmed Fire reading at Night starts the Alert. -/
theorem test_fire_starts_the_alert :
    after (.scanResult { refh := 1000, refl := 10, heads := ⟨reading 100, ⟨0, 0⟩, ⟨0, 0⟩, ⟨0, 0⟩⟩, isg := 99, isa := 99,
                         isb := 99, sinceA := 0, sinceB := 0 } 0)
        ((inPosture .night .night).setHazard { live.hazard with heads := ⟨some (graded 3840 0), none, none, none⟩ }
          |>.setFront { live.front with scan := some ⟨false, false⟩ })
        (fun t => t.hazard.zone == .fire && t.control.posture == .evacuate && t.line.driving == some .alert
          && hasCall t (.head 0)) = true := by decide +kernel

/-- R160, R167: on a line that has been Idle a bulletin starts at once, unless another's start bit was seen
first. -/
theorem test_start_bit_seen_first :
    after .bulletinRefreshExpiry (live.setLine { live.line with receiver := .quiet, refresh := some 10 })
        (fun t => t.line.onLine.isSome)
      && after .bulletinRefreshExpiry
        (live.setLine { live.line with receiver := .quiet, refresh := some 10, startBits := [true, false] })
        (fun t => t.line.onLine.isNone && t.line.receiver == .frame && t.line.startBits == [false]
          && t.line.queue.length == 1) = true := by decide +kernel

/-! ## Witnesses: states and operands that meet the statements' hypotheses, clause by clause -/

theorem witness_StepRunsFrontCommand :
    (live.setPending [.ageAdvance, .lineIdle]).pending = .ageAdvance :: [.lineIdle] ∧ live.pending = [] := ⟨rfl, rfl⟩

theorem witness_EveryCommandAnswers :
    State.reset.power ≠ .running ∧ Instr.ageAdvance ≠ .powerOnReset ∧ (∀ wire, Instr.ageAdvance ≠ .pinReset wire)
      ∧ Instr.ageAdvance ≠ .supplyLoss ∧ ∀ pins, Instr.ageAdvance ≠ .resetEnd pins := by
  refine ⟨by decide, by decide, fun _ h => (by cases h), by decide, fun _ h => (by cases h)⟩

theorem witness_ResetsStartEveryBlock : live.power ≠ .off ∧ (live.setPower .off).power = .off := by decide

theorem witness_PostureAndRouteAfterReset : (∃ wire, Instr.pinReset [] = .pinReset wire) ∧ live.power ≠ .off :=
  ⟨⟨[], rfl⟩, by decide⟩

theorem witness_ResetEndReadsThePins : State.reset.power = .held ∧ HeldAtReset State.reset := ⟨rfl, fun _ => rfl⟩

def loading (x : LoadState) : State := live.setLoader { live.loader with state := x }

/-- Each state of the read; a block of nothing fails the marker. -/
theorem witness_FailedReadsLeadToFallback :
    (loading .firstRead).power = .running ∧ (loading .firstRead).loader.state = .firstRead
      ∧ (loading .waiting).loader.state = .waiting ∧ (loading .loaded).loader.state ≠ .waiting
      ∧ (loading .secondRead).loader.state = .secondRead ∧ (loading .secondRead).loader.station = 5
      ∧ profileOf 5 [] = none := by
  refine ⟨rfl, rfl, rfl, by decide, rfl, rfl, by decide +kernel⟩

theorem witness_PassedReadLoadsTheProfile :
    (loading .firstRead).power = .running ∧ (loading .firstRead).loader.state = .firstRead
      ∧ (loading .secondRead).loader.state = .secondRead
      ∧ profileOf (loading .firstRead).loader.station demoBlock = some demo :=
  ⟨rfl, rfl, rfl, test_profile_block⟩

/-- The demo block with a first threshold of 4, below the least, and its sum, 583. -/
def badBlock : List Byte := ((demoBlock.set 6 4).set 478 2).set 479 71

/-- A second failed read without a taken Profile call; a block whose thresholds are out of order; a sign that still
shows the placeholder; an Alert that waits for the load. -/
theorem witness_PassedReadLoadsTheProfile_refused :
    profileOf 5 badBlock = some { demo with heads := [⟨.smoke, ⟨4, 24, 40⟩⟩] }
      ∧ thresholdsPass { demo with heads := [⟨.smoke, ⟨4, 24, 40⟩⟩] } = false
      ∧ hasTaken (loading .secondRead) .profile = false
      ∧ (loading .firstRead).route.next = .none ∧ (loading .firstRead).lamp.placeholder = true
      ∧ ((loading .firstRead).setControl { live.control with alertPending := true }).control.alertPending = true := by
  decide +kernel

/-- A Smoke head that was in the set, and a Fire head that the profile does not list. -/
theorem witness_PassedReadLoadsTheProfile_heads :
    let fired := { Head.fresh .smoke ⟨12, 24, 40⟩ false with level := .fire }
    let s := (loading .firstRead).setHazard { live.hazard with heads := ⟨some fired, none, none, some fired⟩ }
    demo.heads[(0 : Fin 4).val]? = some ⟨.smoke, ⟨12, 24, 40⟩⟩ ∧ s.hazard.heads.get 0 = some fired
      ∧ demo.heads[(3 : Fin 4).val]? = none ∧ s.hazard.heads.get 3 = some fired ∧ fired.level = .fire := by decide

/-- A provisional leaf in each state, and an Alert that waits for the fallback. -/
theorem witness_PassedReadLoadsTheProfile_leaves :
    let s := (loading .secondRead).setControl { live.control with posture := .startup, alertPending := true }
    let at0 := fun (closed thrown : Bool) => (withLeaf (Leaf.provisional closed thrown) s).doors.leaves.get 0
    demo.leaves.get 0 = some leafType ∧ (at0 false false).state = .opened ∧ (at0 false false).prop = none
      ∧ (at0 true false).state = .closed ∧ (at0 true false).boltThrown = false
      ∧ (at0 true true).state = .jammed .release ∧ (at0 true true).boltThrown = true
      ∧ s.control.alertPending = true ∧ s.control.posture = .startup ∧ s.loader.state = .secondRead := by decide

/-- R103 by hand: in Night the demo profile's leaf goes from Closed to Securing with its bolt time at 0, from Jammed toward
release straight to Secured, and an Open one, a fire leaf on its magnet, has no prop timer (R93). -/
theorem test_leaf_carried_over :
    let load := fun (closed thrown : Bool) =>
      (completeLoad .loaded demo
        (withLeaf (Leaf.provisional closed thrown) ((loading .firstRead).setControl
          { live.control with posture := .night, base := .night }))).doors.leaves.get 0
    (load true false).state = .securing ∧ (load true false).bolt = some 0 ∧ (load true true).state = .secured
      ∧ (load false false).state = .opened ∧ (load false false).prop = none ∧ (load false false).magnet = true := by
  decide +kernel

/-- Presses that waited for the load at a Help point, a Fire point and an unconfigured input, and a Motion input that is
active in Night, none with a taken call; under the fallback the same three are Help presses. -/
theorem witness_PassedReadLoadsTheProfile_presses :
    let waiting : Six Input := ⟨⟨true, true⟩, ⟨true, true⟩, ⟨true, false⟩, ⟨true, true⟩, ⟨false, false⟩, ⟨false, false⟩⟩
    let s := ((loading .secondRead).setCalls { live.calls with inputs := waiting }).setControl
      { live.control with posture := .night, base := .night }
    (s.calls.inputs.get 0).pressed = true ∧ demo.inputs.get 0 = .helpPoint ∧ (s.calls.inputs.get 1).pressed = true
      ∧ demo.inputs.get 1 = .firePoint ∧ (s.calls.inputs.get 2).active = true ∧ demo.inputs.get 2 = .motion
      ∧ s.control.posture = .night ∧ (s.calls.inputs.get 3).pressed = true ∧ demo.inputs.get 3 = .unconfigured
      ∧ ∀ i : Fin 6, hasTaken s (.input i) = false := by decide

def scanning (scan : Scan) (run : Nat) : State := live.setFront { live.front with scan := some scan, invalidRun := run }

theorem witness_IntervalStartsOrHoldsAScan :
    (scanning ⟨false, false⟩ 0).front.scan.isSome = true ∧ live.front.scan = none ∧ live.loader.state = .loaded
      ∧ (loading .fallback).front.scan = none ∧ (loading .fallback).loader.state ≠ .loaded ∧ live.power = .running := by
  decide

/-- Before the load: a Fire head at position 3 whose presence sense shows absent, and a position that stays fitted. -/
theorem witness_IntervalStartsOrHoldsAScan_heads :
    let fired := { Head.fresh .smoke ⟨12, 24, 40⟩ false with level := .fire }
    let s := (loading .firstRead).setHazard { live.hazard with heads := ⟨some fired, none, none, some fired⟩ }
    s.front.scan = none ∧ s.loader.state ≠ .loaded ∧ s.hazard.heads.get 3 = some fired ∧ fired.level = .fire
      ∧ (1#4).getLsbD (3 : Fin 4).val = false ∧ (1#4).getLsbD (0 : Fin 4).val = true := by decide

def references (refh refl : Reading) : ScanReadings :=
  { refh := refh, refl := refl, heads := Four.fill ⟨0, 0⟩, isg := 0, isa := 0, isb := 0, sinceA := 0, sinceB := 0 }

/-- Warm-up, void, and the two reference limits just missed, with the run at 2. -/
theorem witness_DiscardedScansTouchNoHead :
    (scanning ⟨true, false⟩ 0).front.scan = some ⟨true, false⟩ ∧ (scanning ⟨false, true⟩ 0).front.scan = some ⟨false, true⟩
      ∧ (scanning ⟨false, false⟩ 2).front.scan = some ⟨false, false⟩ ∧ (scanning ⟨false, false⟩ 2).front.scanHeld = false
      ∧ (references 959 63).refh.toNat < 960 ∧ 63 < (references 960 64).refl.toNat
      ∧ (scanning ⟨false, false⟩ 2).front.fault = false ∧ 2 ≤ (scanning ⟨false, false⟩ 2).front.invalidRun := by
  decide

/-- A held scan behind the warm-up scan, at a loaded station and before the load. -/
theorem witness_DiscardedScansTouchNoHead_held :
    let held := fun (s : State) => s.setFront { s.front with scan := some ⟨true, false⟩, scanHeld := true }
    (held live).front.scanHeld = true ∧ (held live).loader.state = .loaded
      ∧ (held (loading .firstRead)).front.scan = some ⟨true, false⟩ ∧ (held (loading .firstRead)).loader.state ≠ .loaded := by
  decide

theorem witness_ValidScanStepsEveryHead :
    (scanning ⟨false, false⟩ 0).power = .running ∧ (scanning ⟨false, false⟩ 0).front.scan = some ⟨false, false⟩
      ∧ (scanning ⟨false, false⟩ 0).front.scanHeld = false ∧ 960 ≤ (references 960 63).refh.toNat
      ∧ (references 960 63).refl.toNat ≤ 63 := by decide

/-- Chains at the limits of their runs and of the reading, and each pattern of the strip. -/
theorem witness_ValidScanStepsEveryHead_chains :
    (⟨false, 2, 0⟩ : Chain).fault = false ∧ 31 < 32 ∧ 2 ≤ (⟨false, 2, 0⟩ : Chain).lowRun ∧ (⟨false, 1, 0⟩ : Chain).lowRun < 2
      ∧ (⟨true, 0, 2⟩ : Chain).fault = true ∧ 2 ≤ (⟨true, 0, 2⟩ : Chain).recovery ∧ (⟨true, 0, 1⟩ : Chain).recovery < 2
      ∧ { live.lamp with pattern := .chase }.test = none ∧ { live.lamp with pattern := .flash }.pattern = .flash
      ∧ live.lamp.pattern = .steady ∧ { live.lamp with test := some 0 }.test.isSome = true
      ∧ ((⟨false, 2, 0⟩ : Chain).take 31 false).fault = true ∧ hasTaken live .chainSign = false := by decide

/-- A head that its reading brings to Fire, one that its tenth low reading faults and one that its update makes
Dirty, with no call taken; a zone below Fire; and a strip that has turned once. -/
theorem witness_ValidScanStepsEveryHead_heads :
    (graded 3840 0).level ≠ .fire ∧ ((graded 3840 0).step 1 (reading 100)).level = .fire
      ∧ { graded 3840 0 with badRun := 9 }.fault = false
      ∧ ({ graded 3840 0 with badRun := 9 }.step 1 (reading 3)).fault = true
      ∧ (graded 25663 63).dirty = false ∧ ((graded 25663 63).step 1 (reading 402)).dirty = true
      ∧ hasTaken live (.head 0) = false ∧ hasTaken live (.headFault 0) = false ∧ hasTaken live (.headDirty 0) = false
      ∧ live.hazard.zone ≠ .fire ∧ { live.lamp with turns := [⟨true, false⟩] }.turns[0]? = some ⟨true, false⟩ := by
  decide +kernel

/-- A head at Fire, and one that comes to Fire at the threshold with the required number 1. -/
theorem witness_FireLatchesAndNeedsConfirmation :
    { graded 3840 0 with level := .fire }.level = .fire ∧ (graded 3840 0).level ≠ .fire
      ∧ ((graded 3840 0).step 1 (reading 100)).level = .fire := by decide +kernel

/-- Low readings: the tenth running, the ninth, and a recovery's third good one; a Heat head's open sensor. -/
theorem witness_FireLatchesAndNeedsConfirmation_runs :
    decide ((reading 3).second.toNat - (reading 3).first.toNat < 4) = true ∧ decide ((reading 4).second.toNat - 0 < 4) = false
      ∧ 9 ≤ { graded 3840 0 with badRun := 9 }.badRun ∧ { graded 3840 0 with badRun := 8 }.badRun < 9
      ∧ { graded 3840 0 with fault := true, goodRun := 2 }.fault = true
      ∧ 2 ≤ { graded 3840 0 with fault := true, goodRun := 2 }.goodRun
      ∧ { graded 3840 0 with fault := true, goodRun := 1 }.goodRun < 2
      ∧ ((⟨1023, 0⟩ : HeadReading).first.toNat == 0 || (⟨1023, 0⟩ : HeadReading).first.toNat == 1023) = true
      ∧ (Head.fresh .heat ⟨600, 700, 40⟩ false).fault = false := by decide

def starting (n : Nat) : State :=
  live.setControl { live.control with posture := .startup, base := .night, joinTimer := some n }

theorem witness_JoinWaitEndsInNight :
    (starting 20).power = .running ∧ (starting 20).control.posture = .startup
      ∧ (starting 20).control.joinTimer = some 20 := by decide

/-- The room of the Motion input 2 moves while the posture becomes Night. -/
theorem witness_JoinWaitEndsInNight_motion :
    let s := withMotion (starting 20)
    s.control.posture ≠ .night ∧ (∀ k : Fin 6, asserted s k = false)
      ∧ asserted (s.setControl { s.control with posture := .night }) 2 = true ∧ hasCall s (.input 2) = false := by decide

def evacuating : State := inPosture .evacuate .day

/-- Both orders are heard, in Evacuate and outside it. -/
theorem witness_BaseOrdersSetPostureOrBase :
    Hears ((Frame.order .day).wire 7) false 7 (.order .day) (hearing live)
      ∧ Hears ((Frame.order .night).wire 7) false 7 (.order .night) (hearing evacuating)
      ∧ (hearing evacuating).control.posture = .evacuate ∧ (hearing live).control.posture ≠ .evacuate := by
  refine ⟨⟨rfl, rfl, by decide +kernel⟩, ⟨rfl, rfl, by decide +kernel⟩, rfl, by decide⟩

def worthy (s : State) : State :=
  s.setHazard { s.hazard with heads := s.hazard.heads.map (fun o => o.map (fun h => { h with fireWorthy := true })) }

theorem witness_RestoreIsJudged :
    Hears ((Frame.order .restore).wire 7) false 7 (.order .restore) (hearing live) ∧ (hearing live).control.posture ≠ .evacuate
      ∧ Hears ((Frame.order .restore).wire 7) false 7 (.order .restore) (hearing evacuating)
      ∧ (hearing evacuating).control.posture = .evacuate ∧ restoreAcceptable (hearing evacuating) = true
      ∧ restoreAcceptable (hearing (worthy evacuating)) = false := by
  refine ⟨⟨rfl, rfl, by decide +kernel⟩, by decide, ⟨rfl, rfl, by decide +kernel⟩, rfl, by decide, by decide⟩

/-- A refused Restore at a station in Fire, with room for its bulletin. -/
theorem witness_RestoreIsJudged_refused :
    let s := (hearing (worthy evacuating)).setHazard { (worthy evacuating).hazard with zone := .fire }
    s.power = .running ∧ receiving s = true ∧ s.control.posture = .evacuate ∧ restoreAcceptable s = false
      ∧ s.hazard.zone = .fire ∧ HasRoom s := by
  refine ⟨rfl, rfl, rfl, by decide, rfl, by unfold HasRoom; decide⟩

def receivingIn (r : Receiver) : State := live.setLine { live.line with receiver := r }

theorem witness_CodeBytesAreTaken :
    (receivingIn .brk).power = .running ∧ awaitsCode (receivingIn .brk) = true ∧ awaitsCode (receivingIn .codeWait) = true
      ∧ (74 : Byte) ≠ 75 ∧ (74 : Byte) ≠ 150 := by decide

theorem witness_IdleLineStartsSending :
    live.power = .running ∧ live.line.receiver = .discard ∧ live.line.fault = false ∧ live.line.onLine = none
      ∧ live.line.driving = none ∧ live.line.alertHeld = false ∧ (receivingIn .stuck).line.queue.length ≤ 10
      ∧ ((receivingIn .stuck).setLine { (receivingIn .stuck).line with fault := true }).line.receiver = .stuck
      ∧ ((receivingIn .stuck).setLine { (receivingIn .stuck).line with fault := true }).line.fault = true := by decide

/-- An Alert held on an Idle line and through the line fault. -/
theorem witness_IdleLineStartsSending_alert :
    let held := fun (r : Receiver) (fault : Bool) =>
      live.setLine { live.line with receiver := r, fault := fault, alertHeld := true }
    (held .quiet false).line.receiver ∈ [Receiver.discard, .quiet, .stuck] ∧ (held .quiet false).line.fault = false
      ∧ (held .quiet false).line.driving = none ∧ (held .quiet false).line.alertHeld = true
      ∧ (held .stuck true).line.receiver = .stuck ∧ (held .stuck true).line.fault = true
      ∧ (held .stuck true).line.alertHeld = true ∧ (held .stuck true).line.driving = none := by decide

/-- A frame of the own on the line, first in the queue. -/
def sendingFrame (f : Frame) (s : State) : State :=
  s.setLine { s.line with queue := [⟨f, 0, true⟩], onLine := some f, receiver := .frame }

theorem witness_CompletionIsHandedOn :
    (sendingFrame (.order .day) live).power = .running ∧ (sendingFrame (.order .day) live).line.driving = none
      ∧ (sendingFrame (.order .day) live).line.onLine = some (.order .day)
      ∧ (sendingFrame (.order .night) live).line.onLine = some (.order .night) ∧ live.control.posture ≠ .evacuate
      ∧ (Frame.bulletin false 0 (said .clear .day)).isBulletin = true
      ∧ live.loader.station ≠ 0 ∧ (5 : Byte).toNat = live.loader.station.val
      ∧ ((withSlots (Eight.fill (helpCall .raised)) live).calls.slots.get 7).state = .raised := by decide

/-- An own Restore in Evacuate, judged both ways, an own cancel of a call that the station itself took, and an own
notice at a post. -/
theorem witness_CompletionIsHandedOn_others :
    restoreAcceptable (sendingFrame (.order .restore) evacuating) = true
      ∧ restoreAcceptable (sendingFrame (.order .restore) (worthy evacuating)) = false
      ∧ (sendingFrame (.order .restore) evacuating).control.posture = .evacuate
      ∧ (sendingFrame (.cancel 5 (wideSlot 7) 1) live).line.onLine = some (.cancel 5 (wideSlot 7) 1)
      ∧ addressedHere 5 live = true ∧ addressedHere 6 live = false
      ∧ ((withSlots (Eight.fill (helpCall (.taken 5))) live).calls.slots.get 7).state = .taken live.loader.station
      ∧ ((withSlots (Eight.fill (helpCall (.taken 5))) live).calls.slots.get 7).seq = 1
      ∧ (∀ k : Fin 6, asserted live k = false) ∧ live.calls.pending = []
      ∧ (sendingFrame (.notice 1 (notice .raised (some .help) 1)) live).post.role = true
      ∧ live.post.board.find? (·.isFor 5 0) = none ∧ live.post.board.length < 16 := by decide

/-- An own notice at a post whose board of sixteen Help entries has an entry that yields to a Fault call and none that
yields to a Help call. -/
theorem witness_CompletionIsHandedOn_full :
    let s := fun (kind : CallKind) =>
      withBoard (fullBoard .help) (sendingFrame (.notice 1 (notice .raised (some kind) 1)) live)
    (s .fault).line.onLine = some (.notice 1 (notice .raised (some .fault) 1)) ∧ (s .fault).line.driving = none
      ∧ (s .fault).post.role = true ∧ (s .fault).loader.station ≠ 0
      ∧ (s .fault).post.board.find? (·.isFor 5 0) = none ∧ (s .fault).post.board.length = 16
      ∧ BoardInForm (s .fault).post.board
      ∧ (s .fault).post.board.find? (fun e => e.state == .takenByOther || decide (e.kind.rank < CallKind.fault.rank))
          = some (boardEntry 20 .help .raised)
      ∧ (s .help).post.board.find? (fun e => e.state == .takenByOther || decide (e.kind.rank < CallKind.help.rank))
          = none := by
  refine ⟨by decide, by decide, by decide, by decide, by decide, by decide, ⟨by decide, by decide⟩, by decide, by decide⟩

theorem witness_CutFrameStaysQueued :
    (sendingFrame (.order .day) live).power = .running ∧ (sendingFrame (.order .day) live).line.driving = none
      ∧ (sendingFrame (.order .day) live).line.onLine = some (.order .day) := by decide

def drivingOf (t : Trigger) : State := live.setLine { live.line with receiver := .brk, driving := some t }

theorem witness_TriggerEnds :
    (drivingOf .alert).power = .running ∧ (drivingOf .alert).line.driving = some .alert
      ∧ (drivingOf .alert).line.receiver ≠ .quiet ∧ (drivingOf .hush).line.driving = some .hush
      ∧ (drivingOf .hush).line.receiver = .brk
      ∧ ((drivingOf .hush).setReceiver .frame).line.receiver ∈ [Receiver.frame, .discard, .codeWait]
      ∧ ((drivingOf .hush).setReceiver .frame).line.receiver = .frame := by decide

theorem witness_ReceiverEndsInDiscard :
    (hearing live).power = .running ∧ receiving (hearing live) = true
      ∧ judgeFrame [0x83, 7, 1, 0, 8] = .headerLost ∧ judgeFrame [9, 0, 0, 0, 0b00001010] = .discarded false
      ∧ judgeFrame ((Frame.answer 3 [1, 2]).wire 7) = .accepted false 7 (.answer 3 [1, 2])
      ∧ awaitsCode (receivingIn .codeWait) = true :=
  ⟨rfl, rfl, test_header_corrected.2, test_unknown_kind, by decide +kernel, rfl⟩

theorem room_live : HasRoom live := by unfold HasRoom; decide

def queueing (q : List QueueEntry) (n : Nat) : State := live.setLine { live.line with queue := q, refresh := some n }

/-- Due at 10, with an empty queue, and with a full one that holds a bulletin. -/
theorem witness_RefreshQueuesABulletin :
    (queueing [] 10).power = .running ∧ (queueing [] 10).line.refresh = some 10 ∧ HasRoom (queueing [] 10)
      ∧ Waits (queueing fullQueue 10) (fun f => f.isBulletin = true) :=
  ⟨rfl, rfl, by unfold HasRoom; decide, ⟨_, List.mem_cons_self, rfl⟩⟩

/-- An own bulletin that completes. -/
theorem witness_RefreshQueuesABulletin_complete :
    let s := sendingFrame (.bulletin false 1 (said .clear .day)) (queueing [] 4)
    s.power = .running ∧ s.line.driving = none ∧ s.line.onLine = some (.bulletin false 1 (said .clear .day))
      ∧ s.line.refresh = some 4 := by decide

/-- The same on an Idle line, with another station's start bit and without. -/
theorem witness_RefreshQueuesABulletin_idle :
    let s := (queueing [] 10).setReceiver .quiet
    strapped s = true ∧ loadComplete s = true ∧ s.line.fault = false ∧ s.line.receiver = .quiet ∧ s.line.onLine = none
      ∧ s.line.driving = none ∧ s.line.alertHeld = false ∧ s.line.startBits.head? ≠ some true
      ∧ (s.setLine { s.line with startBits := [true] }).line.startBits.head? = some true := by decide

theorem heard_bulletin (h : Level) (p : Posture) : judgeFrame ((Frame.bulletin (h == .fire) 9 (said h p)).wire 7)
    = .accepted false 7 (.bulletin (h == .fire) 9 (said h p)) := by
  cases h <;> cases p <;> decide +kernel

theorem witness_NeighbourBulletinFillsItsEntry :
    Hears ((Frame.bulletin false 9 (said .clear .day)).wire 7) false 7 (.bulletin false 9 (said .clear .day)) (hearing live)
      ∧ (7 : Station) ≠ 0 ∧ (7 : Station) ≠ (hearing live).loader.station
      ∧ entryFor (hearing live) 7 = some 0
      ∧ entryAt (hearing live) 0 = some ⟨⟨7, 3, .right, some .forward, .own 0⟩, .unheard, none, none⟩ :=
  ⟨⟨rfl, rfl, heard_bulletin .clear .day⟩, by decide, by decide, by decide, by decide⟩

theorem witness_OwnNumberIsADuplicate :
    Hears ((Frame.bulletin false 9 (said .clear .day)).wire 0) false 0 (.bulletin false 9 (said .clear .day)) (hearing live)
      ∧ Hears ((Frame.bulletin false 9 (said .clear .day)).wire 5) false 5 (.bulletin false 9 (said .clear .day)) (hearing live)
      ∧ (5 : Station) ≠ 0 ∧ 5 = (hearing live).loader.station ∧ (hearing live).peers.duplicate = false := by
  refine ⟨⟨rfl, rfl, by decide +kernel⟩, ⟨rfl, rfl, by decide +kernel⟩, by decide, rfl, rfl⟩

theorem witness_FireHeardMeansEvacuate :
    Hears ((Frame.bulletin true 9 (said .fire .day)).wire 7) false 7 (.bulletin true 9 (said .fire .day)) (hearing live)
      ∧ (7 : Station) ≠ 0 ∧ (7 : Station) ≠ (hearing live).loader.station ∧ (said .fire .day).hazard = .fire
      ∧ 7 ∉ (hearing live).control.fireSet ∧ (hearing live).control.posture = .day :=
  ⟨⟨rfl, rfl, heard_bulletin .fire .day⟩, by decide, by decide, rfl, by decide, rfl⟩

/-- A fire bulletin in Startup, and one in Evacuate with a provisional base. -/
theorem witness_FireHeardMeansEvacuate_base :
    Hears ((Frame.bulletin true 9 (said .fire .evacuate)).wire 7) false 7 (.bulletin true 9 (said .fire .evacuate))
        (hearing (starting 0))
      ∧ (hearing (starting 0)).control.posture = .startup
      ∧ ((hearing evacuating).setControl { evacuating.control with provisionalBase := true }).control.posture = .evacuate :=
  ⟨⟨rfl, rfl, heard_bulletin .fire .evacuate⟩, rfl, rfl⟩

theorem witness_BulletinIsAdoptedInStartup :
    Hears ((Frame.bulletin false 9 (said .watch .evacuate)).wire 7) false 7 (.bulletin false 9 (said .watch .evacuate))
        (hearing (starting 0))
      ∧ (7 : Station) ≠ 0 ∧ (7 : Station) ≠ (hearing (starting 0)).loader.station ∧ (said .watch .evacuate).hazard ≠ .fire
      ∧ (hearing (starting 0)).control.posture = .startup ∧ (said .watch .evacuate).posture = .evacuate
      ∧ (hearing live).control.posture ≠ .startup ∧ (hearing live).control.provisionalBase = false :=
  ⟨⟨rfl, rfl, heard_bulletin .watch .evacuate⟩, by decide, by decide, by decide, rfl, rfl, by decide, rfl⟩

theorem witness_BulletinIsAdoptedInStartup_provisional :
    let s := (hearing evacuating).setControl { evacuating.control with provisionalBase := true }
    s.power = .running ∧ receiving s = true ∧ s.control.posture ≠ .startup ∧ s.control.provisionalBase = true := by decide

/-- Due at 25, 60 and 60; not due at 24 and 59. -/
theorem witness_PeerTimersExpire :
    (entryAt (withEntry .current 25 live) 0).map (fun e => (e.status, e.age)) = some (.current, some 25)
      ∧ (entryAt (withEntry .stale 60 live) 0).map (fun e => (e.status, e.age)) = some (.stale, some 60)
      ∧ (entryAt (withEntry .current 24 live) 0).map (fun e => (e.status, e.age)) = some (.current, some 24)
      ∧ (entryAt (withEntry .stale 59 live) 0).map (fun e => (e.status, e.age)) = some (.stale, some 59)
      ∧ (live.setPeers { live.peers with duplicate := true, duplicateTimer := some 60 }).peers.duplicateTimer = some 60 := by
  decide

/-- A Duplicate fault at a station without peer entries, due at 60 and not at 59. -/
theorem witness_PeerTimersExpire_duplicate :
    let s := fun (n : Nat) => live.setPeers { entries := [], duplicate := true, duplicateTimer := some n }
    (s 60).power = .running ∧ (s 60).peers.entries = [] ∧ (s 60).peers.duplicateTimer = some 60
      ∧ (s 59).peers.duplicateTimer = some 59 ∧ (59 : Nat) < 60 := by decide

/-- An entry in each status, each hazard's clause, and sums of 254 and 255. -/
theorem witness_WaysOutAreWeighed :
    let e : Entry := ⟨⟨7, 3, .right, none, .own 0⟩, .stale, some 30, some heard⟩
    let leaves := live.doors.leaves
    { e with status := .unheard }.status = .unheard ∧ penalty leaves e = some 8 ∧ e.heard = some heard ∧ heard.hazard ≠ .fire
      ∧ passageClass leaves e.fixed.door heard ≠ some .blocked ∧ { heard with hazard := .fire }.hazard = .fire
      ∧ heard.hops = 24 ∧ { heard with cost := 255 }.cost = 255 ∧ { heard with nextHop := .station 5 }.nextHop = .station 5
      ∧ 243 + e.fixed.weight + 8 = 254 ∧ 244 + e.fixed.weight + 8 = 255
      ∧ (some leaf0).bind shownClass = some .usable
      ∧ (some { leaf0 with state := .releasing }).bind shownClass = some .slow
      ∧ (some { leaf0 with state := .secured }).bind shownClass = some .blocked := by decide

/-- An Unheard entry, as the load makes it, a Lost one, and one without heard fields. -/
theorem witness_WaysOutAreWeighed_unheard :
    (entryAt live 0).map (fun e => (e.status, e.heard)) = some (.unheard, none)
      ∧ (entryAt (withEntry .lost 200 live) 0).map (·.status) = some .lost := by decide

theorem witness_RouteChoiceKeepsTheMargin :
    (candidateVia ⟨2, 0⟩ (Eight.fill noWay) .none).cost = 255 ∧ (candidateVia ⟨2, 0⟩ (Eight.fill noWay) .exit).cost < 255
      ∧ (⟨2, 0⟩ : Candidate).cost ≤ 255 ∧ (∀ j, ((Eight.fill noWay).get j).cost ≤ 255)
      ∧ HeardHopsBounded (withEntry .current 0 live) ∧ (computeRoute (withEntry .current 0 live)).route.cost < 255 := by
  refine ⟨by decide, by decide, by decide, by decide, ?_, by decide +kernel⟩
  intro e he h hh
  simp [withEntry, live, demo, State.setPeers] at he
  rcases he with rfl | rfl <;> simp_all [heard, heardOf, said, Config.hopCeiling]
  all_goals (subst hh; decide)

theorem witness_DoorContactMovesTheLeaf :
    live.power = .running ∧ (live.doors.leaves.get 0).role = .configured leafType false [0]
      ∧ (live.doors.leaves.get 0).doorClosed = true
      ∧ ((withLeaf { leaf0 with doorClosed := false, state := .opened } live).doors.leaves.get 0).doorClosed = false
      ∧ ((withLeaf { leaf0 with doorClosed := false, state := .opened } live).doors.leaves.get 0).state
          ∈ [LeafState.opened, .forced, .propped]
      ∧ ((withLeaf { leaf0 with state := .secured } live).doors.leaves.get 0).state = .secured := by decide

/-- Leaf 0 as a provisional record, open; leaf 1 is unconfigured. -/
theorem witness_DoorContactMovesTheLeaf_others :
    let s := withLeaf { Leaf.atReset with pressLatch := true } (loading .firstRead)
    s.power = .running ∧ (s.doors.leaves.get 0).role = .provisional ∧ (s.doors.leaves.get 0).doorClosed ≠ true
      ∧ (s.doors.leaves.get 0).boltThrown ≠ true ∧ (s.doors.leaves.get 1).role = .dropped := by decide

theorem witness_BoltContactMovesTheLeaf :
    (live.doors.leaves.get 0).role = .configured leafType false [0] ∧ (live.doors.leaves.get 0).boltThrown = false
      ∧ (live.doors.leaves.get 0).state = .closed ∧ demandNow live (live.doors.leaves.get 0) = false
      ∧ ((withLeaf { leaf0 with boltThrown := true, state := .secured } (inPosture .night .night)).doors.leaves.get 0).boltThrown
          = true
      ∧ demandNow (withLeaf { leaf0 with boltThrown := true, state := .secured } (inPosture .night .night))
          { leaf0 with boltThrown := true, state := .secured } = true := by decide

theorem witness_PressGrantsAPass :
    let pressed := { leaf0 with boltThrown := true, state := .secured, pressLatch := true }
    let s := withLeaf pressed (inPosture .night .night)
    let again := withLeaf { pressed with pass := some 7 } (inPosture .night .night)
    let open' := withLeaf { leaf0 with state := .opened, pressLatch := true } live
    s.power = .running ∧ (s.doors.leaves.get 0).role = .configured leafType false [0]
      ∧ (s.doors.leaves.get 0).pressLatch = true ∧ s.control.posture = .night ∧ (s.doors.leaves.get 0).pass = none
      ∧ (s.doors.leaves.get 0).state ∈ [LeafState.secured, .securing, .jammed .lock]
      ∧ demandNow s (s.doors.leaves.get 0) = true ∧ (again.doors.leaves.get 0).pass.isSome = true
      ∧ (open'.doors.leaves.get 0).pressLatch = true ∧ (open'.doors.leaves.get 0).pass = none
      ∧ (open'.doors.leaves.get 0).state ∉ [LeafState.secured, .securing, .jammed .lock] := by decide

/-- The bolt time due at 2 and not at 1, the prop time at 30, the pass at 8. -/
theorem witness_LeafTimersExpire :
    let at0 := fun (lf : Leaf) => (withLeaf lf (inPosture .night .night)).doors.leaves.get 0
    let travelling := fun (x : LeafState) (n : Nat) => { leaf0 with state := x, bolt := some n }
    (inPosture .night .night).power = .running ∧ leafType.boltTime = 2
      ∧ (at0 (travelling .securing 2)).role = .configured leafType false [0] ∧ (at0 (travelling .securing 2)).bolt = some 2
      ∧ (at0 (travelling .securing 2)).state = .securing ∧ (at0 (travelling .releasing 2)).state = .releasing
      ∧ (at0 (travelling .releasing 1)).bolt = some 1 ∧ propTime (inPosture .night .night) = 30
      ∧ (at0 { leaf0 with state := .opened, prop := some 30 }).state = .opened
      ∧ (at0 { leaf0 with state := .opened, prop := some 30 }).prop = some 30
      ∧ (at0 { leaf0 with pass := some 8 }).pass = some 8 ∧ (at0 { leaf0 with pass := some 8 }).state = .closed
      ∧ (at0 { leaf0 with pass := some 8 }).boltThrown = false := by decide

/-- The pass due at 8 at a leaf that reverses, one that is jammed toward release and an Open one. -/
theorem witness_LeafTimersExpire_pass :
    let at0 := fun (x : LeafState) =>
      (withLeaf { leaf0 with state := x, pass := some 8, magnet := false } (inPosture .night .night)).doors.leaves.get 0
    (at0 .releasing).pass = some 8 ∧ (at0 .releasing).state ∈ [LeafState.closed, .releasing, .jammed .release]
      ∧ (at0 (.jammed .release)).state ∈ [LeafState.closed, .releasing, .jammed .release]
      ∧ demandNow (inPosture .night .night) { at0 .releasing with pass := none } = true
      ∧ (at0 .opened).state ∈ [LeafState.opened, .forced, .propped] ∧ (at0 .opened).prop = none
      ∧ (at0 .opened).magnet = false ∧ (at0 .forced).state ∈ [LeafState.opened, .forced, .propped] := by decide

def withInput (i : Fin 6) (x : Input) (s : State) : State := s.setInput i x

theorem witness_InputLevelIsTaken :
    ((withInput 5 ⟨true, false⟩ live).calls.inputs.get 5).active = true ∧ (live.calls.inputs.get 0).active = false
      ∧ inputKind live 0 = .helpPoint ∧ inputKind live 1 = .firePoint ∧ loadComplete (loading .firstRead) = false
      ∧ loadComplete live = true ∧ inputKind live 2 = .motion ∧ (inPosture .night .night).control.posture = .night := by
  decide

/-- A free slot 0, all eight slots open, and a call that is open already. -/
theorem witness_HelpPressRaisesOneCall :
    ((withInput 0 ⟨true, true⟩ live).calls.inputs.get 0).pressed = true ∧ inputKind live 0 = .helpPoint
      ∧ hasCall live (.input 0) = false ∧ freeSlot live = some 0 ∧ HasRoom live
      ∧ freeSlot (withSlots (Eight.fill { helpCall .raised with source := some .line }) live) = none
      ∧ hasCall (withSlots (Eight.fill { helpCall .raised with source := some .line }) live) (.input 0) = false
      ∧ (∀ i : Fin 8, ((Eight.fill (helpCall .raised)).get i).kind ≠ none)
      ∧ hasCall (withSlots (Eight.fill (helpCall .raised)) live) (.input 0) = true := by
  refine ⟨by decide, by decide, by decide, by decide, room_live, by decide, by decide, by decide, by decide⟩

/-- A full queue with no notice and eleven refusable entries. -/
theorem witness_HelpPressRaisesOneCall_full :
    let s := (withInput 0 ⟨true, true⟩ live).setLine { live.line with queue := fullQueue, placed := 12 }
    ¬HasRoom s ∧ ¬Waits s (fun f => f.isNoticeOf 0 = true) ∧ freeSlot s = some 0 ∧ hasCall s (.input 0) = false
      ∧ ∃ e ∈ s.line.queue, e.frame.refusable = true ∧ e.inFlight = false := by
  refine ⟨by unfold HasRoom; decide, ?_, by decide, by decide, ⟨⟨.take 7 0 0, 1, false⟩, by decide, by decide⟩⟩
  rintro ⟨e, he, h⟩
  have : ∀ e ∈ fullQueue, e.frame.isNoticeOf 0 = false := by decide
  exact absurd h (by rw [this e he]; decide)

/-- Slot 7 is Taken and outranked by a Fire call; with every slot Raised nothing is. -/
theorem witness_FullSlotsEvictOrWait :
    let full := withSlots ((Eight.fill (helpCall .raised)).set 7 (helpCall (.taken 40))) live
    freeSlot full = none ∧ (full.calls.slots.get 7).state = .taken 40
      ∧ kindCode (full.calls.slots.get 7).kind < (kindOf full (.head 0)).rank
      ∧ (∀ j, outranked (kindOf full (.head 0)).rank (full.calls.slots.get j) = true →
          (full.calls.slots.get j).age < (full.calls.slots.get 7).age
            ∨ ((full.calls.slots.get j).age = (full.calls.slots.get 7).age ∧ 7 ≤ j))
      ∧ (∀ j, outranked (kindOf full (.input 0)).rank (full.calls.slots.get j) = false)
      ∧ .input 0 ∉ full.calls.pending := by decide

/-- Slot 3 the lowest Free one; sources that wait before and after the one served; an asserted Motion source. -/
theorem witness_FullSlotsEvictOrWait_waiting :
    let s := waitingSources (withSlots (((Eight.fill (helpCall .raised)).set 3 Slot.atReset).set 5 Slot.atReset)
      (withMotion (inPosture .night .night)))
    (s.calls.slots.get 3).state = .free ∧ (∀ j : Fin 8, j < 3 → (s.calls.slots.get j).state ≠ .free)
      ∧ s.calls.pending = [.line] ++ .input 1 :: [.profile] ∧ Source.input 1 ∉ [Source.line]
      ∧ Source.input 1 ∉ [Source.profile] ∧ (∀ x ∈ [Source.line], (kindOf s x).rank < (kindOf s (.input 1)).rank)
      ∧ (∀ x ∈ [Source.profile], (kindOf s x).rank ≤ (kindOf s (.input 1)).rank)
      ∧ hasCall s (.input 0) = true ∧ hasCall s (.headFault 1) = false ∧ live.calls.pending = []
      ∧ asserted s 2 = true ∧ (∀ j : Fin 6, j ≠ 2 → asserted s j = true → hasCall s (.input j) = true)
      ∧ (∀ k : Fin 6, asserted live k = true → hasCall live (.input k) = true) := by decide

/-- R114 and R115 by hand: of three pending sources two are served when two slots are Free, the Fire point first, then
the earlier of the two Fault sources; then no slot is left for the Motion source, which joins the list. -/
theorem test_pending_sources_served :
    let s := waitingSources (withSlots (((Eight.fill (helpCall .raised)).set 3 Slot.atReset).set 5 Slot.atReset)
      (withMotion (inPosture .night .night)))
    let t := requestMotion (servePending 8 s)
    (t.calls.slots.get 3).source = some (.input 1) ∧ (t.calls.slots.get 5).source = some .line
      ∧ t.calls.pending = [.profile, .input 2] := by decide +kernel

theorem witness_FirePressSetsTheLatch :
    (withInput 1 ⟨true, true⟩ live).power = .running ∧ FireInEvacuate (withInput 1 ⟨true, true⟩ live)
      ∧ ((withInput 1 ⟨true, true⟩ live).calls.inputs.get 1).pressed = true
      ∧ inputKind (withInput 1 ⟨true, true⟩ live) 1 = .firePoint :=
  ⟨rfl, fun h => (by cases h), rfl, rfl⟩

/-- A zone below Fire at an unstrapped station, before the load, and on a line that takes the Alert. -/
theorem witness_FirePressSetsTheLatch_alert :
    live.hazard.zone ≠ .fire ∧ (live.setLoader { live.loader with station := 0 }).loader.station = 0
      ∧ (loading .firstRead).loader.station ≠ 0 ∧ loadComplete (loading .firstRead) = false
      ∧ live.loader.station ≠ 0 ∧ loadComplete live = true ∧ live.line.fault = false ∧ live.line.receiver ≠ .brk
      ∧ live.line.receiver ≠ .codeWait ∧ ¬(live.line.driving = some .hush ∧ live.line.receiver = .discard) := by decide

/-- Due at 5 in Raised and at 30 in Taken; not at 4 and 29. -/
theorem witness_RepeatAnnouncesTheCall :
    let slot0 := fun (x : SlotState) (n : Nat) =>
      (withSlots (Eight.fill { helpCall x with repeatTimer := some n }) live).calls.slots.get 0
    HasRoom (withSlots (Eight.fill (helpCall .raised)) live) ∧ (slot0 .raised 5).isOpen = true
      ∧ (slot0 .raised 5).repeatTimer = some 5 ∧ (slot0 (.taken 7) 30).repeatTimer = some 30
      ∧ (slot0 (.taken 7) 29).isOpen = true ∧ (slot0 (.taken 7) 29).repeatTimer = some 29
      ∧ (slot0 (.taken 7) 29).state ≠ .raised ∧ (slot0 .raised 4).repeatTimer = some 4 := by
  refine ⟨room_live, by decide⟩

theorem witness_GalleryKeyClosesAllButFire :
    live.calls.grsOn = false ∧ live.calls.pending = [] ∧ (∀ k : Fin 6, asserted live k = false)
      ∧ (live.setCalls { live.calls with grsOn := true }).calls.grsOn = true := by decide

def withHelp (state : SlotState) : State := withSlots ((Eight.fill Slot.atReset).set 0 (helpCall state)) (hearing live)

/-- Sources that wait while the key turns, a Fire point among them, and a Motion source that is asserted. -/
theorem witness_GalleryKeyClosesAllButFire_waiting :
    let s := waitingSources (withMotion (inPosture .night .night))
    s.calls.grsOn = false ∧ s.calls.pending.filter (fun src => kindOf s src == .fire) = [.input 1]
      ∧ asserted s 2 = true := by decide

/-- The take is for station 5; one is for station 6, one from source 0, one for slot 8. -/
theorem witness_TakeIsJudged :
    Hears ((Frame.take 5 (wideSlot 0) 1).wire 7) false 7 (.take 5 (wideSlot 0) 1) (withHelp .raised)
      ∧ addressedHere 5 (withHelp .raised) = true ∧ (7 : Station) ≠ 0
      ∧ Hears ((Frame.take 6 (wideSlot 0) 1).wire 0) false 0 (.take 6 (wideSlot 0) 1) (withHelp .raised)
      ∧ addressedHere 6 (withHelp .raised) = false
      ∧ Hears ((Frame.take 5 8 1).wire 7) false 7 (.take 5 8 1) (withHelp .raised) := by
  refine ⟨⟨rfl, rfl, by decide +kernel⟩, by decide, by decide, ⟨rfl, rfl, by decide +kernel⟩, by decide,
    ⟨rfl, rfl, by decide +kernel⟩⟩

theorem witness_CancelIsJudged :
    Hears ((Frame.cancel 5 (wideSlot 0) 1).wire 7) false 7 (.cancel 5 (wideSlot 0) 1) (withHelp (.taken 7))
      ∧ addressedHere 5 (withHelp (.taken 7)) = true ∧ (withHelp (.taken 7)).calls.pending = []
      ∧ (∀ k : Fin 6, asserted (withHelp (.taken 7)) k = false) ∧ ((withHelp (.taken 7)).calls.slots.get 0).seq = 1
      ∧ ((withHelp (.taken 7)).calls.slots.get 0).kind ≠ some .fire
      ∧ ((withHelp (.taken 7)).calls.slots.get 0).state = .taken 7
      ∧ ((withHelp (.taken 40)).calls.slots.get 0).state = .taken 40 ∧ (40 : Station) ≠ 7
      ∧ ((withHelp .free).calls.slots.get 0).isOpen = false ∧ HasRoom (withHelp .free)
      ∧ Hears ((Frame.cancel 5 8 1).wire 7) false 7 (.cancel 5 8 1) (withHelp .raised) := by
  refine ⟨⟨rfl, rfl, by decide +kernel⟩, by decide, by decide, by decide, by decide, by decide, by decide, by decide,
    by decide, by decide, by unfold HasRoom; decide, ⟨rfl, rfl, by decide +kernel⟩⟩

/-- The same cancel with sources that wait. -/
theorem witness_CancelIsJudged_waiting :
    let s := waitingSources (withHelp .raised)
    Hears ((Frame.cancel 5 (wideSlot 0) 1).wire 7) false 7 (.cancel 5 (wideSlot 0) 1) s ∧ s.calls.pending ≠ []
      ∧ (s.calls.slots.get 0).seq = 1 ∧ (s.calls.slots.get 0).state = .raised
      ∧ ¬((s.calls.slots.get 0).kind = some .fire ∧ s.hazard.zone = .fire) := by
  refine ⟨⟨rfl, rfl, by decide +kernel⟩, by decide, by decide, by decide, by decide⟩

theorem heard_notice (st : NoticeState) : judgeFrame ((Frame.notice 9 (notice st (some .help) 1)).wire 7)
    = .accepted false 7 (.notice 9 (notice st (some .help) 1)) := by
  cases st <;> decide +kernel

theorem witness_NoticeGoesOnTheBoard :
    let hear := fun (st : NoticeState) (s : State) =>
      Hears ((Frame.notice 9 (notice st (some .help) 1)).wire 7) false 7 (.notice 9 (notice st (some .help) 1)) s
    hear .raised (hearing live) ∧ (hearing live).post.role = true ∧ (7 : Station) ≠ 0
      ∧ ((hearing live).setPost Post.atReset).post.role = false
      ∧ hear .cleared (hearing live) ∧ (notice .raised none 1).kind = none
      ∧ (withBoard [boardEntry 7 .help .raised] (hearing live)).post.board.find? (·.isFor 7 0)
          = some (boardEntry 7 .help .raised)
      ∧ (boardEntry 7 .help .raised).seq = (notice .raised (some .help) 1).seq
      ∧ (boardEntry 7 .help .raised).seq ≠ (notice .raised (some .help) 2).seq
      ∧ (hearing live).post.board.find? (·.isFor 7 0) = none
      ∧ (withBoard ((fullBoard .help).take 15) (hearing live)).post.board.length < 16 :=
  ⟨⟨rfl, rfl, heard_notice _⟩, rfl, by decide, rfl, ⟨rfl, rfl, heard_notice _⟩, rfl, by decide, by decide, by decide,
    by decide, by decide⟩

/-- A held selection on the board that the notice of its call removes, and one that stays. -/
theorem witness_NoticeGoesOnTheBoard_held :
    let s := hearing (withHeld 7 (withBoard [boardEntry 7 .help .raised, boardEntry 9 .fault .raised] live))
    s.post.held = some (7, 0) ∧ (∃ e ∈ s.post.board, e.station = 7 ∧ e.slot = 0)
      ∧ (∀ e ∈ s.post.board.filter (fun e => !(e.station == 7 && e.slot == 0 && e.seq == 1)),
          ¬(e.station = 7 ∧ e.slot = 0))
      ∧ (withHeld 9 s).post.held = some (9, 0)
      ∧ (∃ e ∈ s.post.board.filter (fun e => !(e.station == 7 && e.slot == 0 && e.seq == 1)),
          e.station = 9 ∧ e.slot = 0) := by
  refine ⟨rfl, ⟨_, List.mem_cons_self, rfl, rfl⟩, by decide, rfl, ⟨boardEntry 9 .fault .raised, by decide, rfl, rfl⟩⟩

/-- A full board of Help entries is met by a Help call, which is dropped, and by a Fault call. -/
theorem witness_FullBoardEvictsOrDrops :
    Hears ((Frame.notice 9 (notice .raised (some .help) 1)).wire 7) false 7 (.notice 9 (notice .raised (some .help) 1))
        (withBoard (fullBoard .help) (hearing live))
      ∧ (withBoard (fullBoard .help) (hearing live)).post.board.find? (·.isFor 7 0) = none
      ∧ (fullBoard .help).length = 16
      ∧ (fullBoard .help).find? (fun e => e.state == .takenByOther || decide (e.kind.rank < CallKind.help.rank)) = none
      ∧ (fullBoard .help).find? (fun e => e.state == .takenByOther || decide (e.kind.rank < CallKind.fault.rank))
          = some (boardEntry 20 .help .raised) := by
  refine ⟨⟨rfl, rfl, heard_notice _⟩, by decide, by decide, by decide, by decide⟩

def withKeys (down : List Key) (p : Panel) (s : State) : State := s.setPost { s.post with down := down, panel := p }

theorem witness_TwoKeysLockThePanel :
    keyAt ⟨0, 0⟩ = .take ∧ live.post.role = true ∧ Key.take ∉ live.post.down ∧ Key.take ∈ (withKeys [.take, .next] .locked live).post.down
      ∧ (withKeys [.take, .next] .locked live).post.panel = .locked := by decide

def holding (k : Key) (e : BoardEntry) : State := withBoard [e] (withKeys [k] (.held k) live)

theorem witness_HeldKeyActs :
    keyAt ⟨0, 0⟩ = .take ∧ (holding .take (boardEntry 7 .help .raised)).post.role = true
      ∧ (holding .take (boardEntry 7 .help .raised)).post.panel = .held .take
      ∧ Key.take ∈ (holding .take (boardEntry 7 .help .raised)).post.down ∧ strapped live = true ∧ HasRoom live
      ∧ selected (holding .take (boardEntry 7 .help .raised)).post = some (boardEntry 7 .help .raised)
      ∧ (boardEntry 7 .help .raised).state = .raised ∧ (boardEntry 7 .help .takenByMe).state ≠ .raised
      ∧ selected (withKeys [.cancel] (.held .cancel) live).post = none := by
  refine ⟨rfl, by decide, by decide, by decide, by decide, room_live, by decide, by decide, by decide, by decide⟩

/-- An unstrapped post, and a full queue. -/
theorem witness_HeldKeyActs_refused :
    let e := boardEntry 7 .help .raised
    let unstrapped := (holding .cancel e).setLoader { live.loader with station := 0 }
    let full := (holding .take e).setLine { live.line with queue := fullQueue }
    strapped unstrapped = false ∧ Key.cancel ∈ [Key.take, .cancel, .hush, .day, .night, .restore]
      ∧ unstrapped.post.panel = .held .cancel ∧ strapped full = true ∧ ¬HasRoom full
      ∧ (selected full.post).any (·.state == .raised) = true ∧ full.post.panel = .held .take := by
  refine ⟨by decide, by decide, by decide, by decide, by unfold HasRoom; decide, by decide, by decide⟩

/-- Cancel of a Silent entry that the selection holds; Next on an empty board. -/
theorem witness_HeldKeyActs_held :
    let s := withHeld 7 (holding .cancel (boardEntry 7 .help .raised))
    selected s.post = some (boardEntry 7 .help .raised) ∧ (boardEntry 7 .help .raised).silentMark = true
      ∧ s.post.held = some (7, 0) ∧ selected (withKeys [.next] (.held .next) live).post = none := by decide

/-- A board whose display order is not its list order, each entry for its own station and slot. -/
theorem witness_PostTimersExpire_order :
    let board := [boardEntry 7 .help .raised, boardEntry 9 .fire .takenByMe, boardEntry 11 .help .raised]
    (board.map (fun e => (e.station, e.slot))).Nodup
      ∧ displayOrder board = [boardEntry 9 .fire .takenByMe] ++ boardEntry 7 .help .raised :: [boardEntry 11 .help .raised]
      ∧ (boardEntry 7 .help .raised).state = .raised
      ∧ (∀ x ∈ [boardEntry 9 .fire .takenByMe], x.state ≠ .raised)
      ∧ board.find? (·.isFor 11 0) = some (boardEntry 11 .help .raised)
      ∧ displayOrder [boardEntry 9 .fire .takenByMe] = [boardEntry 9 .fire .takenByMe] := by decide

/-- The return timer at 20, the last-heard time at 90, the blink and the chime at 2. -/
theorem witness_PostTimersExpire :
    (live.setPost { live.post with returnTimer := some 20 }).post.returnTimer = some 20
      ∧ (boardEntry 7 .help .raised).lastHeard = 90
      ∧ (live.setPost { live.post with blink := some ⟨2, true⟩ }).post.blink = some ⟨2, true⟩
      ∧ (live.setPost { live.post with helpChime := some 2 }).post.helpChime = some 2 := by decide

/-- A post with one entry, its pins shown, and the same without the post role. -/
theorem witness_PostTimersExpire_display :
    let s := showOutputs (withBoard [boardEntry 23 .help .raised] live)
    s.power = .running ∧ PinsAgree s ∧ s.post.role = true ∧ s.lamp.test = none ∧ s.post.blink = none
      ∧ selected s.post = some (boardEntry 23 .help .raised)
      ∧ PinsAgree (showOutputs (live.setPost Post.atReset)) ∧ (live.setPost Post.atReset).post.role = false := by
  refine ⟨rfl, rfl, rfl, rfl, rfl, by decide, rfl, rfl⟩

def withLamp (l : Lamp) : State := live.setLamp l

theorem witness_LampTimersExpire :
    (withLamp { live.lamp with pattern := .chase }).lamp.pattern = .chase
      ∧ (withLamp { live.lamp with pattern := .flash }).lamp.pattern = .flash
      ∧ (withLamp { live.lamp with sound := .tone }).lamp.sound = .tone
      ∧ (withLamp { live.lamp with test := some 3 }).lamp.test = some 3 ∧ live.lamp.test = none
      ∧ live.lamp.pattern = .steady := by decide

theorem witness_SurveyRequestIsAnswered :
    Hears ((Frame.request 5 3 7).wire 7) false 7 (.request 5 3 7) (hearing live) ∧ addressedHere 5 (hearing live) = true
      ∧ HasRoom (hearing live) ∧ ¬HasRoom (hearing (queueing fullQueue 0))
      ∧ addressedHere 6 (hearing live) = false := by
  refine ⟨⟨rfl, rfl, by decide +kernel⟩, by decide, room_live, by unfold HasRoom; decide, by decide⟩

theorem witness_SurveyAnswersHaveTheirLayout :
    (1 : Fin 16).val < live.peers.entries.length ∧ (7 : Fin 16).val < 8 ∧ (3 : Fin 16).val = (3 : Fin 4).val
      ∧ 4 ≤ (4 : Fin 16).val ∧ 7 ≤ (7 : Fin 16).val
      ∧ live.peers.entries[(0 : Fin 16).val]? = some ⟨⟨7, 3, .right, some .forward, .own 0⟩, .unheard, none, none⟩
      ∧ (live.doors.leaves.get 0).role = .configured leafType false [0]
      ∧ live.hazard.heads.get 0 = some (Head.fresh .smoke ⟨12, 24, 40⟩ false) ∧ (graded 3840 0).baseline = some 3840 := by
  decide

theorem witness_SecondAgesEverything :
    live.power = .running ∧ (withHelp .raised).calls.slots.toList.countP (·.isOpen) = 1 := by decide

/-! ### The invariants: they hold of a running station, and a step leads on from it -/

theorem witness_RouteFormKept : live.route.InForm ∧ exitWeight live ≤ 15 ∧ step live = .next live :=
  ⟨.inr ⟨rfl, rfl, rfl⟩, by decide, rfl⟩

theorem witness_RouteFormKept_entries :
    (∀ e ∈ (withEntry .current 0 live).peers.entries, e.InForm) ∧ HeardHopsBounded (withEntry .current 0 live) := by
  refine ⟨?_, witness_RouteChoiceKeepsTheMargin.2.2.2.2.1⟩
  intro e he
  simp [withEntry, live, demo, State.setPeers] at he
  rcases he with rfl | rfl
  · exact .inr ⟨by decide, rfl, rfl⟩
  · exact .inl ⟨rfl, rfl, rfl⟩

/-- A record of the exit, beside a way out through entry 0, which a computation would choose again. -/
theorem witness_RouteFormKept_follows :
    let s := computeRoute (withEntry .current 0 live)
    s.route.next = .exit ∧ RouteFollows s ∧ RouteInputsAgree s ∧ HeldAtReset s := by
  refine ⟨by decide +kernel, ⟨by decide +kernel, by decide +kernel, by decide +kernel⟩,
    ⟨by decide, fun h => absurd h (by decide), ?_⟩, fun h => (by cases h)⟩
  have linked : ∀ (n : Fin 4) (j : Fin 8), (entryAt (computeRoute (withEntry .current 0 live)) j).all (fun e =>
      decide (e.fixed.door = .own n →
        j ∈ ((computeRoute (withEntry .current 0 live)).doors.leaves.get n).links)) = true := by decide +kernel
  have noExit : exitLeaf (computeRoute (withEntry .current 0 live)) = none := by decide +kernel
  intro n c exitDoor links h
  refine ⟨fun hx => absurd (hx.symm.trans noExit) (by simp), fun j e he hd => ?_⟩
  have := linked n j
  rw [he] at this
  simpa [Leaf.links, h, hd] using this

theorem witness_QueueBoundKept : QueueBounded (queueing fullQueue 0).line.queue := by
  refine ⟨by decide, by decide, by decide⟩

/-- A take in flight with its frame on the line, an order behind it, and an Alert held. -/
theorem witness_QueueBoundKept_order :
    let l := { live.line with
               queue := [⟨.order .day, 3, true⟩, ⟨.take 7 0 0, 1, false⟩], placed := 4, onLine := some (.order .day)
               receiver := .frame, alertHeld := true }
    QueueOrdered l ∧ l.FlightAgrees ∧ l.Consistent := by
  refine ⟨⟨?_, by decide, by decide⟩, ⟨by decide, ?_⟩, ⟨fun _ => rfl, fun h => (by cases h), fun h => (by cases h)⟩⟩
  · unfold InSendingOrder
    decide
  · intro e he hf
    rcases List.mem_cons.1 he with rfl | he
    · rfl
    · obtain rfl := List.mem_singleton.1 he
      cases hf

/-- A trigger of another station moves the posture: a step of which a bulletin is due. -/
theorem witness_QueueBoundKept_bulletin :
    let s := (receivingIn .codeWait).setPending [.alertTrigger]
    after .alertTrigger (receivingIn .codeWait) (fun t => t.control.posture != s.control.posture) = true
      ∧ s.power = .running := by
  refine ⟨by decide +kernel, rfl⟩

theorem witness_FireMeansEvacuateKept :
    let s := evacuating.setHazard { live.hazard with zone := .fire, manualFire := true }
    let t := s.setControl { s.control with fireSet := [5] }
    FireInEvacuate t ∧ t.control.FireSetInEvacuate ∧ HeldAtReset t :=
  ⟨fun _ => ⟨rfl, by decide⟩, fun _ => rfl, fun h => (by cases h)⟩

theorem witness_FireMeansEvacuateKept_blocks :
    let s := decideSound (inPosture .evacuate .night |>.setLamp { live.lamp with brightness := 100 })
    ZoneAgrees s ∧ s.control.BaseAgrees ∧ BrightnessAgrees s ∧ SoundAgrees s ∧ s.lamp.sound = .tone := by
  refine ⟨rfl, ⟨fun h => (by cases h), fun h => (by cases h), fun _ => rfl⟩, rfl, rfl, rfl⟩

/-- A way out through entry 0 in Evacuate, whose strip runs forward. -/
def wayOut : State :=
  ((withEntry .current 0 evacuating).setRoute { live.route with next := .entry 0, cost := 8, hops := 1 }).setLamp
    { live.lamp with aspect := .right, placeholder := false, brightness := 100, pattern := .chase, sound := .tone }

theorem witness_FireMeansEvacuateKept_lamp :
    BlindAgrees wayOut ∧ LampFollows wayOut ∧ HeldAtReset wayOut ∧ LampFollows live ∧ step wayOut = .next wayOut := by
  refine ⟨?_, ⟨fun _ => ⟨rfl, fun h => (by cases h), fun h => (by cases h), ?_⟩, fun h => absurd rfl h,
      fun h => absurd h (by decide)⟩, fun h => (by cases h),
    ⟨fun h => (by cases h), fun _ => ⟨rfl, fun h => (by cases h), fun j e h => (by cases h)⟩,
      fun h => absurd h (by decide)⟩, rfl⟩
  · refine ⟨fun h => absurd h (by decide), fun h => ?_⟩
    rcases h with h | ⟨-, h⟩
    · exact absurd h (by decide)
    · exact absurd (h 0 _ rfl) (by decide)
  · intro j e h he
    obtain rfl : 0 = j := by simpa [wayOut] using h
    obtain rfl := Option.some.inj he
    exact ⟨rfl, fun h => (by cases h), fun d h => (by cases h; exact ⟨rfl, rfl⟩)⟩

/-- A leaf in travel, its pins shown. -/
theorem witness_LocksFollowDemandKept_pins :
    let s := showOutputs (withLeaf { leaf0 with state := .securing, bolt := some 1 } (inPosture .night .night))
    PropsAgree s ∧ BoltsTimed s ∧ PinsAgree s ∧ s.power = .running ∧ s.outputs.locks.get 0 = true
      ∧ (s.doors.leaves.get 1).role = .dropped := by
  refine ⟨?_, ?_, rfl, rfl, by decide, rfl⟩
  · intro n; revert n; decide
  · intro _ n
    fin_cases n <;> constructor <;> decide

theorem witness_LocksFollowDemandKept :
    LocksAgree (withLeaf { leaf0 with state := .secured } (inPosture .night .night))
      ∧ LocksAgree evacuating ∧ evacuating.control.posture = .evacuate
      ∧ (evacuating.doors.leaves.get 0).role = .configured leafType false [0] ∧ leafType.escape = true := by
  refine ⟨?_, ?_, rfl, rfl, rfl⟩ <;> (intro n; revert n; decide)

theorem witness_LocksFollowDemandKept_meet :
    let s := withLeaf { leaf0 with state := .secured, boltThrown := true } (inPosture .night .night)
    LocksMeetDemand s ∧ (s.doors.leaves.get 0).role = .configured leafType false [0]
      ∧ demandNow s (s.doors.leaves.get 0) = true ∧ (s.doors.leaves.get 0).state ∉ [LeafState.opened, .forced, .propped] := by
  refine ⟨?_, rfl, by decide, by decide⟩
  intro n c exitDoor links h
  fin_cases n
  · exact fun _ _ => rfl
  all_goals cases h

theorem witness_MagnetsFollowTheirRuleKept : MagnetsAgree live ∧ (live.doors.leaves.get 0).magnet = true := by
  refine ⟨?_, rfl⟩
  intro n; revert n; decide

theorem witness_MagnetsFollowTheirRuleKept_links : LinksAgree live := by
  intro n j hj e he
  match n with
  | 0 =>
    obtain rfl : j = 0 := by simpa [live, leaf0, Leaf.links, Four.get] using hj
    have : e = ⟨⟨7, 3, .right, some .forward, .own 0⟩, .unheard, none, none⟩ := by
      simpa [live, demo] using he.symm
    rw [this]
  | 1 | 2 | 3 => simp [live, Leaf.links, Four.get] at hj

theorem witness_OneCallPerSourceKept : OneCallPerSource (withHelp .raised).calls := by
  refine ⟨by decide, by decide, ?_⟩
  intro i _ src h
  cases h

theorem witness_OneCallPerSourceKept_records :
    let s := withBoard (fullBoard .help) (withKeys [.take] (.held .take) (withHelp .raised))
    (∀ i : Fin 8, (s.calls.slots.get i).InForm) ∧ BoardInForm s.post.board ∧ s.post.PanelAgrees := by
  refine ⟨?_, ⟨by decide, by decide⟩, fun _ => ⟨fun h => (by cases h), fun k h => ?_, fun h => (by cases h)⟩⟩
  · intro i
    fin_cases i <;> simp [Slot.InForm, withBoard, withKeys, withHelp, withSlots, helpCall, Eight.set, Eight.fill, Eight.get,
      Slot.atReset, Slot.isOpen]
  · cases h; rfl

theorem witness_OneCallPerSourceKept_selection :
    (withHeld 7 (withBoard [boardEntry 7 .help .raised] live)).post.SelectionAgrees := by
  refine ⟨fun h => (by cases h), fun st sl h => ⟨rfl, _, List.mem_cons_self, ?_⟩⟩
  cases h
  exact ⟨rfl, rfl⟩

theorem witness_UnstrappedStationNeverDrives :
    let s := live.setLoader { live.loader with station := 0 }
    UnstrappedSilent s ∧ HeldAtReset s ∧ s.power = .running ∧ s.loader.station = 0 :=
  ⟨fun _ _ => ⟨rfl, rfl, rfl, rfl, rfl⟩, fun h => (by cases h), rfl, rfl⟩

theorem witness_CountersNeverFall :
    ({ Counters.zero with stuckLine := 65535 }).Bounded ∧ (live.setPending [.lineStuck]).pending.head? ≠ some .powerOnReset := by
  refine ⟨by refine ⟨?_, ?_, ?_, ?_, ?_, ?_, ?_, ?_, ?_, ?_, ?_⟩ <;> decide, by decide⟩

/-- The longest answer, and a bulletin at its highest hop count and call count. -/
theorem witness_WrittenFrameIsReadBack :
    (Frame.answer 0x11 (List.replicate 24 255)).InRange ∧ (Frame.bulletin false 0 (said .clear .day)).InRange := by
  refine ⟨show (24 : Nat) ≤ 24 by decide, by decide, by decide, fun h => (by cases h)⟩

theorem witness_OneHeaderBitIsCorrected :
    ([0x82, 7, 1, 0, 8] : List Byte) = (headerBytes 2 7 1 0).set 0 ((headerBytes 2 7 1 0).getD 0 0 ^^^ (1#8 <<< 7)) := by decide +kernel

end Sys2Proof.Tests
end

section
/-! SUPPORT. What the two resets answer, and what the route unit advertises without a next hop: the proof that
the posture controller and the route unit start from the states of R43 and R79. -/

namespace Sys2Proof.Machine

/-! ## What a reset answers (R176) -/

theorem exec_powerOnReset (s : State) : exec .powerOnReset s = .next (resetState s) := rfl

theorem exec_pinReset_powered {s : State} (wire : List Byte) (h : s.power ≠ .off) :
    exec (.pinReset wire) s = .next (pinResetState (countCut wire s)) := if_neg h

theorem resetState_sameOutside_reset (s : State) :
    SameOutside [.pending, .freeUsed, .line] State.reset (resetState s) :=
  ((setPending_keeps _ _).then (setFreeUsed_keeps _ _)).then (setLine_keeps _ _)

theorem pinResetState_sameOutside_reset (s : State) :
    SameOutside [.pending, .freeUsed, .line, .counters, .loader] State.reset (pinResetState s) :=
  ((resetState_sameOutside_reset s).then (setCounters_keeps _ _)).then (setLoader_keeps _ _)

/-- R176: beside the line port, the counters and the reset cause, and what belongs to the interface, either reset
leaves `State.reset`, whatever the state before it. -/
theorem either_reset_answers {i : Instr} {s : State}
    (h : i = .powerOnReset ∨ ((∃ wire, i = .pinReset wire) ∧ s.power ≠ .off)) :
    Answers i s (SameOutside [.pending, .freeUsed, .line, .counters, .loader] State.reset) := by
  obtain rfl | ⟨⟨wire, rfl⟩, powered⟩ := h
  · exact ⟨_, exec_powerOnReset s, (resetState_sameOutside_reset s).widen (by decide)⟩
  · exact ⟨_, exec_pinReset_powered wire powered, pinResetState_sameOutside_reset _⟩

/-! ## What is advertised without a route (R74)

Fire in the zone advertises the same as no route does, so these hold in every zone. -/

theorem advertisedCost_of_noRoute {r : RouteRecord} (zone : Level) (h : r.cost = 255) :
    advertisedCost zone r = 255 := by
  rw [advertisedCost, h]
  exact ite_self _

theorem advertisedHop_of_next_none {s : State} (h : s.route.next = .none) : advertisedHop s = .none := by
  simp only [advertisedHop, h, ite_self]

theorem advertisedHops_of_next_none {s : State} (h : s.route.next = .none) : advertisedHops s = 0 := by
  simp only [advertisedHops, h, ite_self]

/-! ## The posture controller and the route unit (R43, R79) -/

/-- Settles O4: either reset leaves the control, route and lamp blocks of `State.reset`, and a route record
without a next hop advertises no route. -/
theorem postureAndRouteAfterReset : Obligations.PostureAndRouteAfterReset := by
  intro s i h
  obtain ⟨t, answer, kept⟩ := either_reset_answers h
  have control : t.control = Control.atReset := kept.control_eq
  have route : t.route = RouteRecord.atReset := kept.route_eq
  have lamp : t.lamp = Lamp.atReset := kept.lamp_eq
  have next : t.route.next = .none := congrArg RouteRecord.next route
  refine ⟨t, answer, ?_⟩
  simp only [control, route, lamp]
  exact ⟨rfl, rfl, rfl, rfl, rfl, rfl, rfl, rfl, rfl, rfl,
    advertisedCost_of_noRoute _ rfl, advertisedHop_of_next_none next, advertisedHops_of_next_none next,
    rfl, fun j => ⟨Eight.get_fill _ j, rfl, rfl⟩⟩

end Sys2Proof.Machine
end

section
/-! SUPPORT. What a heard bulletin hands on, and what the peer table makes of a neighbour's: the proof that a
neighbour's bulletin fills its entry and no other. -/

namespace Sys2Proof.Machine

/-! ## An accepted frame is handed on (R160, R161, R162) -/

@[simp] theorem endFrame_peers (corrected : Bool) (s : State) : (endFrame corrected s).peers = s.peers :=
  (endFrame_keeps s corrected).peers_eq

@[simp] theorem endFrame_loader (corrected : Bool) (s : State) : (endFrame corrected s).loader = s.loader :=
  (endFrame_keeps s corrected).loader_eq

/-- A frame that is heard, and that the command stands for, ends and is handed on. -/
theorem receive_of_hears {wire : List Byte} {corrected : Bool} {source : Station} {f : Frame} {s : State}
    {want : Station → Frame → Option (State → State)} {hand : State → State}
    (heard : Hears wire corrected source f s) (wanted : want source f = some hand) :
    receive wire want s = hand (endFrame corrected s) := by
  obtain ⟨-, taking, judged⟩ := heard
  simp only [receive, taking, judged, wanted, if_true]

theorem exec_bulletinRow (asFire : Bool) (wire : List Byte) (s : State) :
    exec (bulletinRow asFire wire) s = whileRunning (receive wire (wantBulletin asFire)) s := by
  cases asFire <;> rfl

/-- What a bulletin of either kind may change, whoever sent it. -/
abbrev bulletinFootprint : List Block :=
  [.control, .peers, .doors, .calls, .route, .lamp, .line, .counters, .outputs]

/-- A heard bulletin goes to the peer table and then to the posture controller, and what holds of their settled work
holds of the state that the command answers (R162). -/
theorem bulletinRow_changes {wire : List Byte} {corrected asFire : Bool} {source : Station} {count : Byte}
    {b : Bulletin} {s : State} {p : State → Prop} (heard : Hears wire corrected source (.bulletin asFire count b) s)
    (holds : p (settle (handBulletin source b (endFrame corrected s)))) :
    Changes (bulletinRow asFire wire) s bulletinFootprint p := by
  have handed : receive wire (wantBulletin asFire) s = handBulletin source b (endFrame corrected s) :=
    receive_of_hears heard (if_pos rfl)
  have work := (endFrame_keeps s corrected).then (handBulletin_keeps _ source b)
  rw [← handed] at work holds
  rw [Changes, Answers, exec_bulletinRow]
  exact whileRunning_answers heard.1 work (by decide) holds

/-! ## A neighbour's bulletin at the peer table (R46, R47) -/

theorem entryAt_congr {s t : State} (h : t.peers = s.peers) (j : Fin 8) : entryAt t j = entryAt s j := by
  rw [entryAt, entryAt, h]

theorem entryFor_congr {s t : State} (h : t.peers = s.peers) (source : Station) :
    entryFor t source = entryFor s source := by
  simp only [entryFor, entryAt_congr h]

/-- The hand-overs to the route unit and to the door unit leave the table as the bulletin made it (R47, R48). -/
theorem updateEntry_peers (j : Fin 8) (old : Entry) (b : Bulletin) (s : State) :
    (updateEntry j old b s).peers
      = { s.peers with entries := s.peers.entries.set j.val (old.refreshed b) } :=
  have computed : SameOutside _ (s.setEntry j (old.refreshed b)) (computeRoute _) := computeRoute_keeps _
  have magnets : SameOutside [.doors] _ (updateEntry j old b s) := .ite (evaluateMagnets_keeps _) (.refl _ _)
  magnets.peers_eq.trans computed.peers_eq

theorem peersTakeBulletin_of_neighbour {source : Station} {b : Bulletin} {j : Fin 8} {e : Entry} {s : State}
    (named : source ≠ 0) (foreign : source ≠ s.loader.station) (found : entryFor s source = some j)
    (entry : entryAt s j = some e) : peersTakeBulletin source b s = updateEntry j e b s := by
  simp only [peersTakeBulletin, if_neg named, if_neg foreign, found, entry]

/-- The posture controller's part leaves the table alone (R26). -/
theorem handBulletin_peers (source : Station) (b : Bulletin) (s : State) :
    (handBulletin source b s).peers = (peersTakeBulletin source b s).peers :=
  (controlTakeBulletin_keeps _ source b).peers_eq

/-- Settles O22: the bulletin is handed on once its frame has ended, which leaves the table as it was, and of the
blocks that then work only the peer table writes to it. -/
theorem neighbourBulletinFillsItsEntry : Obligations.NeighbourBulletinFillsItsEntry := by
  intro wire corrected asFire source count b j e s heard named foreign found entry
  refine bulletinRow_changes heard ?_
  have ended := endFrame_peers corrected s
  have taken : peersTakeBulletin source b (endFrame corrected s) = updateEntry j e b (endFrame corrected s) :=
    peersTakeBulletin_of_neighbour named (by rwa [endFrame_loader])
      ((entryFor_congr ended source).trans found) ((entryAt_congr ended j).trans entry)
  rw [settle_peers, handBulletin_peers, taken, updateEntry_peers, ended]
  rfl

end Sys2Proof.Machine
end

section
/-! SUPPORT. What each term of the penalty is, when a candidate is refused, and what the exit candidate costs: the
proof that a station's ways out are weighed as chapter 4 has it. -/

namespace Sys2Proof.Machine

/-! ## The terms of the penalty (R63, R64) -/

theorem statusTerm_eq_none {st : EntryStatus} (h : st = .unheard ∨ st = .lost) : statusTerm st = none := by
  obtain rfl | rfl := h <;> rfl

theorem statusTerm_eq_some {st : EntryStatus} (h : st = .current ∨ st = .stale) :
    statusTerm st = some (if st = .stale then 8 else 0) := by
  obtain rfl | rfl := h <;> rfl

theorem hazardTerm_eq_some {l : Level} (h : l ≠ .fire) :
    hazardTerm l = some (if l = .watch then 4 else if l = .prealarm then 16 else 0) := by
  cases l with
  | fire => exact absurd rfl h
  | _ => rfl

theorem doorTerm_eq_some {c : Option DoorClass} (h : c ≠ some .blocked) :
    doorTerm c = some (if c = some .slow then 2 else 0) := by
  match c with
  | some .blocked => exact absurd rfl h
  | none | some .usable | some .slow => rfl

theorem statusTerm_le {st : EntryStatus} {n : Nat} (h : statusTerm st = some n) : n ≤ 8 := by
  cases st <;> cases h <;> decide

theorem hazardTerm_le {l : Level} {n : Nat} (h : hazardTerm l = some n) : n ≤ 16 := by
  cases l <;> cases h <;> decide

theorem doorTerm_le {c : Option DoorClass} {n : Nat} (h : doorTerm c = some n) : n ≤ 2 := by
  match c with
  | none | some .usable | some .slow => cases h; decide
  | some .blocked => cases h

/-! ## The penalty of a neighbour (R63) -/

/-- A neighbour has a penalty exactly when it has heard fields and none of its terms is blocked. -/
theorem penalty_eq_some_iff {leaves : Four Leaf} {e : Entry} {p : Nat} :
    penalty leaves e = some p ↔
      ∃ status h hazard door, statusTerm e.status = some status ∧ e.heard = some h
        ∧ hazardTerm h.hazard = some hazard ∧ doorTerm (passageClass leaves e.fixed.door h) = some door
        ∧ status + hazard + (if h.blind then 8 else 0) + door = p := by
  simp [penalty, Option.bind_eq_some_iff]

theorem penalty_eq_none_of_status {leaves : Four Leaf} {e : Entry} (h : e.status = .unheard ∨ e.status = .lost) :
    penalty leaves e = none := by
  refine Option.eq_none_iff_forall_ne_some.2 fun p given => ?_
  obtain ⟨_, _, _, _, status, -⟩ := penalty_eq_some_iff.1 given
  exact nomatch (statusTerm_eq_none h).symm.trans status

theorem penalty_eq_none_of_blocked {leaves : Four Leaf} {e : Entry} {h : Heard} (heard : e.heard = some h)
    (blocked : h.hazard = .fire ∨ passageClass leaves e.fixed.door h = some .blocked) : penalty leaves e = none := by
  refine Option.eq_none_iff_forall_ne_some.2 fun p given => ?_
  obtain ⟨_, h', _, _, -, heard', hazard, door, -⟩ := penalty_eq_some_iff.1 given
  obtain rfl : h = h' := Option.some.inj (heard.symm.trans heard')
  obtain fire | shut := blocked
  · rw [fire] at hazard
    cases hazard
  · rw [shut] at door
    cases door

theorem penalty_le {leaves : Four Leaf} {e : Entry} {p : Nat} (given : penalty leaves e = some p) : p ≤ 34 := by
  obtain ⟨_, h, _, _, status, -, hazard, door, rfl⟩ := penalty_eq_some_iff.1 given
  have status := statusTerm_le status
  have hazard := hazardTerm_le hazard
  have door := doorTerm_le door
  split <;> omega

/-! ## The candidate via a neighbour (R65 to R67) -/

theorem poisoned_iff {own : Station} {h : Heard} : poisoned own h = true ↔ h.nextHop = .station own := by
  unfold poisoned
  split <;> simp_all

theorem candidateOf_of_lt {cost hops : Nat} (h : cost < 255) : candidateOf cost hops = ⟨cost, hops⟩ := if_pos h

theorem candidateOf_of_le {cost hops : Nat} (h : 255 ≤ cost) : candidateOf cost hops = noWay := if_neg h.not_gt

theorem entryCandidate_of_penalty_none {own : Station} {leaves : Four Leaf} {e : Entry} (h : penalty leaves e = none) :
    entryCandidate own leaves e = noWay := by
  simp [entryCandidate, h]

theorem entryCandidate_of_heard_none {own : Station} {leaves : Four Leaf} {e : Entry} (h : e.heard = none) :
    entryCandidate own leaves e = noWay := by
  simp [entryCandidate, h]

/-- A neighbour with a penalty is refused for what it advertises, or else weighed. -/
theorem entryCandidate_of_penalty {own : Station} {leaves : Four Leaf} {e : Entry} {h : Heard} {p : Nat}
    (heard : e.heard = some h) (given : penalty leaves e = some p) :
    entryCandidate own leaves e =
      if h.cost = 255 ∨ h.nextHop = .station own ∨ h.hops = 24 then noWay
      else candidateOf (h.cost + e.fixed.weight + p) (h.hops + 1) := by
  simp only [entryCandidate, heard, given, poisoned_iff]
  rfl

theorem entryCandidate_of_refused {own : Station} {leaves : Four Leaf} {e : Entry} {h : Heard}
    (heard : e.heard = some h)
    (refused : penalty leaves e = none ∨ h.cost = 255 ∨ h.nextHop = .station own ∨ h.hops = 24) :
    entryCandidate own leaves e = noWay := by
  cases given : penalty leaves e with
  | none => exact entryCandidate_of_penalty_none given
  | some p =>
    rw [entryCandidate_of_penalty heard given]
    exact if_pos (refused.resolve_left (by simp [given]))

/-! ## The exit candidate (R68) -/

theorem exitCandidate_of_blocked {weight : Nat} {leaf : Option Leaf} (shut : leaf.bind shownClass = some .blocked) :
    exitCandidate weight leaf = noWay := by
  simp [exitCandidate, shut]

theorem exitCandidate_of_slow {weight : Nat} {leaf : Option Leaf} (h : 0 < weight)
    (slow : leaf.bind shownClass = some .slow) : exitCandidate weight leaf = ⟨weight + 2, 0⟩ := by
  simp [exitCandidate, h.ne', slow]

theorem exitCandidate_of_open {weight : Nat} {leaf : Option Leaf} (h : 0 < weight)
    (usable : leaf.bind shownClass = some .usable ∨ leaf = none) : exitCandidate weight leaf = ⟨weight, 0⟩ := by
  obtain usable | rfl := usable
  · simp [exitCandidate, h.ne', usable]
  · exact if_neg h.ne'

/-! ## Ways out are weighed (R63, R65, R68) -/

/-- Settles O27: the penalty from its four terms, the candidate via a neighbour from its penalty and what it
advertises, and the exit candidate from the class of its leaf. -/
theorem waysOutAreWeighed : Obligations.WaysOutAreWeighed := by
  refine ⟨fun leaves e => ⟨penalty_eq_none_of_status, fun p => penalty_le, fun h heard reached => ?_⟩,
    fun own leaves e silent => ?_, fun own leaves e h heard => ⟨entryCandidate_of_refused heard, ?_⟩,
    fun weight leaf => ⟨?_, fun _ => exitCandidate_of_blocked, exitCandidate_of_slow, exitCandidate_of_open⟩⟩
  · exact ⟨penalty_eq_none_of_blocked heard, fun noFire unblocked => penalty_eq_some_iff.2
      ⟨_, h, _, _, statusTerm_eq_some reached, heard, hazardTerm_eq_some noFire, doorTerm_eq_some unblocked, rfl⟩⟩
  · obtain unheard | lost | never := silent
    · exact entryCandidate_of_penalty_none (penalty_eq_none_of_status (.inl unheard))
    · exact entryCandidate_of_penalty_none (penalty_eq_none_of_status (.inr lost))
    · exact entryCandidate_of_heard_none never
  · intro p given advertises unpoisoned below
    rw [entryCandidate_of_penalty heard given, if_neg (by simp [advertises, unpoisoned, below])]
    exact ⟨candidateOf_of_lt, candidateOf_of_le⟩
  · rintro rfl
    rfl

end Sys2Proof.Machine
end

section
/-! SUPPORT. What the rule of the hold magnets reads of a station, and that every step leaves the magnets as the rule
has them: the blocks that change what it reads re-evaluate the magnets, and every other leaves that alone. -/

namespace Sys2Proof.Machine

variable {c : List Block} {s t u : State}

/-! ## What the rule of the magnets reads (R80, R97) -/

/-- What an entry can show to a leaf's magnet: its passage door, and a heard Fire at an own leaf's passage. -/
def Entry.passage (e : Entry) : PassageDoor × Bool := (e.fixed.door, e.fixed.door.isOwn && e.showsFire)

/-- What the rule of the magnets is about at a leaf position. -/
def Leaf.hold (lf : Leaf) : LeafRole × Bool := (lf.role, lf.magnet)

/-- All that the rule of the magnets reads, and what it gives each leaf: where the links agree, two states of the same
view meet the rule together (`magnetsAgree_of_view`). -/
structure MagnetView where
  posture : Posture
  zone : Level
  passages : List (PassageDoor × Bool)
  leaves : Four (LeafRole × Bool)

def magnetView (s : State) : MagnetView :=
  ⟨s.control.posture, s.hazard.zone, s.peers.entries.map Entry.passage, s.doors.leaves.map Leaf.hold⟩

theorem Leaf.links_congr {lf lf' : Leaf} (role : lf'.role = lf.role) : lf'.links = lf.links := by
  rw [Leaf.links, Leaf.links, role]

theorem heardFire_eq (entries : List Entry) (j : Fin 8) :
    heardFire entries j = (entries[j.val]?).any Entry.showsFire := by
  unfold heardFire
  cases entries[j.val]? <;> rfl

/-- An entry of a leaf's links names an own leaf, so its passage tells whether it shows Fire. -/
theorem heardFire_of_link {n : Fin 4} {j : Fin 8} (h : LinksAgree s) (linked : j ∈ (s.doors.leaves.get n).links) :
    heardFire s.peers.entries j = ((magnetView s).passages[j.val]?).any (·.2) := by
  have named := h n j linked
  rw [heardFire_eq, magnetView, List.getElem?_map]
  cases entry : s.peers.entries[j.val]? with
  | none => rfl
  | some e => simp [Entry.passage, named e entry, PassageDoor.isOwn]

theorem magnetOf_congr {p : Posture} {zone : Level} {entries entries' : List Entry} {lf lf' : Leaf}
    (role : lf'.role = lf.role) (fire : ∀ j ∈ lf.links, heardFire entries' j = heardFire entries j) :
    magnetOf p zone entries' lf' = magnetOf p zone entries lf := by
  unfold magnetOf
  rw [role]
  unfold Leaf.links at fire
  split
  · next config exitDoor links here =>
    rw [here] at fire
    have same : links.any (heardFire entries') = links.any (heardFire entries) := by
      rw [Bool.eq_iff_iff, List.any_eq_true, List.any_eq_true]
      exact exists_congr fun j => and_congr_right fun linked => by rw [fire j linked]
    rw [same]
  · rfl

theorem magnetNow_congr {lf lf' : Leaf} (role : lf'.role = lf.role) : magnetNow s lf' = magnetNow s lf :=
  magnetOf_congr role fun _ _ => rfl

/-! ## The same view -/

theorem leaf_hold_of_view (v : magnetView t = magnetView s) (n : Fin 4) :
    (t.doors.leaves.get n).hold = (s.doors.leaves.get n).hold := by
  simpa [magnetView] using congrArg (fun x => x.leaves.get n) v

theorem leaf_role_of_view (v : magnetView t = magnetView s) (n : Fin 4) :
    (t.doors.leaves.get n).role = (s.doors.leaves.get n).role :=
  congrArg Prod.fst (leaf_hold_of_view v n)

theorem linksAgree_of_view (v : magnetView t = magnetView s) (h : LinksAgree s) : LinksAgree t := by
  intro n j linked e entry
  rw [Leaf.links_congr (leaf_role_of_view v n)] at linked
  have passages : t.peers.entries.map Entry.passage = s.peers.entries.map Entry.passage :=
    congrArg MagnetView.passages v
  have here := congrArg (·[j.val]?) passages
  simp only [List.getElem?_map, entry, Option.map_some] at here
  obtain ⟨e', entry', same⟩ := Option.map_eq_some_iff.1 here.symm
  calc e.fixed.door = e'.fixed.door := (congrArg Prod.fst same).symm
    _ = .own n := h n j linked e' entry'

theorem magnetsAgree_of_view (v : magnetView t = magnetView s) (links : LinksAgree s) (h : MagnetsAgree s) :
    MagnetsAgree t := by
  intro n
  have posture : t.control.posture = s.control.posture := congrArg MagnetView.posture v
  have zone : t.hazard.zone = s.hazard.zone := congrArg MagnetView.zone v
  have role := leaf_role_of_view v n
  have same : magnetNow t (t.doors.leaves.get n) = magnetNow s (s.doors.leaves.get n) := by
    rw [magnetNow, posture, zone]
    refine magnetOf_congr role fun j linked => ?_
    rw [heardFire_of_link (linksAgree_of_view v links) (by rwa [Leaf.links_congr role]), v,
      heardFire_of_link links linked]
  calc (t.doors.leaves.get n).magnet = (s.doors.leaves.get n).magnet := congrArg Prod.snd (leaf_hold_of_view v n)
    _ = magnetNow t (t.doors.leaves.get n) := (h n).trans same.symm

/-! ## Keeping the rule -/

/-- What takes the station from one state to another keeps the links agreeing, and with them the magnets. The links
are kept by themselves, so that the magnets may stand otherwise between a change and their re-evaluation. -/
structure KeepsMagnets (s t : State) : Prop where
  links : LinksAgree s → LinksAgree t
  magnets : LinksAgree s → MagnetsAgree s → MagnetsAgree t

theorem KeepsMagnets.refl (s : State) : KeepsMagnets s s := ⟨id, fun _ => id⟩

theorem KeepsMagnets.trans (h : KeepsMagnets s t) (k : KeepsMagnets t u) : KeepsMagnets s u :=
  ⟨k.links ∘ h.links, fun links magnets => k.magnets (h.links links) (h.magnets links magnets)⟩

theorem KeepsMagnets.ite {p : Prop} [Decidable p] (h : KeepsMagnets s t) (k : KeepsMagnets s u) :
    KeepsMagnets s (if p then t else u) := by
  split <;> assumption

theorem KeepsMagnets.foldl {α : Type} (f : State → α → State) (h : ∀ s x, KeepsMagnets s (f s x)) (l : List α)
    (s : State) : KeepsMagnets s (l.foldl f s) :=
  List.foldlRecOn l f (.refl s) fun _ kept x _ => kept.trans (h _ x)

theorem KeepsMagnets.of_view (v : magnetView t = magnetView s) : KeepsMagnets s t :=
  ⟨linksAgree_of_view v, magnetsAgree_of_view v⟩

theorem KeepsMagnets.of_agree (links : LinksAgree t) (magnets : MagnetsAgree t) : KeepsMagnets s t :=
  ⟨fun _ => links, fun _ _ => magnets⟩

/-- The blocks that the rule of the magnets reads; a footprint's being clear of them is checked by evaluation. -/
abbrev magnetBlocks : List Block := [.hazard, .control, .peers, .doors]

theorem magnetView_eq_of_outside (h : SameOutside c s t) (clear : c.all (· ∉ magnetBlocks) = true) :
    magnetView t = magnetView s := by
  have untouched : ∀ b ∈ magnetBlocks, b ∉ c := fun b read changed =>
    absurd read (by simpa using List.all_eq_true.1 clear b changed)
  have hazard := h.hazard_eq (untouched _ (by decide))
  have control := h.control_eq (untouched _ (by decide))
  have peers := h.peers_eq (untouched _ (by decide))
  have doors := h.doors_eq (untouched _ (by decide))
  rw [magnetView, magnetView, hazard, control, peers, doors]

theorem KeepsMagnets.of_outside (h : SameOutside c s t) (clear : c.all (· ∉ magnetBlocks) = true) :
    KeepsMagnets s t :=
  .of_view (magnetView_eq_of_outside h clear)

theorem setControl_keepsMagnets (s : State) (x : Control) (posture : x.posture = s.control.posture := by rfl) :
    KeepsMagnets s (s.setControl x) :=
  .of_view (congrArg (MagnetView.mk · _ _ _) posture)

theorem setHazard_keepsMagnets (s : State) (x : Hazard) (zone : x.zone = s.hazard.zone := by rfl) :
    KeepsMagnets s (s.setHazard x) :=
  .of_view (congrArg (MagnetView.mk _ · _ _) zone)

/-! ## One leaf: an event leaves its role and its magnet (R85 to R95) -/

theorem Leaf.hold_shut (demand : Bool) (lf : Leaf) : (lf.shut demand).hold = lf.hold := by
  unfold Leaf.shut
  split <;> split <;> rfl

theorem Leaf.hold_open' (lf : Leaf) : lf.open'.hold = lf.hold := by
  unfold Leaf.open'
  split <;> rfl

theorem Leaf.hold_propChecked (demand : Bool) (lf : Leaf) : (lf.propChecked demand).hold = lf.hold := by
  unfold Leaf.propChecked
  split <;> rfl

theorem Leaf.hold_takeDemand (demand : Bool) (lf : Leaf) : (lf.takeDemand demand).hold = lf.hold := by
  unfold Leaf.takeDemand
  split
  all_goals first | exact Leaf.hold_shut _ lf | rfl

theorem Leaf.hold_takeDoor (demand closed : Bool) (lf : Leaf) : (lf.takeDoor demand closed).hold = lf.hold := by
  unfold Leaf.takeDoor
  dsimp only
  split
  · split
    all_goals first | exact Leaf.hold_shut demand _ | rfl
  · exact Leaf.hold_open' _

theorem Leaf.hold_takeBolt (demand thrown : Bool) (lf : Leaf) : (lf.takeBolt demand thrown).hold = lf.hold := by
  unfold Leaf.takeBolt
  dsimp only
  repeat' split
  all_goals first | exact Leaf.hold_shut demand _ | rfl

theorem Leaf.hold_takeBoltTime (lf : Leaf) : lf.takeBoltTime.hold = lf.hold := by
  unfold Leaf.takeBoltTime
  split <;> rfl

theorem Leaf.hold_takePress (demandWith : Leaf → Bool) (lf : Leaf) : (lf.takePress demandWith).hold = lf.hold := by
  unfold Leaf.takePress
  dsimp only
  repeat' split
  all_goals first | exact Leaf.hold_takeDemand _ _ | rfl

theorem Leaf.hold_takePassEnd (demandWith : Leaf → Bool) (lf : Leaf) :
    (lf.takePassEnd demandWith).hold = lf.hold := by
  unfold Leaf.takePassEnd
  dsimp only
  split
  · rfl
  · exact Leaf.hold_takeDemand _ _

/-- After a change of posture a leaf's magnet is what the rule gives, and its role is what it was (R98). -/
theorem hold_leafUnderPosture (s : State) (oldP : Posture) (oldB : Base) (lf : Leaf) :
    (leafUnderPosture s oldP oldB lf).hold = (lf.role, magnetNow s lf) := by
  unfold leafUnderPosture
  dsimp only
  rw [Leaf.hold_propChecked]
  split
  · rfl
  · exact Leaf.hold_takeDemand _ _

/-! ## The leaves (R98) -/

/-- A magnet that the rule gave by a leaf of the same role is what the rule gives. -/
theorem magnet_of_hold {lf old : Leaf} (given : lf.hold = (old.role, magnetNow s old)) :
    lf.magnet = magnetNow s lf :=
  calc lf.magnet = magnetNow s old := congrArg Prod.snd given
    _ = magnetNow s lf := (magnetNow_congr (congrArg Prod.fst given)).symm

/-- Leaves whose roles stand keep their links, and where each magnet is what the rule gives, the magnets agree. -/
theorem agree_of_reevaluated {f : Leaf → Leaf} (links : LinksAgree s)
    (given : ∀ lf, (f lf).hold = (lf.role, magnetNow s lf)) :
    LinksAgree (s.setDoors { s.doors with leaves := s.doors.leaves.map f })
      ∧ MagnetsAgree (s.setDoors { s.doors with leaves := s.doors.leaves.map f }) := by
  refine ⟨fun n j linked => ?_, fun n => ?_⟩
  · rw [State.setDoors_doors, Four.get_map, Leaf.links_congr (congrArg Prod.fst (given _))] at linked
    exact links n j linked
  · rw [State.setDoors_doors, Four.get_map]
    exact magnet_of_hold (given _)

/-- A leaf that keeps its role and its magnet leaves the view as it was. -/
theorem magnetView_setLeaf {n : Fin 4} {lf : Leaf} (same : lf.hold = (s.doors.leaves.get n).hold) :
    magnetView (s.setDoors { s.doors with leaves := s.doors.leaves.set n lf }) = magnetView s := by
  have leaves : (s.doors.leaves.set n lf).map Leaf.hold = s.doors.leaves.map Leaf.hold := by
    refine Four.ext_get fun i => ?_
    simp only [Four.get_map]
    by_cases h : i = n
    · rw [h, Four.get_set_self, same]
    · rw [Four.get_set_of_ne _ _ _ _ h]
  exact congrArg (MagnetView.mk _ _ _) leaves

/-- Beside the leaves an event at the door unit touches nothing that the magnets read. -/
theorem setLeaves_outside_leaves (new : Four Leaf) (s : State) :
    SameOutside [.calls, .route, .lamp, .line, .counters] (s.setDoors { s.doors with leaves := new })
      (setLeaves new s) := by
  unfold setLeaves
  dsimp only
  have requests := SameOutside.foldl (c := [.calls, .route, .lamp, .line, .counters])
    (fun u n => leafRequests n (s.doors.leaves.get n) (new.get n) u)
    (fun u n => (leafRequests_keeps u n _ _).widen (by decide)) allFour
  exact (requests _).trans (.ite ((computeRoute_keeps _).widen (by decide)) (.refl _ _))

theorem leafEvent_keepsMagnets {act : Leaf → Leaf} (n : Fin 4) (s : State)
    (same : (act (s.doors.leaves.get n)).hold = (s.doors.leaves.get n).hold) :
    KeepsMagnets s (leafEvent n act s) :=
  .trans (.of_view (magnetView_setLeaf ((Leaf.hold_propChecked _ _).trans same)))
    (.of_outside (setLeaves_outside_leaves _ s) rfl)

theorem doorsTakePosture_agree (oldP : Posture) (oldB : Base) (links : LinksAgree s) :
    LinksAgree (doorsTakePosture oldP oldB s) ∧ MagnetsAgree (doorsTakePosture oldP oldB s) := by
  obtain ⟨linked, agree⟩ := agree_of_reevaluated links (hold_leafUnderPosture s oldP oldB)
  have rest : KeepsMagnets _ (doorsTakePosture oldP oldB s) := .of_outside (setLeaves_outside_leaves _ s) rfl
  exact ⟨rest.links linked, rest.magnets linked agree⟩

theorem evaluateMagnets_agree (links : LinksAgree s) :
    LinksAgree (evaluateMagnets s) ∧ MagnetsAgree (evaluateMagnets s) :=
  agree_of_reevaluated links fun _ => Leaf.hold_propChecked _ _

/-! ## The door unit's commands -/

theorem takeProvisional_keepsMagnets {n : Fin 4} {lf : Leaf} (same : lf.hold = (s.doors.leaves.get n).hold) :
    KeepsMagnets s (takeProvisional n lf s) :=
  .of_view (magnetView_setLeaf same)

theorem takeDoorContact_keepsMagnets (n : Fin 4) (closed : Bool) (s : State) :
    KeepsMagnets s (takeDoorContact n closed s) := by
  unfold takeDoorContact
  dsimp only
  refine .ite (.refl s) ?_
  split
  · exact .refl s
  · exact takeProvisional_keepsMagnets rfl
  · exact leafEvent_keepsMagnets n s (Leaf.hold_takeDoor _ _ _)

theorem takeBoltContact_keepsMagnets (n : Fin 4) (thrown : Bool) (s : State) :
    KeepsMagnets s (takeBoltContact n thrown s) := by
  unfold takeBoltContact
  dsimp only
  refine .ite (.refl s) ?_
  split
  · exact .refl s
  · exact takeProvisional_keepsMagnets rfl
  · exact leafEvent_keepsMagnets n s (Leaf.hold_takeBolt _ _ _)

theorem takeExitEdge_keepsMagnets (n : Fin 4) (s : State) : KeepsMagnets s (takeExitEdge n s) :=
  .ite (.refl s) (.of_view (magnetView_setLeaf rfl))

theorem takeExitRequest_keepsMagnets (n : Fin 4) (s : State) : KeepsMagnets s (takeExitRequest n s) := by
  unfold takeExitRequest
  dsimp only
  refine .ite (.refl s) ?_
  split
  · have called : ∀ u, KeepsMagnets u (takeExitRequestCall n u) :=
      fun u => .ite (.of_outside (requestCall_keeps u _) rfl) (.refl u)
    exact (leafEvent_keepsMagnets n s (Leaf.hold_takePress _ _)).trans (called _)
  · exact .of_view (magnetView_setLeaf rfl)

theorem takeBoltExpiry_keepsMagnets (n : Fin 4) (s : State) : KeepsMagnets s (takeBoltExpiry n s) :=
  .ite (leafEvent_keepsMagnets n s (Leaf.hold_takeBoltTime _)) (.refl s)

theorem takePropExpiry_keepsMagnets (n : Fin 4) (s : State) : KeepsMagnets s (takePropExpiry n s) :=
  .ite (leafEvent_keepsMagnets n s rfl) (.refl s)

theorem takePassExpiry_keepsMagnets (n : Fin 4) (s : State) : KeepsMagnets s (takePassExpiry n s) :=
  .ite (leafEvent_keepsMagnets n s (Leaf.hold_takePassEnd _ _)) (.refl s)

/-! ## The posture (R25, R98) -/

theorem setHushed_keepsMagnets (b : Bool) (s : State) : KeepsMagnets s (setHushed b s) :=
  .ite (.refl s) (.trans (setControl_keepsMagnets s _) (.of_outside (decideSound_keeps _) rfl))

/-- A change of posture or base posture re-evaluates the magnets; what follows it in the other blocks leaves them. -/
theorem setPosture_keepsMagnets (p : Posture) (b : Base) (s : State) : KeepsMagnets s (setPosture p b s) := by
  unfold setPosture
  dsimp only
  refine .ite (.refl s) ?_
  have doors := doorsTakePosture_agree (s := s.setControl { s.control with posture := p, base := b })
    s.control.posture s.control.base
  have others : ∀ u, KeepsMagnets u
      (queueBulletin (if s.control.posture = p then u else lampTakePosture (callsTakePosture s.control.posture u))) :=
    fun u => .trans
      (.ite (.refl u)
        (.trans (.of_outside (callsTakePosture_keeps u _) rfl) (.of_outside (lampTakePosture_keeps _) rfl)))
      (.of_outside (queueBulletin_keeps _) rfl)
  exact ⟨fun links => (others _).links (doors links).1,
    fun links _ => (others _).magnets (doors links).1 (doors links).2⟩

theorem enterEvacuate_keepsMagnets (b : Base) (s : State) : KeepsMagnets s (enterEvacuate b s) :=
  .trans (setControl_keepsMagnets s _) (setPosture_keepsMagnets _ b _)

theorem enterEvacuateUnled_keepsMagnets (s : State) : KeepsMagnets s (enterEvacuateUnled s) :=
  .ite (.trans (setControl_keepsMagnets s _) (enterEvacuate_keepsMagnets _ _)) (enterEvacuate_keepsMagnets _ s)

theorem takeAlert_keepsMagnets (s : State) : KeepsMagnets s (takeAlert s) :=
  .ite (.refl s) (enterEvacuateUnled_keepsMagnets s)

theorem takeHush_keepsMagnets (s : State) : KeepsMagnets s (takeHush s) :=
  .ite (setHushed_keepsMagnets true s) (.refl s)

theorem takeJoinExpiry_keepsMagnets (s : State) : KeepsMagnets s (takeJoinExpiry s) :=
  .ite (.trans (setControl_keepsMagnets s _) (setPosture_keepsMagnets _ _ _)) (.refl s)

/-! ## The zone hazard (R20, R98) -/

theorem makeAlertRequest_keepsMagnets (s : State) : KeepsMagnets s (makeAlertRequest s) :=
  .ite (.refl s) (.ite (.of_outside (requestAlert_keeps s) rfl) (setControl_keepsMagnets s _))

theorem takeOwnFire_keepsMagnets (s : State) : KeepsMagnets s (takeOwnFire s) := by
  unfold takeOwnFire
  dsimp only
  refine .trans ?_ (makeAlertRequest_keepsMagnets _)
  refine .trans ?_ (.ite (.refl _) (enterEvacuateUnled_keepsMagnets _))
  exact .trans (setControl_keepsMagnets s _) (setHushed_keepsMagnets false _)

/-- A change of the zone hazard ends with the magnets re-evaluated, so it is enough that the links agree till then. -/
theorem recomputeZone_keepsMagnets (s : State) : KeepsMagnets s (recomputeZone s) := by
  unfold recomputeZone
  dsimp only
  split
  · exact .refl s
  · have fire : ∀ u, KeepsMagnets u (if zoneOf s.hazard = .fire then takeOwnFire u else u) :=
      fun u => .ite (takeOwnFire_keepsMagnets u) (.refl u)
    have before := ((KeepsMagnets.of_outside
      (queueBulletin_keeps (s.setHazard { s.hazard with zone := zoneOf s.hazard })) rfl).trans (fire _)).trans
      (.of_outside (computeRouteFrom_keeps _ (advertisedCost s.hazard.zone s.route)) rfl)
    have agree := fun links : LinksAgree s => evaluateMagnets_agree (before.links links)
    exact ⟨fun links => (agree links).1, fun links _ => (agree links).2⟩

theorem evaluateBlind_keepsMagnets (s : State) : KeepsMagnets s (evaluateBlind s) :=
  .ite (.refl s) (.trans (setHazard_keepsMagnets s _) (.of_outside (queueBulletin_keeps _) rfl))

/-! ## Orders and Restore (R29, R30, R40, R41) -/

theorem restoreHazard_keepsMagnets (s : State) : KeepsMagnets s (restoreHazard s) :=
  .trans (setHazard_keepsMagnets s _) (recomputeZone_keepsMagnets _)

theorem acceptRestore_keepsMagnets (s : State) : KeepsMagnets s (acceptRestore s) := by
  unfold acceptRestore
  dsimp only
  have closed : KeepsMagnets s (closeFireCalls (restoreHazard s)) :=
    (restoreHazard_keepsMagnets s).trans (.of_outside (closeFireCalls_keeps _) rfl)
  generalize closeFireCalls (restoreHazard s) = u at closed ⊢
  exact (closed.trans (setControl_keepsMagnets u _)).trans (setPosture_keepsMagnets _ _ _)

theorem takeRestore_keepsMagnets (s : State) : KeepsMagnets s (takeRestore s) :=
  .ite (.ite (acceptRestore_keepsMagnets s) (.ite (.of_outside (queueBulletin_keeps s) rfl) (.refl s))) (.refl s)

theorem takeBaseOrder_keepsMagnets (b : Base) (s : State) : KeepsMagnets s (takeBaseOrder b s) :=
  .ite (.trans (setControl_keepsMagnets s _) (setPosture_keepsMagnets _ _ _))
    (.trans (setControl_keepsMagnets s _) (setPosture_keepsMagnets _ _ _))

theorem takeOrder_keepsMagnets (o : Order) (s : State) : KeepsMagnets s (takeOrder o s) := by
  cases o with
  | day => exact takeBaseOrder_keepsMagnets .day s
  | night => exact takeBaseOrder_keepsMagnets .night s
  | restore => exact takeRestore_keepsMagnets s

/-! ## Bulletins at the posture controller (R28, R31, R34) -/

theorem takeBase_keepsMagnets (b : Bulletin) (s : State) : KeepsMagnets s (takeBase b s) := by
  unfold takeBase
  split
  · exact .ite (.trans (setControl_keepsMagnets s _) (setPosture_keepsMagnets _ _ _)) (.refl s)
  · exact .refl s

theorem enterFromFireBulletin_keepsMagnets (b : Bulletin) (s : State) :
    KeepsMagnets s (enterFromFireBulletin b s) := by
  unfold enterFromFireBulletin
  split
  · exact enterEvacuate_keepsMagnets _ s
  · exact enterEvacuateUnled_keepsMagnets s

theorem takeFireBulletin_keepsMagnets (source : Station) (b : Bulletin) (s : State) :
    KeepsMagnets s (takeFireBulletin source b s) := by
  unfold takeFireBulletin
  dsimp only
  have joined : KeepsMagnets s
      (if s.control.fireSet.contains source then s
        else setHushed false (s.setControl { s.control with fireSet := joinFireSet source s.control.fireSet })) :=
    .ite (.refl s) (.trans (setControl_keepsMagnets s _) (setHushed_keepsMagnets false _))
  refine joined.trans ?_
  generalize (if s.control.fireSet.contains source then s else _) = u
  split
  · exact takeBase_keepsMagnets b _
  · exact enterFromFireBulletin_keepsMagnets b _
  · exact enterEvacuate_keepsMagnets _ _

theorem adopt_keepsMagnets (b : Bulletin) (s : State) : KeepsMagnets s (adopt b s) := by
  unfold adopt
  split
  · exact .refl s
  · exact .trans (setControl_keepsMagnets s _) (setPosture_keepsMagnets _ _ _)
  · exact .trans (setControl_keepsMagnets s _) (setPosture_keepsMagnets _ _ _)
  · exact enterEvacuate_keepsMagnets _ s

theorem takeOrdinaryBulletin_keepsMagnets (source : Station) (b : Bulletin) (s : State) :
    KeepsMagnets s (takeOrdinaryBulletin source b s) := by
  unfold takeOrdinaryBulletin
  dsimp only
  refine (setControl_keepsMagnets s { s.control with fireSet := leaveFireSet source s.control.fireSet }).trans ?_
  split
  · exact adopt_keepsMagnets b _
  · exact takeBase_keepsMagnets b _

theorem controlTakeBulletin_keepsMagnets (source : Station) (b : Bulletin) (s : State) :
    KeepsMagnets s (controlTakeBulletin source b s) :=
  .ite (.refl s) (.ite (takeFireBulletin_keepsMagnets source b s) (takeOrdinaryBulletin_keepsMagnets source b s))

/-! ## Entries of the peer table (R47, R48, R50) -/

/-- An entry's fixed fields are all that the links are about. -/
theorem linksAgree_setEntry {j : Fin 8} {old new : Entry} (found : entryAt s j = some old)
    (fixed : new.fixed = old.fixed) (links : LinksAgree s) : LinksAgree (s.setEntry j new) := by
  intro n k linked e entry
  have named := links n k linked
  rw [State.setEntry, State.setPeers_peers, List.getElem?_set] at entry
  split at entry
  · next same =>
    split at entry
    · obtain rfl := Option.some.inj entry
      rw [fixed]
      exact named old (same ▸ found)
    · cases entry
  · exact named e entry

/-- An entry that shows a leaf's magnet what it showed leaves the view as it was. -/
theorem magnetView_setEntry {j : Fin 8} {old new : Entry} (found : entryAt s j = some old)
    (same : new.passage = old.passage) : magnetView (s.setEntry j new) = magnetView s := by
  obtain ⟨inside, here⟩ := List.getElem?_eq_some_iff.1 found
  have passages : (s.peers.entries.set j.val new).map Entry.passage = s.peers.entries.map Entry.passage := by
    rw [List.map_set, same, ← here, ← List.map_set, List.set_getElem_self]
  exact congrArg (MagnetView.mk _ _ · _) passages

/-- R48: where the magnets are not re-evaluated, the bulletin shows the leaves nothing new. -/
theorem updateEntry_keepsMagnets {j : Fin 8} {old : Entry} (b : Bulletin) (found : entryAt s j = some old) :
    KeepsMagnets s (updateEntry j old b s) := by
  have computed : KeepsMagnets (s.setEntry j (old.refreshed b)) (computeRoute _) :=
    .of_outside (computeRoute_keeps _) rfl
  unfold updateEntry
  dsimp only
  split
  · have agree := fun links : LinksAgree s =>
      evaluateMagnets_agree (computed.links (linksAgree_setEntry found rfl links))
    exact ⟨fun links => (agree links).1, fun links _ => (agree links).2⟩
  · next unchanged =>
    have same : (old.refreshed b).passage = old.passage := by
      have fixed : (old.refreshed b).fixed = old.fixed := rfl
      rw [Entry.passage, Entry.passage, fixed]
      cases own : old.fixed.door.isOwn with
      | false => rfl
      | true =>
        rw [own, Bool.true_and, bne_iff_ne, not_not] at unchanged
        rw [unchanged]
    exact .trans (.of_view (magnetView_setEntry found same)) computed

theorem ageEntry_keepsMagnets (j : Fin 8) (before after : EntryStatus) (limit : Nat) (s : State) :
    KeepsMagnets s (ageEntry j before after limit s) := by
  unfold ageEntry
  split
  · next e found =>
    exact .ite (.trans (.of_view (magnetView_setEntry (new := { e with status := after }) found rfl))
      (.of_outside (computeRoute_keeps _) rfl)) (.refl s)
  · exact .refl s

theorem takeForeign_keepsMagnets (s : State) : KeepsMagnets s (takeForeign s) := by
  unfold takeForeign
  dsimp only
  refine .trans (t := countDuplicate (s.setPeers { s.peers with duplicate := true, duplicateTimer := some 0 }))
    (.of_view rfl) (.ite (.refl _) ?_)
  exact .trans (.of_outside (requestCall_keeps _ _) rfl) (.of_outside (queueBulletin_keeps _) rfl)

theorem peersTakeBulletin_keepsMagnets (source : Station) (b : Bulletin) (s : State) :
    KeepsMagnets s (peersTakeBulletin source b s) := by
  unfold peersTakeBulletin
  refine .ite (.refl s) (.ite (takeForeign_keepsMagnets s) ?_)
  split
  · split
    · next found => exact updateEntry_keepsMagnets b found
    · exact .refl s
  · exact .refl s

theorem takeDuplicateExpiry_keepsMagnets (s : State) : KeepsMagnets s (takeDuplicateExpiry s) :=
  .ite (.trans (t := s.setPeers { s.peers with duplicate := false, duplicateTimer := none }) (.of_view rfl)
    (.of_outside (queueBulletin_keeps _) rfl)) (.refl s)

theorem handBulletin_keepsMagnets (source : Station) (b : Bulletin) (s : State) :
    KeepsMagnets s (handBulletin source b s) :=
  (peersTakeBulletin_keepsMagnets source b s).trans (controlTakeBulletin_keepsMagnets source b _)

/-! ## Calls (R107, R108, R117, R122) -/

theorem takeInputChange_keepsMagnets (i : Fin 6) (active : Bool) (s : State) :
    KeepsMagnets s (takeInputChange i active s) := by
  have set : ∀ u x, KeepsMagnets u (u.setInput i x) := fun u x => .of_outside (setCalls_keeps u _) rfl
  unfold takeInputChange
  dsimp only
  refine .ite (.refl s) ((set s _).trans (.ite (.ite (set _ _) (.refl _)) ?_))
  split
  · exact .ite (set _ _) (.refl _)
  · exact .ite (set _ _) (.refl _)
  · exact .ite (.of_outside (requestCall_keeps _ _) rfl) (.refl _)
  · exact .refl _

theorem takeHelpPress_keepsMagnets (i : Fin 6) (s : State) : KeepsMagnets s (takeHelpPress i s) :=
  .ite (.trans (.of_outside (setCalls_keeps s _) rfl) (.of_outside (requestCall_keeps _ _) rfl)) (.refl s)

/-- A Fire point's press sets the latch of the zone hazard, which is recomputed (R19, R20). -/
theorem takeFirePress_keepsMagnets (i : Fin 6) (s : State) : KeepsMagnets s (takeFirePress i s) := by
  unfold takeFirePress
  dsimp only
  refine .ite ?_ (.refl s)
  refine .trans ?_ (.of_outside (requestCall_keeps _ _) rfl)
  refine .trans ?_ (recomputeZone_keepsMagnets _)
  exact .trans (.of_outside (setCalls_keeps s _) rfl) (setHazard_keepsMagnets _ _)

theorem takeRepeat_keepsMagnets (i : Fin 8) (s : State) : KeepsMagnets s (takeRepeat i s) :=
  .ite (.of_outside (announce_keeps s i) rfl) (.refl s)

theorem takeGalleryKey_keepsMagnets (on : Bool) (s : State) : KeepsMagnets s (takeGalleryKey on s) :=
  .ite (.refl s) (.trans (t := s.setCalls { s.calls with grsOn := on }) (.of_outside (setCalls_keeps s _) rfl)
    (.ite (.of_outside (clearGallery_keeps _) rfl) (.refl _)))

/-! ## Scans (R2 to R7, R15) -/

theorem stepHead_keepsMagnets (readings : Four HeadReading) (s : State) (k : Fin 4) :
    KeepsMagnets s (stepHead readings s k) := by
  unfold stepHead
  split
  · exact .trans (setHazard_keepsMagnets s _) (.of_outside (headRequests_keeps _ k _ _) rfl)
  · exact .refl s

theorem changeHeads_keepsMagnets (new : Four (Option Head)) (s : State) : KeepsMagnets s (changeHeads new s) := by
  unfold changeHeads
  dsimp only
  refine .trans ?_ (evaluateBlind_keepsMagnets _)
  refine .trans ?_ (recomputeZone_keepsMagnets _)
  exact .trans (setHazard_keepsMagnets s _) (.ite (.refl _) (.of_outside (queueBulletin_keeps _) rfl))

theorem startScan_keepsMagnets (warmUp : Bool) (present : BitVec 4) (s : State) :
    KeepsMagnets s (startScan warmUp present s) :=
  (KeepsMagnets.of_outside (beginScan_keeps s warmUp) rfl).trans (.ite (changeHeads_keepsMagnets _ _) (.refl _))

theorem setFrontEndFault_keepsMagnets (s : State) : KeepsMagnets s (setFrontEndFault s) := by
  unfold setFrontEndFault
  dsimp only
  refine .trans ?_ (recomputeZone_keepsMagnets _)
  refine .trans ?_ (.of_outside (queueBulletin_keeps _) rfl)
  refine .trans ?_ (.of_outside (requestCall_keeps _ _) rfl)
  exact .trans (.of_outside (setFront_keeps s _) rfl) (setHazard_keepsMagnets _ _)

theorem takeInvalidScan_keepsMagnets (s : State) : KeepsMagnets s (takeInvalidScan s) := by
  unfold takeInvalidScan
  dsimp only
  have counted : ∀ x, KeepsMagnets s (countInvalidScan (s.setFront x)) :=
    fun x => .of_outside ((setFront_keeps s x).then (countInvalidScan_keeps _)) rfl
  exact (counted _).trans (.ite (setFrontEndFault_keepsMagnets _) (.refl _))

theorem clearFrontEndFault_keepsMagnets (s : State) : KeepsMagnets s (clearFrontEndFault s) := by
  unfold clearFrontEndFault
  dsimp only
  refine .ite (.trans ?_ (.of_outside (queueBulletin_keeps _) rfl)) (.refl s)
  exact .trans (.of_outside (setFront_keeps s _) rfl) (setHazard_keepsMagnets _ _)

theorem takeValidScan_keepsMagnets (r : ScanReadings) (s : State) : KeepsMagnets s (takeValidScan r s) := by
  unfold takeValidScan
  dsimp only
  refine .trans ?_ (.of_outside (takeChains_keeps _ s.lamp r) rfl)
  refine .trans ?_ (evaluateBlind_keepsMagnets _)
  refine .trans ?_ (recomputeZone_keepsMagnets _)
  refine .trans ?_ (.foldl _ (stepHead_keepsMagnets r.heads) _ _)
  refine .trans ?_ (.of_outside (setFront_keeps _ _) rfl)
  exact .trans (.of_outside (setFront_keeps s _) rfl) (clearFrontEndFault_keepsMagnets _)

theorem takeResult_keepsMagnets (scan : Scan) (r : ScanReadings) (s : State) :
    KeepsMagnets s (takeResult scan r s) :=
  .ite (.refl s) (.ite (takeValidScan_keepsMagnets r s) (takeInvalidScan_keepsMagnets s))

theorem takeScan_keepsMagnets (r : ScanReadings) (present : BitVec 4) (s : State) :
    KeepsMagnets s (takeScan r present s) := by
  unfold takeScan
  dsimp only
  split
  · refine .trans ?_ (.ite (startScan_keepsMagnets _ _ _) (.refl _))
    exact .trans (.of_outside (setFront_keeps s _) rfl) (takeResult_keepsMagnets _ r _)
  · exact .refl s

theorem takeInterval_keepsMagnets (present : BitVec 4) (s : State) : KeepsMagnets s (takeInterval present s) :=
  .ite (.of_outside (setFront_keeps s _) rfl) (startScan_keepsMagnets _ _ s)

/-! ## The load (R80, R103, R180) -/

theorem mem_linksOf {p : Profile} {n : Fin 4} {j : Fin 8} :
    j ∈ linksOf p n ↔ ∃ a, p.adjacencies[j.val]? = some a ∧ a.door = .own n := by
  simp only [linksOf, List.mem_filter, mem_allEight, true_and, Option.any_eq_true, beq_iff_eq]

/-- A configured leaf has the entries that name it for its links, and its magnet is what the rule gives. -/
theorem hold_configureLeaf {p : Profile} {n : Fin 4} {config : LeafConfig} (s : State)
    (configured : p.leaves.get n = some config) :
    ∃ old : Leaf, old.role = .configured config (p.exitLeaf == some n) (linksOf p n)
      ∧ (configureLeaf p s n).hold = (old.role, magnetNow s old) := by
  unfold configureLeaf
  rw [configured]
  refine ⟨_, ?_, Leaf.hold_propChecked _ _⟩
  dsimp only
  split
  · rfl
  · exact congrArg Prod.fst (Leaf.hold_shut _ _)

theorem configureLeaf_of_none {p : Profile} {n : Fin 4} (s : State) (unconfigured : p.leaves.get n = none) :
    configureLeaf p s n = { Leaf.atReset with role := .dropped } := by
  rw [configureLeaf, unconfigured]

theorem mem_links_configureLeaf {p : Profile} {n : Fin 4} {j : Fin 8} (linked : j ∈ (configureLeaf p s n).links) :
    j ∈ linksOf p n := by
  cases configured : p.leaves.get n with
  | none =>
    rw [configureLeaf_of_none s configured] at linked
    cases linked
  | some config =>
    obtain ⟨old, role, hold⟩ := hold_configureLeaf s configured
    rw [Leaf.links_congr (congrArg Prod.fst hold), Leaf.links, role] at linked
    exact linked

theorem magnet_configureLeaf (p : Profile) (s : State) (n : Fin 4) :
    (configureLeaf p s n).magnet = magnetNow s (configureLeaf p s n) := by
  cases configured : p.leaves.get n with
  | none =>
    rw [configureLeaf_of_none s configured]
    rfl
  | some config =>
    obtain ⟨old, -, hold⟩ := hold_configureLeaf s configured
    exact magnet_of_hold hold

/-- The completion builds the entries and the leaves anew, whatever stood before (R44, R80, R103). -/
theorem configured_agree (p : Profile) (s : State) :
    LinksAgree (configureLeaves p (buildEntries p s)) ∧ MagnetsAgree (configureLeaves p (buildEntries p s)) := by
  refine ⟨fun n j linked e entry => ?_, fun n => ?_⟩
  · rw [configureLeaves, State.setDoors_doors, Four.get_tabulate] at linked
    obtain ⟨a, named, door⟩ := mem_linksOf.1 (mem_links_configureLeaf linked)
    rw [configureLeaves, State.setDoors_peers, buildEntries, State.setPeers_peers, List.getElem?_map, named] at entry
    obtain rfl := Option.some.inj entry
    exact door
  · rw [configureLeaves, State.setDoors_doors, Four.get_tabulate]
    exact magnet_configureLeaf p _ n

theorem configureHeads_keepsMagnets (p : Profile) (s : State) : KeepsMagnets s (configureHeads p s) :=
  .ite (.trans (.of_outside (setFront_keeps s _) rfl) (changeHeads_keepsMagnets _ _)) (.refl s)

theorem raiseProfileFault_keepsMagnets (s : State) : KeepsMagnets s (raiseProfileFault s) :=
  .ite (.refl s) (.trans (.of_outside (setLoader_keeps s _) rfl)
    (.trans (.of_outside (requestCall_keeps _ _) rfl) (.of_outside (queueBulletin_keeps _) rfl)))

theorem takeWaitingPress_keepsMagnets (s : State) (i : Fin 6) : KeepsMagnets s (takeWaitingPress s i) := by
  unfold takeWaitingPress
  split
  · exact takeHelpPress_keepsMagnets i s
  · exact takeFirePress_keepsMagnets i s
  · exact .of_outside (setCalls_keeps s _) rfl
  · exact .of_outside (setCalls_keeps s _) rfl

theorem takeWaiting_keepsMagnets (s : State) : KeepsMagnets s (takeWaiting s) :=
  (KeepsMagnets.foldl _ takeWaitingPress_keepsMagnets allSix s).trans (.of_outside (requestMotion_keeps _) rfl)

theorem serveAlert_keepsMagnets (s : State) : KeepsMagnets s (serveAlert s) :=
  .ite (.trans (setControl_keepsMagnets s _) (.of_outside (requestAlert_keeps _) rfl)) (.refl s)

theorem completeLoad_keepsMagnets (reached : LoadState) (p : Profile) (s : State) :
    KeepsMagnets s (completeLoad reached p s) := by
  unfold completeLoad
  obtain ⟨links, magnets⟩ := configured_agree p (recordLoad reached p s)
  refine .trans ?_ (.ite (.of_outside (setLine_keeps _ _) rfl) (.refl _))
  refine .trans ?_ (serveAlert_keepsMagnets _)
  refine .trans ?_ (.ite (setControl_keepsMagnets _ _) (.refl _))
  refine .trans ?_ (.ite (.of_outside (setPost_keeps _ _) rfl) (.refl _))
  refine .trans ?_ (takeWaiting_keepsMagnets _)
  refine .trans ?_ (raiseProfileFault_keepsMagnets _)
  refine .trans ?_ (.ite (.of_outside (setLamp_keeps _ _) rfl) (.refl _))
  refine .trans ?_ (configureHeads_keepsMagnets p _)
  exact .trans (.of_agree links magnets) (.of_outside (computeRoute_keeps _) rfl)

theorem takeRead_keepsMagnets (block : List Byte) (s : State) : KeepsMagnets s (takeRead block s) := by
  unfold takeRead
  split
  · split
    · exact completeLoad_keepsMagnets .loaded _ s
    · exact .of_outside (setLoader_keeps s _) rfl
  · split
    · exact completeLoad_keepsMagnets .loaded _ s
    · exact completeLoad_keepsMagnets .fallback _ s
  all_goals exact .refl s

/-! ## Resets and the supply (R98, R102, R176) -/

/-- Leaves that are not configured have no links, and their magnets are off. -/
theorem agree_of_unconfigured (h : ∀ n, (s.doors.leaves.get n).hold = (.provisional, false)) :
    LinksAgree s ∧ MagnetsAgree s := by
  have role : ∀ n, (s.doors.leaves.get n).role = .provisional := fun n => congrArg Prod.fst (h n)
  refine ⟨fun n j linked => ?_, fun n => ?_⟩
  · rw [Leaf.links, role] at linked
    cases linked
  · rw [magnetNow, magnetOf, role]
    exact congrArg Prod.snd (h n)

theorem atReset_hold (n : Fin 4) : (Doors.atReset.leaves.get n).hold = (.provisional, false) := by
  rw [Doors.atReset, Four.get_fill]
  rfl

theorem reset_agree : LinksAgree State.reset ∧ MagnetsAgree State.reset := agree_of_unconfigured atReset_hold

theorem resetState_keepsMagnets (s : State) : KeepsMagnets s (resetState s) :=
  .trans (.of_agree reset_agree.1 reset_agree.2) (.of_outside (resetState_sameOutside_reset s) rfl)

theorem pinResetState_keepsMagnets (s : State) : KeepsMagnets s (pinResetState s) :=
  .trans (.of_agree reset_agree.1 reset_agree.2) (.of_outside (pinResetState_sameOutside_reset s) rfl)

theorem readPins_keepsMagnets (pins : Pins) (s : State) : KeepsMagnets s (readPins pins s) := by
  have agree : LinksAgree (readPins pins s) ∧ MagnetsAgree (readPins pins s) :=
    agree_of_unconfigured fun n => by
      simp only [readPins, State.setPost_doors, State.setCalls_doors, State.setDoors_doors, Four.get_tabulate]
      rfl
  exact .of_agree agree.1 agree.2

theorem losePower_keepsMagnets (s : State) : KeepsMagnets s (losePower s) := .of_view rfl

/-! ## A second passes (R50) -/

theorem passSecond_keepsMagnets (s : State) : KeepsMagnets s (passSecond s) := by
  have passages : (s.peers.entries.map Entry.older).map Entry.passage = s.peers.entries.map Entry.passage :=
    List.map_map
  exact .of_view (congrArg (MagnetView.mk _ _ · _) passages)

/-! ## The line port (R160, R168 to R173) -/

theorem countCut_keepsMagnets (wire : List Byte) (s : State) : KeepsMagnets s (countCut wire s) :=
  .of_outside (countCut_keeps s wire) rfl

theorem setReceiver_keepsMagnets (r : Receiver) (s : State) : KeepsMagnets s (s.setReceiver r) :=
  .of_outside (setReceiver_keeps s r) rfl

theorem handCompletion_keepsMagnets (f : Frame) (s : State) : KeepsMagnets s (handCompletion f s) := by
  cases f with
  | bulletin fire count b => exact .of_outside (setLine_keeps s _) rfl
  | order o => exact takeOrder_keepsMagnets o s
  | take target slot seq => exact .of_outside (handTake_keeps s _ target slot seq) rfl
  | cancel target slot seq => exact .of_outside (handCancel_keeps s _ target slot seq) rfl
  | notice count n => exact .of_outside (takeNotice_keeps s _ n) rfl
  | request target area index => exact .refl s
  | answer _ _ => exact .refl s

theorem takeCompletion_keepsMagnets (s : State) : KeepsMagnets s (takeCompletion s) := by
  unfold takeCompletion
  split
  · refine .trans ?_ (handCompletion_keepsMagnets _ _)
    exact .of_outside (setLine_keeps s _) rfl
  · exact .refl s

theorem takeArbitrationLost_keepsMagnets (s : State) : KeepsMagnets s (takeArbitrationLost s) :=
  .ite (.of_view rfl) (.refl s)

theorem takeTransmitError_keepsMagnets (cause : BitErrorCause) (s : State) :
    KeepsMagnets s (takeTransmitError cause s) := by
  cases cause <;> exact .ite (.of_view rfl) (.refl s)

theorem takeBreak_keepsMagnets (wire : List Byte) (s : State) : KeepsMagnets s (takeBreak wire s) := by
  have dropped : ∀ u, KeepsMagnets u (if u.line.onLine.isSome then countAborted (dropOwnFrame u) else u) :=
    fun u => .ite (.of_view rfl) (.refl u)
  exact ((countCut_keepsMagnets wire s).trans (dropped _)).trans (setReceiver_keepsMagnets .brk _)

theorem takeStuck_keepsMagnets (s : State) : KeepsMagnets s (takeStuck s) :=
  .trans (.ite (.refl s) (.of_outside (countStuck_keeps s) rfl))
    (.trans (.of_outside (dropOwnFrame_keeps _) rfl) (.of_outside (setLine_keeps _ _) rfl))

theorem takeFramingError_keepsMagnets (wire : List Byte) (s : State) :
    KeepsMagnets s (takeFramingError wire s) := by
  unfold takeFramingError
  split
  · exact .trans (countCut_keepsMagnets wire s)
      (.trans (setReceiver_keepsMagnets _ _) (.of_outside (countDiscardedFrame_keeps _) rfl))
  · split
    · exact setReceiver_keepsMagnets _ s
    · exact setReceiver_keepsMagnets _ s
    · exact .refl s

theorem takeDiscarded_keepsMagnets (wire : List Byte) (s : State) : KeepsMagnets s (takeDiscarded wire s) := by
  unfold takeDiscarded
  refine .ite ?_ (.refl s)
  split
  · exact .trans (.of_outside (endFrame_keeps s _) rfl) (.of_outside (countDiscardedHeader_keeps _) rfl)
  · exact .trans (.of_outside (endFrame_keeps s _) rfl) (.of_outside (countDiscardedFrame_keeps _) rfl)
  · exact .refl s

theorem takeDriven_keepsMagnets (s : State) : KeepsMagnets s (takeDriven s) := by
  unfold takeDriven
  dsimp only
  split
  · exact .of_outside (setLine_keeps s _) rfl
  · exact .trans (.of_outside (setLine_keeps s _) rfl) (takeHush_keepsMagnets _)
  · exact .refl s

theorem takeTriggerLost_keepsMagnets (cause : TriggerLoss) (s : State) :
    KeepsMagnets s (takeTriggerLost cause s) := by
  unfold takeTriggerLost
  split
  · next t driving =>
    cases t <;> cases cause <;> exact .of_view rfl
  · exact .refl s

theorem takeCode_keepsMagnets {hand : State → State} (handed : ∀ u, KeepsMagnets u (hand u)) (s : State) :
    KeepsMagnets s (takeCode hand s) :=
  .ite (.trans (setReceiver_keepsMagnets _ s) (handed _)) (.refl s)

theorem takeRefresh_keepsMagnets (s : State) : KeepsMagnets s (takeRefresh s) :=
  .ite (.trans (.of_outside (queueBulletin_keeps s) rfl) (.of_outside (setLine_keeps _ _) rfl)) (.refl s)

/-! ## Received frames (R160 to R162) -/

/-- Whatever frame the command stands for, what it is handed to keeps the rule of the magnets. -/
def HandsKeepMagnets (want : Station → Frame → Option (State → State)) : Prop :=
  ∀ source f hand, want source f = some hand → ∀ u, KeepsMagnets u (hand u)

theorem receive_keepsMagnets {want : Station → Frame → Option (State → State)} (handed : HandsKeepMagnets want)
    (wire : List Byte) (s : State) : KeepsMagnets s (receive wire want s) := by
  unfold receive
  refine .ite ?_ (.refl s)
  split
  · split
    · next wanted => exact .trans (.of_outside (endFrame_keeps s _) rfl) (handed _ _ _ wanted _)
    · exact .refl s
  · exact .refl s

theorem wantBulletin_handsKeepMagnets (asFire : Bool) : HandsKeepMagnets (wantBulletin asFire) := by
  intro source f hand wanted u
  unfold wantBulletin at wanted
  split at wanted
  · obtain ⟨-, ⟨⟩⟩ := Option.ite_none_right_eq_some.1 wanted
    exact handBulletin_keepsMagnets _ _ u
  · cases wanted

theorem wantOrder_handsKeepMagnets (order : Order) : HandsKeepMagnets (wantOrder order) := by
  intro source f hand wanted u
  unfold wantOrder at wanted
  split at wanted
  · obtain ⟨-, ⟨⟩⟩ := Option.ite_none_right_eq_some.1 wanted
    exact takeOrder_keepsMagnets _ u
  · cases wanted

theorem wantNotice_handsKeepMagnets : HandsKeepMagnets wantNotice := by
  intro source f hand wanted u
  unfold wantNotice at wanted
  split at wanted
  · cases wanted
    exact .of_outside (takeNotice_keeps u _ _) rfl
  · cases wanted

theorem wantTake_handsKeepMagnets : HandsKeepMagnets wantTake := by
  intro source f hand wanted u
  unfold wantTake at wanted
  split at wanted
  · cases wanted
    exact .of_outside (handTake_keeps u _ _ _ _) rfl
  · cases wanted

theorem wantCancel_handsKeepMagnets : HandsKeepMagnets wantCancel := by
  intro source f hand wanted u
  unfold wantCancel at wanted
  split at wanted
  · cases wanted
    exact .of_outside (handCancel_keeps u _ _ _ _) rfl
  · cases wanted

theorem wantRequest_handsKeepMagnets (which : Fin 16 → Bool) : HandsKeepMagnets (wantRequest which) := by
  intro source f hand wanted u
  unfold wantRequest at wanted
  split at wanted
  · obtain ⟨-, ⟨⟩⟩ := Option.ite_none_right_eq_some.1 wanted
    exact .of_outside (handRequest_keeps u _ _ _) rfl
  · cases wanted

theorem wantAnswer_handsKeepMagnets : HandsKeepMagnets wantAnswer := by
  intro source f hand wanted u
  unfold wantAnswer at wanted
  split at wanted
  · cases wanted
    exact .refl u
  · cases wanted

/-! ## Every command -/

theorem KeepsMagnets.of_whileRunning {work : State → State} (answer : whileRunning work s = .next t)
    (kept : KeepsMagnets s (work s)) : KeepsMagnets s t := by
  unfold Machine.whileRunning at answer
  split at answer <;> cases answer
  · exact kept.trans (.of_outside (settle_keeps _) rfl)
  · exact .refl s

theorem KeepsMagnets.of_whileRunningLocal {work : State → State} (answer : whileRunningLocal work s = .next t)
    (kept : KeepsMagnets s (work s)) : KeepsMagnets s t := by
  unfold Machine.whileRunningLocal at answer
  split at answer <;> cases answer
  · exact kept.trans (.of_outside (showOutputs_keeps _) rfl)
  · exact .refl s

theorem execPinReset_keepsMagnets {wire : List Byte} (answer : execPinReset s wire = .next t) : KeepsMagnets s t := by
  unfold execPinReset at answer
  split at answer <;> cases answer
  · exact .refl s
  · exact (countCut_keepsMagnets wire s).trans (pinResetState_keepsMagnets _)

theorem execResetEnd_keepsMagnets {pins : Pins} (answer : execResetEnd pins s = .next t) : KeepsMagnets s t := by
  unfold execResetEnd at answer
  split at answer <;> cases answer
  · have powered : KeepsMagnets s (s.setPower .running) := .of_outside (setPower_keeps s _) rfl
    exact ((powered.trans (readPins_keepsMagnets pins _)).trans (startScan_keepsMagnets true _ _)).trans
      (.of_outside (settle_keeps _) rfl)
  · exact .refl s

theorem execLineIdle_keepsMagnets (answer : execLineIdle s = .next t) : KeepsMagnets s t := by
  unfold execLineIdle at answer
  split at answer <;> cases answer
  · exact .trans (.of_outside (takeIdle_keeps s) rfl) (.of_outside (settleAtIdle_keeps _) rfl)
  · exact .refl s

theorem exec_keepsMagnets {i : Instr} (answer : exec i s = .next t) : KeepsMagnets s t := by
  cases i with
  | powerOnReset => cases answer; exact resetState_keepsMagnets s
  | pinReset wire => exact execPinReset_keepsMagnets answer
  | resetEnd pins => exact execResetEnd_keepsMagnets answer
  | profileReadDone block => exact .of_whileRunning answer (takeRead_keepsMagnets block s)
  | loadWaitExpiry => exact .of_whileRunningLocal answer (.ite (.of_outside (setLoader_keeps s _) rfl) (.refl s))
  | scanIntervalExpiry present => exact .of_whileRunning answer (takeInterval_keepsMagnets present s)
  | scanResult readings present => exact .of_whileRunning answer (takeScan_keepsMagnets readings present s)
  | joinTimerExpiry => exact .of_whileRunning answer (takeJoinExpiry_keepsMagnets s)
  | lineIdle => exact execLineIdle_keepsMagnets answer
  | frameComplete => exact .of_whileRunning answer (takeCompletion_keepsMagnets s)
  | arbitrationLost => exact .of_whileRunning answer (takeArbitrationLost_keepsMagnets s)
  | transmitBitError cause => exact .of_whileRunning answer (takeTransmitError_keepsMagnets cause s)
  | lineBreak wire => exact .of_whileRunning answer (takeBreak_keepsMagnets wire s)
  | triggerDriven => exact .of_whileRunning answer (takeDriven_keepsMagnets s)
  | triggerLost cause => exact .of_whileRunning answer (takeTriggerLost_keepsMagnets cause s)
  | alertTrigger => exact .of_whileRunning answer (takeCode_keepsMagnets takeAlert_keepsMagnets s)
  | hushTrigger => exact .of_whileRunning answer (takeCode_keepsMagnets takeHush_keepsMagnets s)
  | codeWaitTimeout => exact .of_whileRunning answer (.ite (setReceiver_keepsMagnets _ s) (.refl s))
  | lineStuck => exact .of_whileRunning answer (takeStuck_keepsMagnets s)
  | framingError wire => exact .of_whileRunning answer (takeFramingError_keepsMagnets wire s)
  | frameDiscarded wire => exact .of_whileRunning answer (takeDiscarded_keepsMagnets wire s)
  | bulletin wire => exact .of_whileRunning answer (receive_keepsMagnets (wantBulletin_handsKeepMagnets _) wire s)
  | fireBulletin wire => exact .of_whileRunning answer (receive_keepsMagnets (wantBulletin_handsKeepMagnets _) wire s)
  | postureOrderDay wire => exact .of_whileRunning answer (receive_keepsMagnets (wantOrder_handsKeepMagnets _) wire s)
  | postureOrderNight wire => exact .of_whileRunning answer (receive_keepsMagnets (wantOrder_handsKeepMagnets _) wire s)
  | postureOrderRestore wire =>
    exact .of_whileRunning answer (receive_keepsMagnets (wantOrder_handsKeepMagnets _) wire s)
  | callNotice wire => exact .of_whileRunning answer (receive_keepsMagnets wantNotice_handsKeepMagnets wire s)
  | callTake wire => exact .of_whileRunning answer (receive_keepsMagnets wantTake_handsKeepMagnets wire s)
  | callCancel wire => exact .of_whileRunning answer (receive_keepsMagnets wantCancel_handsKeepMagnets wire s)
  | surveyIdentity wire => exact .of_whileRunning answer (receive_keepsMagnets (wantRequest_handsKeepMagnets _) wire s)
  | surveyCounters wire => exact .of_whileRunning answer (receive_keepsMagnets (wantRequest_handsKeepMagnets _) wire s)
  | surveyPeerEntry wire => exact .of_whileRunning answer (receive_keepsMagnets (wantRequest_handsKeepMagnets _) wire s)
  | surveyCallSlot wire => exact .of_whileRunning answer (receive_keepsMagnets (wantRequest_handsKeepMagnets _) wire s)
  | surveyDoorLeaf wire => exact .of_whileRunning answer (receive_keepsMagnets (wantRequest_handsKeepMagnets _) wire s)
  | surveyHead wire => exact .of_whileRunning answer (receive_keepsMagnets (wantRequest_handsKeepMagnets _) wire s)
  | surveyRoute wire => exact .of_whileRunning answer (receive_keepsMagnets (wantRequest_handsKeepMagnets _) wire s)
  | surveyUnknownSection wire =>
    exact .of_whileRunning answer (receive_keepsMagnets (wantRequest_handsKeepMagnets _) wire s)
  | surveyAnswer wire => exact .of_whileRunning answer (receive_keepsMagnets wantAnswer_handsKeepMagnets wire s)
  | bulletinRefreshExpiry => exact .of_whileRunning answer (takeRefresh_keepsMagnets s)
  | staleExpiry entry => exact .of_whileRunning answer (ageEntry_keepsMagnets entry _ _ _ s)
  | lostExpiry entry => exact .of_whileRunning answer (ageEntry_keepsMagnets entry _ _ _ s)
  | duplicateTimerExpiry => exact .of_whileRunning answer (takeDuplicateExpiry_keepsMagnets s)
  | doorContactChange leaf closed => exact .of_whileRunning answer (takeDoorContact_keepsMagnets leaf closed s)
  | boltContactChange leaf thrown => exact .of_whileRunning answer (takeBoltContact_keepsMagnets leaf thrown s)
  | exitRequestEdge leaf => exact .of_whileRunningLocal answer (takeExitEdge_keepsMagnets leaf s)
  | exitRequest leaf => exact .of_whileRunning answer (takeExitRequest_keepsMagnets leaf s)
  | boltTimeExpiry leaf => exact .of_whileRunning answer (takeBoltExpiry_keepsMagnets leaf s)
  | propTimerExpiry leaf => exact .of_whileRunning answer (takePropExpiry_keepsMagnets leaf s)
  | passExpiry leaf => exact .of_whileRunning answer (takePassExpiry_keepsMagnets leaf s)
  | callInputChange input active => exact .of_whileRunning answer (takeInputChange_keepsMagnets input active s)
  | helpPointPress input => exact .of_whileRunning answer (takeHelpPress_keepsMagnets input s)
  | firePointPress input => exact .of_whileRunning answer (takeFirePress_keepsMagnets input s)
  | repeatTimerExpiry slot => exact .of_whileRunning answer (takeRepeat_keepsMagnets slot s)
  | galleryReset on => exact .of_whileRunning answer (takeGalleryKey_keepsMagnets on s)
  | keyDown key => exact .of_whileRunningLocal answer (.ite (.refl s) (.of_outside (setPost_keeps s _) rfl))
  | keyUp key => exact .of_whileRunning answer (.of_outside (takeKeyUp_keeps s _) rfl)
  | authChange on => exact .of_whileRunningLocal answer (.of_outside (setPost_keeps s _) rfl)
  | returnTimerExpiry => exact .of_whileRunningLocal answer (.ite (.of_outside (setPost_keeps s _) rfl) (.refl s))
  | silent station slot => exact .of_whileRunningLocal answer (.of_outside (setPost_keeps s _) rfl)
  | refusalBlinkPhase => exact .of_whileRunningLocal answer (.of_outside (setPost_keeps s _) rfl)
  | refusalBlinkEnd => exact .of_whileRunningLocal answer (.ite (.of_outside (setPost_keeps s _) rfl) (.refl s))
  | lampTestEnd =>
    exact .of_whileRunningLocal answer
      (.ite (.trans (.of_outside (setLamp_keeps s _) rfl) (.of_outside (decideSound_keeps _) rfl)) (.refl s))
  | helpChimeEnd =>
    exact .of_whileRunningLocal answer
      (.ite (.trans (.of_outside (setPost_keeps s _) rfl) (.of_outside (decideSound_keeps _) rfl)) (.refl s))
  | drivePeriod => exact .of_whileRunningLocal answer (.of_outside (setLamp_keeps s _) rfl)
  | chaseStepExpiry => exact .of_whileRunningLocal answer (.ite (.of_outside (setLamp_keeps s _) rfl) (.refl s))
  | flashPhaseExpiry => exact .of_whileRunningLocal answer (.ite (.of_outside (setLamp_keeps s _) rfl) (.refl s))
  | supplyLoss => cases answer; exact losePower_keepsMagnets s
  | ageAdvance => exact .of_whileRunningLocal answer (passSecond_keepsMagnets s)
  | sounderCadenceExpiry => exact .of_whileRunningLocal answer (.ite (.of_outside (setLamp_keeps s _) rfl) (.refl s))
  | otherTriggerCode code => exact .of_whileRunning answer (.ite (.refl s) (takeCode_keepsMagnets .refl s))

theorem step_keepsMagnets (answer : step s = .next t) : KeepsMagnets s t := by
  unfold step at answer
  split at answer
  · cases answer
    exact .refl s
  · exact .trans (.of_outside (setPending_keeps s _) rfl) (exec_keepsMagnets answer)

/-! ## The rule in the manual's words (R97) -/

theorem posture_ne_evacuate_iff (p : Posture) : p ≠ .evacuate ↔ p = .startup ∨ p = .day ∨ p = .night := by
  cases p <;> decide

theorem heardFire_eq_false_iff (s : State) (j : Fin 8) :
    heardFire s.peers.entries j = false ↔
      ∀ e h, entryAt s j = some e → e.heard = some h → h.hazard ≠ .fire := by
  unfold heardFire entryAt
  cases s.peers.entries[j.val]? with
  | none => simp
  | some e =>
    rw [forall_comm]
    cases given : e.heard <;> simp [given]

theorem magnetNow_configured {lf : Leaf} {config : LeafConfig} {exitDoor : Bool} {links : List (Fin 8)}
    (role : lf.role = .configured config exitDoor links) :
    magnetNow s lf = true ↔
      config.fire = true
        ∧ (s.control.posture = .startup ∨ s.control.posture = .day ∨ s.control.posture = .night)
        ∧ (s.hazard.zone = .clear ∨ s.hazard.zone = .watch)
        ∧ ∀ j ∈ links, ∀ e h, entryAt s j = some e → e.heard = some h → h.hazard ≠ .fire := by
  simp only [magnetNow, magnetOf, role, Bool.and_eq_true, Bool.or_eq_true, bne_iff_ne, beq_iff_eq,
    Bool.not_eq_true', List.any_eq_false, Bool.not_eq_true, heardFire_eq_false_iff, posture_ne_evacuate_iff, and_assoc]

theorem magnetNow_unconfigured {lf : Leaf} (role : lf.role = .provisional ∨ lf.role = .dropped) :
    magnetNow s lf = false := by
  obtain role | role := role <;> rw [magnetNow, magnetOf, role]

/-- Settles O54: every command answers a state that keeps the rule, since what the rule reads either stands or is
followed by a re-evaluation of the magnets; after a reset no leaf is configured and every magnet is off. -/
theorem magnetsFollowTheirRuleKept : Obligations.MagnetsFollowTheirRuleKept := by
  refine ⟨fun s t ⟨magnets, links⟩ answer => ?_, reset_agree.2, reset_agree.1, fun s n magnets => ⟨?_, ?_⟩⟩
  · have kept := step_keepsMagnets answer
    exact ⟨kept.magnets links magnets, kept.links links⟩
  · intro config exitDoor links role
    rw [magnets n]
    exact magnetNow_configured role
  · intro role
    rw [magnets n]
    exact magnetNow_unconfigured role

end Sys2Proof.Machine
end


section
/-! SUPPORT. The layer of the call unit: which element a choice by rank takes, what each operation on the calls makes
of them, and that it reads nothing but the calls, the profile and the posture. -/

namespace Sys2Proof.Machine

variable {s t u : State}

/-! ## The first best element of a list -/

section
variable {α : Type} (p : α → Bool) (f : α → Nat)

/-- The better of the best so far and a further element: one that qualifies and whose value is greater. -/
def pickBest (best : Option α) (x : α) : Option α :=
  if p x then
    match best with
    | some b => if f b < f x then some x else some b
    | none => some x
  else best

theorem foldl_pickBest_of {P : α → Prop} {l : List α} {best : Option α} {r : α} (old : ∀ b, best = some b → P b)
    (new : ∀ x ∈ l, p x = true → P x) (picked : l.foldl (pickBest p f) best = some r) : P r := by
  induction l generalizing best with
  | nil => exact old r picked
  | cons x l ih =>
    refine ih (fun b given => ?_) (fun y mem => new y (List.mem_cons_of_mem x mem)) picked
    unfold pickBest at given
    split at given
    · next fits =>
      have here := new x List.mem_cons_self fits
      split at given
      · split at given <;> cases given
        · exact here
        · exact old _ rfl
      · cases given
        exact here
    · exact old b given

/-- What is picked is an element that qualifies. -/
theorem foldl_pickBest_mem {l : List α} {r : α} (picked : l.foldl (pickBest p f) none = some r) :
    r ∈ l ∧ p r = true :=
  foldl_pickBest_of p f (P := fun x => x ∈ l ∧ p x = true) (fun _ h => by cases h) (fun _ mem fits => ⟨mem, fits⟩)
    picked

theorem foldl_pickBest_stays {l : List α} {x : α} (rest : ∀ y ∈ l, p y = true → f y ≤ f x) :
    l.foldl (pickBest p f) (some x) = some x := by
  induction l with
  | nil => rfl
  | cons y l ih =>
    have kept : pickBest p f (some x) y = some x := by
      unfold pickBest
      split
      · next fits => exact if_neg (rest y List.mem_cons_self fits).not_gt
      · rfl
    rw [List.foldl_cons, kept]
    exact ih fun z mem => rest z (List.mem_cons_of_mem y mem)

/-- The element that is picked: it qualifies, is above every earlier one and not below any later one. -/
theorem foldl_pickBest_eq {before after : List α} {x : α} (fits : p x = true)
    (above : ∀ y ∈ before, p y = true → f y < f x) (below : ∀ y ∈ after, p y = true → f y ≤ f x) :
    (before ++ x :: after).foldl (pickBest p f) none = some x := by
  rw [List.foldl_append, List.foldl_cons]
  have taken : pickBest p f (before.foldl (pickBest p f) none) x = some x := by
    cases best : before.foldl (pickBest p f) none with
    | none => simp [pickBest, fits]
    | some b =>
      have less : f b < f x := by
        obtain ⟨mem, fitting⟩ := foldl_pickBest_mem p f best
        exact above b mem fitting
      simp [pickBest, fits, less]
  rw [taken]
  exact foldl_pickBest_stays p f below

theorem foldl_pickBest_none {l : List α} (unfit : ∀ x ∈ l, p x = false) : l.foldl (pickBest p f) none = none := by
  cases picked : l.foldl (pickBest p f) none with
  | none => rfl
  | some r =>
    obtain ⟨mem, fits⟩ := foldl_pickBest_mem p f picked
    rw [unfit r mem] at fits
    cases fits

theorem foldl_pickBest_ge {l : List α} {best : Option α} {r : α} (picked : l.foldl (pickBest p f) best = some r) :
    (∀ b, best = some b → f b ≤ f r) ∧ ∀ x ∈ l, p x = true → f x ≤ f r := by
  induction l generalizing best with
  | nil =>
    cases picked
    exact ⟨fun b same => by cases same; exact le_rfl, by simp⟩
  | cons x l ih =>
    obtain ⟨old, new⟩ := ih picked
    unfold pickBest at old
    refine ⟨fun b given => ?_, fun y mem fits => ?_⟩
    · subst given
      split at old
      · dsimp only at old
        split at old
        · next less => exact less.le.trans (old x rfl)
        · exact old b rfl
      · exact old b rfl
    · obtain rfl | mem := List.mem_cons.1 mem
      · rw [if_pos fits] at old
        split at old
        · split at old
          · exact old y rfl
          · next b less => exact (not_lt.1 less).trans (old b rfl)
        · exact old y rfl
      · exact new y mem fits

/-- What is picked is not below any other element that qualifies. -/
theorem le_of_foldl_pickBest {l : List α} {r x : α} (picked : l.foldl (pickBest p f) none = some r) (mem : x ∈ l)
    (fits : p x = true) : f x ≤ f r :=
  (foldl_pickBest_ge p f picked).2 x mem fits

theorem foldl_pickBest_isSome {l : List α} {x : α} (mem : x ∈ l) (fits : p x = true) :
    ∃ r, l.foldl (pickBest p f) none = some r := by
  cases picked : l.foldl (pickBest p f) none with
  | some r => exact ⟨r, rfl⟩
  | none =>
    have stays : ∀ (m : List α) (best : Option α), m.foldl (pickBest p f) best = none → best = none := by
      intro m
      induction m with
      | nil => exact fun _ h => h
      | cons y m ih =>
        intro best h
        have none := ih _ h
        unfold pickBest at none
        split at none
        · split at none
          · split at none <;> cases none
          · cases none
        · exact none
    obtain ⟨before, after, rfl⟩ := List.append_of_mem mem
    rw [List.foldl_append, List.foldl_cons] at picked
    have none := stays _ _ picked
    simp only [pickBest, fits, if_true] at none
    split at none
    · split at none <;> cases none
    · cases none

end

/-- An entry that a full queue may evict (R164). -/
def QueueEntry.evicts (e : QueueEntry) : Bool := e.frame.refusable && !e.inFlight

theorem evictable_eq (q : List QueueEntry) : evictable q = q.foldl (pickBest QueueEntry.evicts (·.place)) none := by
  refine congrArg (fun pick => q.foldl pick none) (funext fun best => ?_)
  cases best <;> rfl

theorem evictable_mem {q : List QueueEntry} {v : QueueEntry} (h : evictable q = some v) : v ∈ q :=
  (foldl_pickBest_mem _ _ (evictable_eq q ▸ h)).1

theorem topPending_eq (s : State) :
    topPending s = s.calls.pending.foldl (pickBest (fun _ => true) (fun src => (kindOf s src).rank)) none := by
  refine congrArg (fun pick => s.calls.pending.foldl pick none) (funext fun best => ?_)
  cases best <;> rfl

/-- The source that is served next is one that waits (R114). -/
theorem topPending_mem {src : Source} (h : topPending s = some src) : src ∈ s.calls.pending :=
  (foldl_pickBest_mem _ _ (topPending_eq s ▸ h)).1

theorem evictedSlot_eq (s : State) (rank : Nat) :
    evictedSlot s rank =
      allEight.foldl (pickBest (fun i => outranked rank (s.calls.slots.get i)) (fun i => (s.calls.slots.get i).age)) none := by
  refine congrArg (fun pick => allEight.foldl pick none) (funext fun best => ?_)
  cases best <;> rfl

/-! ## Slots -/

theorem Eight.set_set {α : Type} (v : Eight α) (i : Fin 8) (x y : α) : (v.set i x).set i y = v.set i y := by
  refine Eight.ext_get fun j => ?_
  by_cases h : j = i
  · subst h
    simp
  · simp [Eight.get_set_of_ne, h]

theorem Eight.get_set {α : Type} (v : Eight α) (i j : Fin 8) (x : α) :
    (v.set i x).get j = if j = i then x else v.get j := by
  split
  · next same => rw [same, Eight.get_set_self]
  · next other => exact Eight.get_set_of_ne v i j x other

theorem outranked_isOpen {rank : Nat} {sl : Slot} (h : outranked rank sl = true) : sl.isOpen = true := by
  unfold outranked at h
  split at h
  · next taken => simp [Slot.isOpen, taken]
  · cases h

theorem Slot.isOpen_iff {sl : Slot} : sl.isOpen = true ↔ sl.state ≠ .free := by simp [Slot.isOpen]

theorem evictedSlot_spec {rank : Nat} {i : Fin 8} (h : evictedSlot s rank = some i) :
    outranked rank (s.calls.slots.get i) = true :=
  (foldl_pickBest_mem (fun i => outranked rank (s.calls.slots.get i)) _ (evictedSlot_eq s rank ▸ h)).2

/-- Slots stand in their order, each once. -/
theorem allEight_split (i : Fin 8) :
    ∃ before after, allEight = before ++ i :: after ∧ (∀ j ∈ before, j < i) ∧ ∀ j ∈ after, i < j := by
  refine ⟨allEight.take i.val, allEight.drop (i.val + 1), ?_⟩
  revert i
  decide

theorem freeSlot_eq_some_iff {i : Fin 8} :
    freeSlot s = some i ↔ (s.calls.slots.get i).state = .free ∧ ∀ j < i, (s.calls.slots.get j).state ≠ .free := by
  have placed : ∀ k : Fin 8, allEight[k.val]'k.isLt = k := by decide
  have place : ∀ j (h : j < allEight.length), allEight[j] = ⟨j, h⟩ := fun j h => placed ⟨j, h⟩
  unfold freeSlot
  rw [List.find?_eq_some_iff_getElem]
  refine and_congr (by simp) ⟨fun ⟨n, bound, same, earlier⟩ j less => ?_, fun none => ?_⟩
  · rw [place] at same
    subst same
    simpa [place] using earlier j.val less
  · exact ⟨i.val, i.isLt, place _ _, fun j less => by simpa [place] using none ⟨j, less.trans i.isLt⟩ less⟩

theorem freeSlot_eq_none_iff : freeSlot s = none ↔ ∀ i, (s.calls.slots.get i).isOpen = true := by
  simp [freeSlot, Slot.isOpen, mem_allEight]

theorem freeSlot_congr (same : t.calls.slots = s.calls.slots) : freeSlot t = freeSlot s := by
  unfold freeSlot
  rw [same]

theorem hasCall_iff {src : Source} :
    hasCall s src = true ↔
      (∃ i, (s.calls.slots.get i).isOpen = true ∧ (s.calls.slots.get i).source = some src) ∨ src ∈ s.calls.pending := by
  simp [hasCall, Eight.toList_eq]

theorem hasCall_eq_false_iff {src : Source} :
    hasCall s src = false ↔
      (∀ i, (s.calls.slots.get i).isOpen = true → (s.calls.slots.get i).source ≠ some src)
        ∧ src ∉ s.calls.pending := by
  rw [← Bool.not_eq_true, hasCall_iff]
  push Not
  rfl

/-! ## What the operations make of the calls -/

/-- A slot into which a source's call has just been raised and announced (R112, R116). -/
def raisedSlot (s : State) (i : Fin 8) (src : Source) : Slot :=
  { seq := (s.calls.slots.get i).seq + 1, state := .raised, kind := some (kindOf s src), source := some src, age := 0
    repeatTimer := some 0, notices := 1 }

/-- A slot whose call has been closed (R115). -/
def Slot.closed (sl : Slot) : Slot := { sl with state := .free, age := 0, repeatTimer := none }

/-- A slot whose call has been announced (R117). -/
def Slot.announced (sl : Slot) : Slot := { sl with repeatTimer := some 0, notices := sl.notices + 1 }

@[simp] theorem queueNotice_calls (count : Byte) (n : Notice) (s : State) : (queueNotice count n s).calls = s.calls :=
  (queueNotice_keeps s count n).calls_eq

theorem announce_calls (i : Fin 8) (s : State) :
    (announce i s).calls = { s.calls with slots := s.calls.slots.set i (s.calls.slots.get i).announced } :=
  queueNotice_calls _ _ _

@[simp] theorem queueCleared_calls (i : Fin 8) (s : State) : (queueCleared i s).calls = s.calls :=
  queueNotice_calls _ _ _

theorem closeSlot_calls (i : Fin 8) (s : State) :
    (closeSlot i s).calls = { s.calls with slots := s.calls.slots.set i (s.calls.slots.get i).closed } := by
  simp [closeSlot, State.setSlot, Slot.closed]

theorem raiseInto_calls (i : Fin 8) (src : Source) (s : State) :
    (raiseInto i src s).calls = { s.calls with slots := s.calls.slots.set i (raisedSlot s i src) } := by
  rw [raiseInto, announce_calls]
  simp [State.setSlot, Eight.set_set, Slot.announced, raisedSlot]

theorem setPendingFlag_calls (src : Source) (s : State) :
    (setPendingFlag src s).calls =
      { s.calls with pending := if src ∈ s.calls.pending then s.calls.pending else s.calls.pending ++ [src] } := by
  by_cases waits : src ∈ s.calls.pending <;> simp [setPendingFlag, waits]

/-- An evicted source waits where it is an asserted Motion source that does not wait yet (R113). -/
theorem pendIfAsserted_cases (src : Option Source) (s : State) :
    (pendIfAsserted src s).calls = s.calls
      ∨ ∃ old, src = some old ∧ old ∉ s.calls.pending
          ∧ (pendIfAsserted src s).calls = { s.calls with pending := s.calls.pending ++ [old] } := by
  unfold pendIfAsserted
  split
  · next k =>
    split
    · rw [setPendingFlag_calls]
      by_cases waits : Source.input k ∈ s.calls.pending
      · exact .inl (by rw [if_pos waits])
      · exact .inr ⟨_, rfl, waits, by rw [if_neg waits]⟩
    · exact .inl rfl
  · exact .inl rfl

theorem pendIfAsserted_slots (src : Option Source) (s : State) :
    (pendIfAsserted src s).calls.slots = s.calls.slots := by
  obtain same | ⟨_, _, _, same⟩ := pendIfAsserted_cases src s <;> rw [same]

theorem requestCall_of_hasCall {src : Source} (h : hasCall s src = true) : requestCall src s = s := if_pos h

theorem requestCall_of_new {src : Source} (h : hasCall s src = false) : requestCall src s = raiseCall src s :=
  if_neg (by simp [h])

theorem raiseCall_of_free {src : Source} {i : Fin 8} (free : freeSlot s = some i) :
    raiseCall src s = raiseInto i src s := by
  simp [raiseCall, free]

theorem raiseCall_of_evicted {src : Source} {i : Fin 8} (full : freeSlot s = none)
    (evicted : evictedSlot s (kindOf s src).rank = some i) :
    raiseCall src s = raiseInto i src (pendIfAsserted (s.calls.slots.get i).source (queueCleared i s)) := by
  simp [raiseCall, full, evicted]

theorem raiseCall_of_none {src : Source} (full : freeSlot s = none)
    (kept : evictedSlot s (kindOf s src).rank = none) : raiseCall src s = setPendingFlag src s := by
  simp [raiseCall, full, kept]

/-! ## What the operations on the calls read -/

/-- Two states agree in what the operations on the calls read: the calls, the profile, the posture (R106 to R115). -/
structure SameCalls (s t : State) : Prop where
  calls : t.calls = s.calls
  loader : t.loader = s.loader
  control : t.control = s.control

theorem SameCalls.refl (s : State) : SameCalls s s := ⟨rfl, rfl, rfl⟩

theorem SameCalls.symm (h : SameCalls s t) : SameCalls t s := ⟨h.calls.symm, h.loader.symm, h.control.symm⟩

theorem SameCalls.trans (h : SameCalls s t) (k : SameCalls t u) : SameCalls s u :=
  ⟨k.calls.trans h.calls, k.loader.trans h.loader, k.control.trans h.control⟩

theorem SameCalls.of_keeps {c : List Block} (h : SameOutside c s t)
    (clear : c.all (· ∉ [Block.calls, .loader, .control]) = true) : SameCalls s t := by
  have out : ∀ b ∈ [Block.calls, .loader, .control], b ∉ c := fun b read mem =>
    absurd read (by simpa using List.all_eq_true.1 clear b mem)
  exact ⟨h.calls_eq (out _ (by decide)), h.loader_eq (out _ (by decide)), h.control_eq (out _ (by decide))⟩

namespace SameCalls

theorem inputKind (h : SameCalls s t) (i : Fin 6) : Machine.inputKind t i = Machine.inputKind s i := by
  unfold Machine.inputKind
  rw [h.loader]

theorem kindOf (h : SameCalls s t) (src : Source) : Machine.kindOf t src = Machine.kindOf s src := by
  unfold Machine.kindOf
  simp only [h.inputKind]

theorem asserted (h : SameCalls s t) (i : Fin 6) : Machine.asserted t i = Machine.asserted s i := by
  unfold Machine.asserted
  rw [h.inputKind, h.calls, h.control]

theorem hasCall (h : SameCalls s t) (src : Source) : Machine.hasCall t src = Machine.hasCall s src :=
  hasCall_congr h.calls src

theorem setCalls (h : SameCalls s t) (c : Calls) : SameCalls (s.setCalls c) (t.setCalls c) :=
  ⟨rfl, h.loader, h.control⟩

theorem raiseInto (h : SameCalls s t) (i : Fin 8) (src : Source) :
    SameCalls (Machine.raiseInto i src s) (Machine.raiseInto i src t) := by
  have frame := raiseInto_keeps s i src
  have frame' := raiseInto_keeps t i src
  refine ⟨?_, ?_, ?_⟩
  · rw [raiseInto_calls, raiseInto_calls, raisedSlot, raisedSlot, h.calls, h.kindOf]
  · rw [frame.loader_eq, frame'.loader_eq, h.loader]
  · rw [frame.control_eq, frame'.control_eq, h.control]

theorem setPendingFlag (h : SameCalls s t) (src : Source) :
    SameCalls (Machine.setPendingFlag src s) (Machine.setPendingFlag src t) := by
  have frame := setPendingFlag_keeps s src
  have frame' := setPendingFlag_keeps t src
  refine ⟨?_, ?_, ?_⟩
  · rw [setPendingFlag_calls, setPendingFlag_calls, h.calls]
  · rw [frame.loader_eq, frame'.loader_eq, h.loader]
  · rw [frame.control_eq, frame'.control_eq, h.control]

theorem pendIfAsserted (h : SameCalls s t) (src : Option Source) :
    SameCalls (Machine.pendIfAsserted src s) (Machine.pendIfAsserted src t) := by
  unfold Machine.pendIfAsserted
  split
  · rw [h.asserted]
    split
    · exact h.setPendingFlag _
    · exact h
  · exact h

theorem of_queueCleared (i : Fin 8) (s : State) : SameCalls s (queueCleared i s) :=
  .of_keeps (queueCleared_keeps s i) (by decide)

theorem raiseCall (h : SameCalls s t) (src : Source) :
    SameCalls (Machine.raiseCall src s) (Machine.raiseCall src t) := by
  have free : freeSlot t = freeSlot s := freeSlot_congr (by rw [h.calls])
  have evicted : evictedSlot t (Machine.kindOf t src).rank = evictedSlot s (Machine.kindOf s src).rank := by
    rw [h.kindOf, evictedSlot, evictedSlot, h.calls]
  unfold Machine.raiseCall
  rw [free, evicted]
  split
  · exact h.raiseInto _ src
  · split
    · rw [h.calls]
      refine ((h.symm.trans (of_queueCleared _ s)).symm.trans ?_).pendIfAsserted _ |>.raiseInto _ src
      exact of_queueCleared _ t
    · exact h.setPendingFlag src

theorem requestCall (h : SameCalls s t) (src : Source) :
    SameCalls (Machine.requestCall src s) (Machine.requestCall src t) := by
  unfold Machine.requestCall
  rw [h.hasCall]
  split
  · exact h
  · exact h.raiseCall src

theorem foldl {α : Type} {f : State → α → State} (step : ∀ s t x, SameCalls s t → SameCalls (f s x) (f t x))
    (h : SameCalls s t) (l : List α) : SameCalls (l.foldl f s) (l.foldl f t) := by
  induction l generalizing s t with
  | nil => exact h
  | cons x l ih => exact ih (step _ _ x h)

theorem requestMotion (h : SameCalls s t) : SameCalls (Machine.requestMotion s) (Machine.requestMotion t) := by
  refine h.foldl (fun u v i same => ?_) allSix
  rw [same.asserted]
  split
  · exact same.requestCall _
  · exact same

theorem topPending (h : SameCalls s t) : Machine.topPending t = Machine.topPending s := by
  unfold Machine.topPending
  simp only [h.kindOf, h.calls]

theorem servePending (h : SameCalls s t) (n : Nat) :
    SameCalls (Machine.servePending n s) (Machine.servePending n t) := by
  induction n generalizing s t with
  | zero => exact h
  | succ n ih =>
    unfold Machine.servePending
    rw [freeSlot_congr (by rw [h.calls] : t.calls.slots = s.calls.slots), h.topPending]
    split
    · rw [h.calls]
      exact ih ((h.setCalls _).raiseInto _ _)
    · exact h

theorem afterClosing (h : SameCalls s t) : SameCalls (Machine.afterClosing s) (Machine.afterClosing t) :=
  (h.servePending 8).requestMotion

end SameCalls

/-- The asserted Motion sources are the same whatever waits or is open (R110). -/
theorem asserted_congr (inputs : t.calls.inputs = s.calls.inputs) (loader : t.loader = s.loader)
    (control : t.control = s.control) (i : Fin 6) : asserted t i = asserted s i := by
  unfold asserted inputKind
  rw [inputs, loader, control]

end Sys2Proof.Machine
end


section
/-! SUPPORT. The events of a running station, said once: what each of them works, how it ends, what its work may
change, and that a relation kept by all of these is kept by every step. -/

namespace Sys2Proof.Machine

variable {c d W : List Block} {s t u : State}

/-! ## The work of an event and its end -/

/-- The commands that a station takes whether it runs or not: the resets and the supply (R176). -/
def isSupplyEvent : Instr → Bool
  | .powerOnReset | .pinReset _ | .resetEnd _ | .supplyLoss => true
  | _ => false

/-- What an event works at a running station, apart from how the command ends. -/
def workOf : Instr → State → State
  | .profileReadDone block => takeRead block
  | .loadWaitExpiry => takeLoadWait
  | .scanIntervalExpiry present => takeInterval present
  | .scanResult readings present => takeScan readings present
  | .joinTimerExpiry => takeJoinExpiry
  | .lineIdle => takeIdle
  | .frameComplete => takeCompletion
  | .arbitrationLost => takeArbitrationLost
  | .transmitBitError cause => takeTransmitError cause
  | .lineBreak wire => takeBreak wire
  | .triggerDriven => takeDriven
  | .triggerLost cause => takeTriggerLost cause
  | .alertTrigger => takeCode takeAlert
  | .hushTrigger => takeCode takeHush
  | .codeWaitTimeout => takeCode id
  | .lineStuck => takeStuck
  | .framingError wire => takeFramingError wire
  | .frameDiscarded wire => takeDiscarded wire
  | .bulletin wire => receive wire (wantBulletin false)
  | .fireBulletin wire => receive wire (wantBulletin true)
  | .postureOrderDay wire => receive wire (wantOrder .day)
  | .postureOrderNight wire => receive wire (wantOrder .night)
  | .postureOrderRestore wire => receive wire (wantOrder .restore)
  | .callNotice wire => receive wire wantNotice
  | .callTake wire => receive wire wantTake
  | .callCancel wire => receive wire wantCancel
  | .surveyIdentity wire => receive wire (wantRequest (· == 0))
  | .surveyCounters wire => receive wire (wantRequest (· == 1))
  | .surveyPeerEntry wire => receive wire (wantRequest (· == 2))
  | .surveyCallSlot wire => receive wire (wantRequest (· == 3))
  | .surveyDoorLeaf wire => receive wire (wantRequest (· == 4))
  | .surveyHead wire => receive wire (wantRequest (· == 5))
  | .surveyRoute wire => receive wire (wantRequest (· == 6))
  | .surveyUnknownSection wire => receive wire (wantRequest (fun area => decide (7 ≤ area.val)))
  | .surveyAnswer wire => receive wire wantAnswer
  | .bulletinRefreshExpiry => takeRefresh
  | .staleExpiry entry => ageEntry entry .current .stale Config.staleAge
  | .lostExpiry entry => ageEntry entry .stale .lost Config.lostAge
  | .duplicateTimerExpiry => takeDuplicateExpiry
  | .doorContactChange leaf closed => takeDoorContact leaf closed
  | .boltContactChange leaf thrown => takeBoltContact leaf thrown
  | .exitRequestEdge leaf => takeExitEdge leaf
  | .exitRequest leaf => takeExitRequest leaf
  | .boltTimeExpiry leaf => takeBoltExpiry leaf
  | .propTimerExpiry leaf => takePropExpiry leaf
  | .passExpiry leaf => takePassExpiry leaf
  | .callInputChange input active => takeInputChange input active
  | .helpPointPress input => takeHelpPress input
  | .firePointPress input => takeFirePress input
  | .repeatTimerExpiry slot => takeRepeat slot
  | .galleryReset on => takeGalleryKey on
  | .keyDown key => takeKeyDown (keyAt key)
  | .keyUp key => takeKeyUp (keyAt key)
  | .authChange on => takeAuth on
  | .returnTimerExpiry => takeReturnExpiry
  | .silent station slot => takeSilent station slot
  | .refusalBlinkPhase => takeBlinkPhase
  | .refusalBlinkEnd => takeBlinkEnd
  | .lampTestEnd => takeLampTestEnd
  | .helpChimeEnd => takeHelpChimeEnd
  | .drivePeriod => takePeriod
  | .chaseStepExpiry => takeChaseStep
  | .flashPhaseExpiry => takeFlashPhase
  | .ageAdvance => passSecond
  | .sounderCadenceExpiry => takeCadence
  | .otherTriggerCode code => takeOtherCode code
  | .powerOnReset | .pinReset _ | .resetEnd _ | .supplyLoss => id

/-- How an event ends at a running station: the line port starts what it can, by the Idle's rules at LINE_IDLE, or
the event stays clear of it; then the pins follow. -/
def endingOf : Instr → State → State
  | .lineIdle => settleAtIdle
  | .loadWaitExpiry | .exitRequestEdge _ | .keyDown _ | .authChange _ | .returnTimerExpiry | .silent _ _
  | .refusalBlinkPhase | .refusalBlinkEnd | .lampTestEnd | .helpChimeEnd | .drivePeriod | .chaseStepExpiry
  | .flashPhaseExpiry | .ageAdvance | .sounderCadenceExpiry => showOutputs
  | _ => settle

/-- An event is taken by a running station alone: its work, then its end (R176). -/
theorem exec_event {i : Instr} (event : isSupplyEvent i = false) (s : State) :
    exec i s = if s.power = .running then .next (endingOf i (workOf i s)) else .next s := by
  cases i <;> first | rfl | cases event

theorem exec_running {i : Instr} (event : isSupplyEvent i = false) (running : s.power = .running) :
    exec i s = .next (endingOf i (workOf i s)) := by
  rw [exec_event event, if_pos running]

theorem exec_not_running {i : Instr} (event : isSupplyEvent i = false) (still : s.power ≠ .running) :
    exec i s = .next s := by
  rw [exec_event event, if_neg still]

theorem endingOf_keeps (i : Instr) (s : State) : SameOutside [.line, .outputs] s (endingOf i s) := by
  unfold endingOf
  split
  · exact settleAtIdle_keeps s
  all_goals first | exact settle_keeps s | exact (showOutputs_keeps s).widen (by decide)

/-! ## The footprints of the works -/

theorem receive_keeps {want : Station → Frame → Option (State → State)} (wire : List Byte) (s : State)
    (handed : ∀ source f hand, want source f = some hand → ∀ u, SameOutside c u (hand u)) :
    SameOutside ([.line, .counters] ++ c) s (receive wire want s) := by
  unfold receive
  refine .ite ?_ (.refl _ s)
  split
  · split
    · next wanted => exact (endFrame_keeps s _).then (handed _ _ _ wanted _)
    · exact .refl _ s
  · exact .refl _ s

theorem wantBulletin_eq_some {asFire : Bool} {source : Station} {f : Frame} {hand : State → State}
    (wanted : wantBulletin asFire source f = some hand) :
    ∃ count b, f = .bulletin asFire count b ∧ hand = handBulletin source b := by
  cases f with
  | bulletin fire count b =>
    obtain ⟨rfl, same⟩ := Option.ite_none_right_eq_some.1 wanted
    exact ⟨count, b, rfl, (Option.some.inj same).symm⟩
  | _ => cases wanted

theorem wantOrder_eq_some {order : Order} {source : Station} {f : Frame} {hand : State → State}
    (wanted : wantOrder order source f = some hand) : f = .order order ∧ hand = takeOrder order := by
  cases f with
  | order o =>
    obtain ⟨rfl, same⟩ := Option.ite_none_right_eq_some.1 wanted
    exact ⟨rfl, (Option.some.inj same).symm⟩
  | _ => cases wanted

theorem wantNotice_eq_some {source : Station} {f : Frame} {hand : State → State}
    (wanted : wantNotice source f = some hand) : ∃ count n, f = .notice count n ∧ hand = takeNotice source n := by
  cases f with
  | notice count n => exact ⟨count, n, rfl, (Option.some.inj wanted).symm⟩
  | _ => cases wanted

theorem wantTake_eq_some {source : Station} {f : Frame} {hand : State → State}
    (wanted : wantTake source f = some hand) :
    ∃ target slot seq, f = .take target slot seq ∧ hand = handTake source target slot seq := by
  cases f with
  | take target slot seq => exact ⟨target, slot, seq, rfl, (Option.some.inj wanted).symm⟩
  | _ => cases wanted

theorem wantCancel_eq_some {source : Station} {f : Frame} {hand : State → State}
    (wanted : wantCancel source f = some hand) :
    ∃ target slot seq, f = .cancel target slot seq ∧ hand = handCancel source target slot seq := by
  cases f with
  | cancel target slot seq => exact ⟨target, slot, seq, rfl, (Option.some.inj wanted).symm⟩
  | _ => cases wanted

theorem wantRequest_eq_some {which : Fin 16 → Bool} {source : Station} {f : Frame} {hand : State → State}
    (wanted : wantRequest which source f = some hand) :
    ∃ target area index, f = .request target area index ∧ which area = true ∧ hand = handRequest target area index := by
  cases f with
  | request target area index =>
    obtain ⟨named, same⟩ := Option.ite_none_right_eq_some.1 wanted
    exact ⟨target, area, index, rfl, named, (Option.some.inj same).symm⟩
  | _ => cases wanted

theorem wantAnswer_eq_some {source : Station} {f : Frame} {hand : State → State}
    (wanted : wantAnswer source f = some hand) : hand = id := by
  cases f with
  | answer tag payload => exact (Option.some.inj wanted).symm
  | _ => cases wanted

section
variable (s)

theorem takeInputChange_keeps (i : Fin 6) (active : Bool) :
    SameOutside [.calls, .line, .counters] s (takeInputChange i active s) := by
  have input : ∀ u x, SameOutside [.calls, .line, .counters] u (u.setInput i x) :=
    fun u x => (setCalls_keeps u _).widen (by decide)
  unfold takeInputChange
  dsimp only
  refine .ite (.refl _ s) ((input s _).trans (.ite (.ite (input _ _) (.refl _ _)) ?_))
  split
  · exact .ite (input _ _) (.refl _ _)
  · exact .ite (input _ _) (.refl _ _)
  · exact .ite (requestCall_keeps _ _) (.refl _ _)
  · exact .refl _ _

theorem takeHelpPress_keeps (i : Fin 6) : SameOutside [.calls, .line, .counters] s (takeHelpPress i s) :=
  .ite (((setCalls_keeps s _).widen (by decide)).trans (requestCall_keeps _ _)) (.refl _ s)

theorem takeRepeat_keeps (i : Fin 8) : SameOutside [.calls, .line, .counters] s (takeRepeat i s) :=
  .ite (announce_keeps s i) (.refl _ s)

theorem takeGalleryKey_keeps (on : Bool) : SameOutside [.calls, .line, .counters] s (takeGalleryKey on s) :=
  .ite (.refl _ s)
    (((setCalls_keeps s { s.calls with grsOn := on }).widen (by decide)).trans
      (.ite (clearGallery_keeps _) (.refl _ _)))

/-- The footprint of an event at the door unit. -/
abbrev leafFootprint : List Block := [.doors, .calls, .route, .lamp, .line, .counters]

theorem takeProvisional_keeps (n : Fin 4) (lf : Leaf) : SameOutside leafFootprint s (takeProvisional n lf s) :=
  (setDoors_keeps s _).widen (by decide)

theorem takeDoorContact_keeps (n : Fin 4) (closed : Bool) :
    SameOutside leafFootprint s (takeDoorContact n closed s) := by
  unfold takeDoorContact
  dsimp only
  refine .ite (.refl _ s) ?_
  split
  · exact .refl _ s
  · exact takeProvisional_keeps s n _
  · exact leafEvent_keeps s n _

theorem takeBoltContact_keeps (n : Fin 4) (thrown : Bool) :
    SameOutside leafFootprint s (takeBoltContact n thrown s) := by
  unfold takeBoltContact
  dsimp only
  refine .ite (.refl _ s) ?_
  split
  · exact .refl _ s
  · exact takeProvisional_keeps s n _
  · exact leafEvent_keeps s n _

theorem takeExitEdge_keeps (n : Fin 4) : SameOutside [.doors] s (takeExitEdge n s) :=
  .ite (.refl _ s) (setDoors_keeps s _)

theorem takeExitRequestCall_keeps (n : Fin 4) : SameOutside [.calls, .line, .counters] s (takeExitRequestCall n s) :=
  .ite (requestCall_keeps s _) (.refl _ s)

theorem takeExitRequest_keeps (n : Fin 4) : SameOutside leafFootprint s (takeExitRequest n s) := by
  unfold takeExitRequest
  dsimp only
  refine .ite (.refl _ s) ?_
  split
  · exact (leafEvent_keeps s n _).trans ((takeExitRequestCall_keeps _ n).widen (by decide))
  · exact (setDoors_keeps s _).widen (by decide)

theorem takeBoltExpiry_keeps (n : Fin 4) : SameOutside leafFootprint s (takeBoltExpiry n s) :=
  .ite (leafEvent_keeps s n _) (.refl _ s)

theorem takePropExpiry_keeps (n : Fin 4) : SameOutside leafFootprint s (takePropExpiry n s) :=
  .ite (leafEvent_keeps s n _) (.refl _ s)

theorem takePassExpiry_keeps (n : Fin 4) : SameOutside leafFootprint s (takePassExpiry n s) :=
  .ite (leafEvent_keeps s n _) (.refl _ s)

theorem takeJoinExpiry_keeps : SameOutside postureFootprint s (takeJoinExpiry s) :=
  .ite (((setControl_keeps s _).widen (by decide)).trans (setPosture_keeps _ _ _)) (.refl _ s)

theorem takeDuplicateExpiry_keeps : SameOutside [.peers, .line, .counters] s (takeDuplicateExpiry s) :=
  .ite ((setPeers_keeps s _).then (queueBulletin_keeps _)) (.refl _ s)

theorem takeRefresh_keeps : SameOutside [.line, .counters] s (takeRefresh s) :=
  .ite ((queueBulletin_keeps s).trans ((setLine_keeps _ _).widen (by decide))) (.refl _ s)

theorem takeDiscarded_keeps (wire : List Byte) : SameOutside [.line, .counters] s (takeDiscarded wire s) := by
  unfold takeDiscarded
  refine .ite ?_ (.refl _ s)
  split
  · exact (endFrame_keeps s _).trans ((countDiscardedHeader_keeps _).widen (by decide))
  · exact (endFrame_keeps s _).trans ((countDiscardedFrame_keeps _).widen (by decide))
  · exact .refl _ s

/-- The footprint of a completed own frame. -/
abbrev completionFootprint : List Block :=
  [.hazard, .control, .doors, .calls, .route, .post, .lamp, .line, .counters]

theorem takeCompletion_keeps : SameOutside completionFootprint s (takeCompletion s) := by
  unfold takeCompletion
  split
  · exact ((setLine_keeps s _).widen (by decide)).trans (handCompletion_keeps _ _)
  · exact .refl _ s

theorem takeArbitrationLost_keeps : SameOutside [.line, .counters] s (takeArbitrationLost s) :=
  .ite (((dropOwnFrame_keeps s).trans (setReceiver_keeps _ _)).then (countArbitrationLost_keeps _)) (.refl _ s)

theorem takeTransmitError_keeps (cause : BitErrorCause) :
    SameOutside [.line, .counters] s (takeTransmitError cause s) := by
  have cut : SameOutside [.line, .counters] s (countBitError ((dropOwnFrame s).setReceiver .discard)) :=
    ((dropOwnFrame_keeps s).trans (setReceiver_keeps _ _)).then (countBitError_keeps _)
  refine .ite ?_ (.refl _ s)
  cases cause with
  | driveFailed => exact cut
  | lineError => exact cut.trans ((countDiscardedFrame_keeps _).widen (by decide))

theorem takeBreak_keeps (wire : List Byte) : SameOutside [.line, .counters] s (takeBreak wire s) := by
  unfold takeBreak
  dsimp only
  refine SameOutside.trans ?_ ((setReceiver_keeps _ _).widen (by decide))
  refine SameOutside.trans (t := countCut wire s) ((countCut_keeps s wire).widen (by decide)) ?_
  exact .ite ((dropOwnFrame_keeps _).then (countAborted_keeps _)) (.refl _ _)

theorem takeStuck_keeps : SameOutside [.line, .counters] s (takeStuck s) := by
  unfold takeStuck
  dsimp only
  refine SameOutside.trans ?_ ((setLine_keeps _ _).widen (by decide))
  refine SameOutside.trans ?_ ((dropOwnFrame_keeps _).widen (by decide))
  exact .ite (.refl _ s) ((countStuck_keeps s).widen (by decide))

theorem takeFramingError_keeps (wire : List Byte) : SameOutside [.line, .counters] s (takeFramingError wire s) := by
  unfold takeFramingError
  refine .ite ?_ ?_
  · exact (((countCut_keeps s wire).widen (by decide)).trans ((setReceiver_keeps _ _).widen (by decide))).trans
      ((countDiscardedFrame_keeps _).widen (by decide))
  · split
    · exact (setReceiver_keeps s _).widen (by decide)
    · exact (setReceiver_keeps s _).widen (by decide)
    · exact .refl _ s

theorem takeDriven_keeps : SameOutside [.control, .lamp, .line] s (takeDriven s) := by
  unfold takeDriven
  dsimp only
  split
  · exact (setLine_keeps s _).widen (by decide)
  · exact ((setLine_keeps s _).then (takeHush_keeps _)).widen (by decide)
  · exact .refl _ s

theorem takeTriggerLost_keeps (cause : TriggerLoss) : SameOutside [.line, .counters] s (takeTriggerLost cause s) := by
  have line : ∀ u x, SameOutside [.line, .counters] u (State.setLine u x) :=
    fun u x => (setLine_keeps u x).widen (by decide)
  unfold takeTriggerLost
  dsimp only
  split
  · refine SameOutside.trans (t := s.setReceiver s.line.receiver.afterBreak) (line s _) ?_
    cases cause with
    | driveFailed =>
      refine SameOutside.trans ?_ ((countBitError_keeps _).widen (by decide))
      split
      · exact .refl _ _
      · exact line _ _
    | lostCode =>
      dsimp only
      split
      · exact .refl _ _
      · exact line _ _
  · exact .refl _ s

theorem takeCode_keeps {hand : State → State} (handed : ∀ u, SameOutside c u (hand u)) :
    SameOutside ([.line] ++ c) s (takeCode hand s) :=
  .ite ((setReceiver_keeps s _).then (handed _)) (.refl _ s)

theorem configureHeads_keeps (p : Profile) : SameOutside scanFootprint s (configureHeads p s) :=
  .ite (((setFront_keeps s _).widen (by decide)).trans ((changeHeads_keeps _ _).widen (by decide))) (.refl _ s)

theorem raiseProfileFault_keeps : SameOutside [.loader, .calls, .line, .counters] s (raiseProfileFault s) :=
  .ite (.refl _ s)
    ((((setLoader_keeps s _).widen (by decide)).trans ((requestCall_keeps _ _).widen (by decide))).trans
      ((queueBulletin_keeps _).widen (by decide)))

theorem takeWaitingPress_keeps (i : Fin 6) : SameOutside zoneFootprint s (takeWaitingPress s i) := by
  unfold takeWaitingPress
  split
  · exact (takeHelpPress_keeps s i).widen (by decide)
  · exact takeFirePress_keeps s i
  all_goals exact (setCalls_keeps s _).widen (by decide)

theorem takeWaiting_keeps : SameOutside zoneFootprint s (takeWaiting s) :=
  (SameOutside.foldl _ (fun u i => takeWaitingPress_keeps u i) allSix s).trans
    ((requestMotion_keeps _).widen (by decide))

theorem serveAlert_keeps : SameOutside [.control, .line] s (serveAlert s) :=
  .ite ((setControl_keeps s _).then (requestAlert_keeps _)) (.refl _ s)

theorem showDefaultAspect_keeps (p : Profile) : SameOutside [.lamp] s (showDefaultAspect p s) :=
  .ite (setLamp_keeps s _) (.refl _ s)

theorem beginRoleIf_keeps (p : Profile) : SameOutside [.post] s (beginRoleIf p s) :=
  .ite (setPost_keeps s _) (.refl _ s)

theorem startJoin_keeps : SameOutside [.control] s (startJoin s) := .ite (setControl_keeps s _) (.refl _ s)

theorem startRefresh_keeps : SameOutside [.line] s (startRefresh s) := .ite (setLine_keeps s _) (.refl _ s)

/-- The footprint of the load's completion: every block, but not the pins and what belongs to the interface. -/
abbrev loadFootprint : List Block :=
  [.loader, .front, .hazard, .control, .peers, .route, .doors, .calls, .post, .lamp, .line, .counters]

theorem completeLoad_keeps (reached : LoadState) (p : Profile) :
    SameOutside loadFootprint s (completeLoad reached p s) := by
  have config : SameOutside loadFootprint s (computeRoute (configureLeaves p (buildEntries p (recordLoad reached p s)))) :=
    ((((setLoader_keeps s _).then (setPeers_keeps _ _)).then (setDoors_keeps _ _)).then (computeRoute_keeps _)).widen
      (by decide)
  refine config.trans ?_
  refine SameOutside.trans ((configureHeads_keeps _ p).widen (by decide)) ?_
  refine SameOutside.trans ((showDefaultAspect_keeps _ p).widen (by decide)) ?_
  refine SameOutside.trans ((raiseProfileFault_keeps _).widen (by decide)) ?_
  refine SameOutside.trans ((takeWaiting_keeps _).widen (by decide)) ?_
  refine SameOutside.trans ((beginRoleIf_keeps _ p).widen (by decide)) ?_
  refine SameOutside.trans ((startJoin_keeps _).widen (by decide)) ?_
  refine SameOutside.trans ((serveAlert_keeps _).widen (by decide)) ?_
  exact (startRefresh_keeps _).widen (by decide)

theorem takeRead_keeps (block : List Byte) : SameOutside loadFootprint s (takeRead block s) := by
  unfold takeRead
  split
  · split
    · exact completeLoad_keeps s _ _
    · exact (setLoader_keeps s _).widen (by decide)
  · split
    · exact completeLoad_keeps s _ _
    · exact completeLoad_keeps s _ _
  all_goals exact .refl _ s

theorem takeInterval_keeps (present : BitVec 4) : SameOutside scanFootprint s (takeInterval present s) :=
  .ite ((setFront_keeps s _).widen (by decide)) (startScan_keeps s false present)

theorem passSecond_keeps : SameOutside [.peers, .calls, .doors, .control, .post, .lamp, .line] s (passSecond s) :=
  ((((((setPeers_keeps s _).then (setCalls_keeps _ _)).then (setDoors_keeps _ _)).then (setControl_keeps _ _)).then
    (setPost_keeps _ _)).then (setLamp_keeps _ _)).then (setLine_keeps _ _)

theorem losePower_keeps : SameOutside [.front, .line, .doors, .lamp, .power, .outputs] s (losePower s) :=
  (((((setFront_keeps s _).then (setLine_keeps _ _)).then (setDoors_keeps _ _)).then (setLamp_keeps _ _)).then
    (setPower_keeps _ _)).then (showOutputs_keeps _)

end

/-- The blocks that the work of an event may change. -/
def footprintOf : Instr → List Block
  | .profileReadDone _ => loadFootprint
  | .loadWaitExpiry => [.loader]
  | .scanIntervalExpiry _ | .scanResult _ _ => scanFootprint
  | .joinTimerExpiry => postureFootprint
  | .lineIdle => [.calls, .line, .counters]
  | .frameComplete => completionFootprint
  | .triggerDriven => [.control, .lamp, .line]
  | .alertTrigger => [.line] ++ postureFootprint
  | .hushTrigger => [.line] ++ [.control, .lamp]
  | .arbitrationLost | .transmitBitError _ | .lineBreak _ | .triggerLost _ | .codeWaitTimeout | .lineStuck
  | .framingError _ | .frameDiscarded _ | .surveyAnswer _ | .bulletinRefreshExpiry | .otherTriggerCode _ =>
    [.line, .counters]
  | .bulletin _ | .fireBulletin _ =>
    [.line, .counters] ++ [.control, .peers, .doors, .calls, .route, .lamp, .line, .counters]
  | .postureOrderDay _ | .postureOrderNight _ | .postureOrderRestore _ => [.line, .counters] ++ zoneFootprint
  | .callNotice _ => [.line, .counters] ++ [.post, .lamp, .counters]
  | .callTake _ | .callCancel _ => [.line, .counters] ++ [.calls, .line, .counters]
  | .surveyIdentity _ | .surveyCounters _ | .surveyPeerEntry _ | .surveyCallSlot _ | .surveyDoorLeaf _
  | .surveyHead _ | .surveyRoute _ | .surveyUnknownSection _ => [.line, .counters] ++ [.line, .counters, .freeUsed]
  | .staleExpiry _ | .lostExpiry _ => [.peers, .route, .lamp, .line, .counters]
  | .duplicateTimerExpiry => [.peers, .line, .counters]
  | .doorContactChange _ _ | .boltContactChange _ _ | .exitRequest _ | .boltTimeExpiry _ | .propTimerExpiry _
  | .passExpiry _ => leafFootprint
  | .exitRequestEdge _ => [.doors]
  | .callInputChange _ _ | .helpPointPress _ | .repeatTimerExpiry _ | .galleryReset _ => [.calls, .line, .counters]
  | .firePointPress _ => zoneFootprint
  | .keyUp _ => [.post, .lamp, .line, .counters]
  | .keyDown _ | .authChange _ | .returnTimerExpiry | .silent _ _ | .refusalBlinkPhase | .refusalBlinkEnd => [.post]
  | .helpChimeEnd => [.post, .lamp]
  | .lampTestEnd | .drivePeriod | .chaseStepExpiry | .flashPhaseExpiry | .sounderCadenceExpiry => [.lamp]
  | .ageAdvance => [.peers, .calls, .doors, .control, .post, .lamp, .line]
  | .powerOnReset | .pinReset _ | .resetEnd _ | .supplyLoss => []

theorem receiveBulletin_keeps (asFire : Bool) (wire : List Byte) (s : State) :
    SameOutside ([.line, .counters] ++ [.control, .peers, .doors, .calls, .route, .lamp, .line, .counters]) s
      (receive wire (wantBulletin asFire) s) :=
  receive_keeps wire s fun source f hand wanted u => by
    obtain ⟨_, b, rfl, rfl⟩ := wantBulletin_eq_some wanted
    exact handBulletin_keeps u source b

theorem receiveOrder_keeps (order : Order) (wire : List Byte) (s : State) :
    SameOutside ([.line, .counters] ++ zoneFootprint) s (receive wire (wantOrder order) s) :=
  receive_keeps wire s fun _ _ _ wanted u => by
    obtain ⟨rfl, rfl⟩ := wantOrder_eq_some wanted
    exact takeOrder_keeps u order

theorem receiveRequest_keeps (which : Fin 16 → Bool) (wire : List Byte) (s : State) :
    SameOutside ([.line, .counters] ++ [.line, .counters, .freeUsed]) s (receive wire (wantRequest which) s) :=
  receive_keeps wire s fun _ _ _ wanted u => by
    obtain ⟨target, area, index, rfl, -, rfl⟩ := wantRequest_eq_some wanted
    exact handRequest_keeps u target area index

theorem workOf_keeps (i : Instr) (s : State) : SameOutside (footprintOf i) s (workOf i s) := by
  cases i with
  | profileReadDone block => exact takeRead_keeps s block
  | loadWaitExpiry => exact .ite (setLoader_keeps s _) (.refl _ s)
  | scanIntervalExpiry present => exact takeInterval_keeps s present
  | scanResult readings present => exact takeScan_keeps s readings present
  | joinTimerExpiry => exact takeJoinExpiry_keeps s
  | lineIdle => exact takeIdle_keeps s
  | frameComplete => exact takeCompletion_keeps s
  | arbitrationLost => exact takeArbitrationLost_keeps s
  | transmitBitError cause => exact takeTransmitError_keeps s cause
  | lineBreak wire => exact takeBreak_keeps s wire
  | triggerDriven => exact takeDriven_keeps s
  | triggerLost cause => exact takeTriggerLost_keeps s cause
  | alertTrigger => exact takeCode_keeps s takeAlert_keeps
  | hushTrigger => exact takeCode_keeps s takeHush_keeps
  | codeWaitTimeout => exact takeCode_keeps s (.refl [.counters])
  | lineStuck => exact takeStuck_keeps s
  | framingError wire => exact takeFramingError_keeps s wire
  | frameDiscarded wire => exact takeDiscarded_keeps s wire
  | bulletin wire => exact receiveBulletin_keeps false wire s
  | fireBulletin wire => exact receiveBulletin_keeps true wire s
  | postureOrderDay wire => exact receiveOrder_keeps .day wire s
  | postureOrderNight wire => exact receiveOrder_keeps .night wire s
  | postureOrderRestore wire => exact receiveOrder_keeps .restore wire s
  | callNotice wire =>
    refine receive_keeps wire s fun source f hand wanted u => ?_
    obtain ⟨_, n, rfl, rfl⟩ := wantNotice_eq_some wanted
    exact takeNotice_keeps u source n
  | callTake wire =>
    refine receive_keeps wire s fun source f hand wanted u => ?_
    obtain ⟨target, slot, seq, rfl, rfl⟩ := wantTake_eq_some wanted
    exact handTake_keeps u source target slot seq
  | callCancel wire =>
    refine receive_keeps wire s fun source f hand wanted u => ?_
    obtain ⟨target, slot, seq, rfl, rfl⟩ := wantCancel_eq_some wanted
    exact handCancel_keeps u source target slot seq
  | surveyIdentity wire | surveyCounters wire | surveyPeerEntry wire | surveyCallSlot wire | surveyDoorLeaf wire
  | surveyHead wire | surveyRoute wire | surveyUnknownSection wire => exact receiveRequest_keeps _ wire s
  | surveyAnswer wire =>
    refine receive_keeps (c := []) wire s fun source f hand wanted u => ?_
    rw [wantAnswer_eq_some wanted]
    exact .refl _ u
  | bulletinRefreshExpiry => exact takeRefresh_keeps s
  | staleExpiry entry | lostExpiry entry => exact ageEntry_keeps s entry _ _ _
  | duplicateTimerExpiry => exact takeDuplicateExpiry_keeps s
  | doorContactChange leaf closed => exact takeDoorContact_keeps s leaf closed
  | boltContactChange leaf thrown => exact takeBoltContact_keeps s leaf thrown
  | exitRequestEdge leaf => exact takeExitEdge_keeps s leaf
  | exitRequest leaf => exact takeExitRequest_keeps s leaf
  | boltTimeExpiry leaf => exact takeBoltExpiry_keeps s leaf
  | propTimerExpiry leaf => exact takePropExpiry_keeps s leaf
  | passExpiry leaf => exact takePassExpiry_keeps s leaf
  | callInputChange input active => exact takeInputChange_keeps s input active
  | helpPointPress input => exact takeHelpPress_keeps s input
  | firePointPress input => exact takeFirePress_keeps s input
  | repeatTimerExpiry slot => exact takeRepeat_keeps s slot
  | galleryReset on => exact takeGalleryKey_keeps s on
  | keyDown key => exact .ite (.refl _ s) (setPost_keeps s _)
  | keyUp key => exact takeKeyUp_keeps s _
  | authChange on => exact setPost_keeps s _
  | returnTimerExpiry => exact .ite (setPost_keeps s _) (.refl _ s)
  | silent station slot => exact setPost_keeps s _
  | refusalBlinkPhase => exact setPost_keeps s _
  | refusalBlinkEnd => exact .ite (setPost_keeps s _) (.refl _ s)
  | lampTestEnd => exact .ite ((setLamp_keeps s _).trans (decideSound_keeps _)) (.refl _ s)
  | helpChimeEnd => exact .ite ((setPost_keeps s _).then (decideSound_keeps _)) (.refl _ s)
  | drivePeriod => exact setLamp_keeps s _
  | chaseStepExpiry => exact .ite (setLamp_keeps s _) (.refl _ s)
  | flashPhaseExpiry => exact .ite (setLamp_keeps s _) (.refl _ s)
  | ageAdvance => exact passSecond_keeps s
  | sounderCadenceExpiry => exact .ite (setLamp_keeps s _) (.refl _ s)
  | otherTriggerCode code => exact .ite (.refl _ s) (takeCode_keeps s (.refl [.counters]))
  | powerOnReset | pinReset _ | resetEnd _ | supplyLoss => exact .refl _ s

theorem workOf_power (i : Instr) (s : State) : (workOf i s).power = s.power :=
  (workOf_keeps i s).power_eq (by cases i <;> exact of_decide_eq_true rfl)

theorem workOf_pending (i : Instr) (s : State) : (workOf i s).pending = s.pending :=
  (workOf_keeps i s).pending_eq (by cases i <;> exact of_decide_eq_true rfl)

theorem endingOf_workOf_power (i : Instr) (s : State) : (endingOf i (workOf i s)).power = s.power :=
  ((endingOf_keeps i _).power_eq).trans (workOf_power i s)

/-! ## What every step keeps -/

/-- A relation that runs on from one change to the next and reads no block outside the list. -/
structure Watches (W : List Block) (R : State → State → Prop) : Prop where
  trans : ∀ {s t u}, R s t → R t u → R s u
  outside : ∀ {c s t}, SameOutside c s t → c.all (· ∉ W) = true → R s t

variable {R : State → State → Prop}

theorem Watches.refl (w : Watches W R) (s : State) : R s s := w.outside (.refl [] s) rfl

theorem Watches.ite (_ : Watches W R) {p : Prop} [Decidable p] (h : R s t) (k : R s u) : R s (if p then t else u) := by
  split <;> assumption

theorem Watches.foldl (w : Watches W R) {α : Type} (f : State → α → State) (h : ∀ s x, R s (f s x)) (l : List α)
    (s : State) : R s (l.foldl f s) :=
  List.foldlRecOn l f (w.refl s) fun _ kept x _ => w.trans kept (h _ x)

/-- A work that hands a heard frame on keeps what ending the frame and handing it on keep. -/
theorem Watches.receive (w : Watches W R) {want : Station → Frame → Option (State → State)} (wire : List Byte)
    (s : State) (ended : ∀ corrected, R s (endFrame corrected s))
    (handed : ∀ corrected source f hand, judgeFrame wire = .accepted corrected source f → want source f = some hand →
      R (endFrame corrected s) (hand (endFrame corrected s))) :
    R s (receive wire want s) := by
  unfold Machine.receive
  refine w.ite ?_ (w.refl s)
  split
  · next judged =>
    split
    · next wanted => exact w.trans (ended _) (handed _ _ _ _ judged wanted)
    · exact w.refl s
  · exact w.refl s

/-- What a reset end makes of the station: it runs, the pins are read, and the warm-up scan starts. -/
def resetEndState (pins : Pins) (s : State) : State :=
  settle (startScan true pins.present (readPins pins (s.setPower .running)))

/-- What a step makes of the station once the front command has left the queue: nothing, a reset, a reset's end, the
supply's fall, or an event of a running station. -/
inductive StepCase (front : Option Instr) (s : State) : State → Prop
  | still : StepCase front s s
  | powerOn (command : front = some .powerOnReset) : StepCase front s (resetState s)
  | pin (wire : List Byte) (supplied : s.power ≠ .off) : StepCase front s (pinResetState (countCut wire s))
  | resetEnd (pins : Pins) (held : s.power = .held) : StepCase front s (resetEndState pins s)
  | loss : StepCase front s (losePower s)
  | event (i : Instr) (command : front = some i) (running : s.power = .running) :
      StepCase front s (endingOf i (workOf i s))

theorem exec_cases {i : Instr} (answer : exec i s = .next t) : StepCase (some i) s t := by
  cases supply : isSupplyEvent i with
  | false =>
    rw [exec_event supply] at answer
    split at answer <;> cases answer
    · next running => exact .event i rfl running
    · exact .still
  | true =>
    cases i with
    | powerOnReset =>
      cases answer
      exact .powerOn rfl
    | pinReset wire =>
      change execPinReset s wire = _ at answer
      unfold execPinReset at answer
      split at answer <;> cases answer
      · exact .still
      · next supplied => exact .pin wire supplied
    | resetEnd pins =>
      change execResetEnd pins s = _ at answer
      unfold execResetEnd at answer
      split at answer <;> cases answer
      · next held => exact .resetEnd pins held
      · exact .still
    | supplyLoss =>
      cases answer
      exact .loss
    | _ => cases supply

theorem step_cases (answer : step s = .next t) : ∃ rest, StepCase s.pending.head? (s.setPending rest) t := by
  unfold step at answer
  split at answer
  · cases answer
    exact ⟨s.pending, .still⟩
  · next i rest queue =>
    exact ⟨rest, by simpa [queue] using exec_cases answer⟩

/-- A relation that the resets, the supply's fall and the events of a running station keep is kept by every step. -/
theorem step_rel (w : Watches W R) (queue : Block.pending ∉ W)
    (powerOn : s.pending.head? = some .powerOnReset → ∀ v, R v (resetState v))
    (pin : ∀ wire v, R v (pinResetState (countCut wire v)))
    (resetEnd : ∀ pins v, v.power = .held → R v (resetEndState pins v)) (loss : ∀ v, R v (losePower v))
    (event : ∀ i v, v.power = .running → R v (endingOf i (workOf i v))) (answer : step s = .next t) : R s t := by
  obtain ⟨rest, stepped⟩ := step_cases answer
  refine w.trans (w.outside (setPending_keeps s rest) (by simpa using queue)) ?_
  cases stepped with
  | still => exact w.refl _
  | powerOn command => exact powerOn command _
  | pin wire => exact pin wire _
  | resetEnd pins held => exact resetEnd pins _ held
  | loss => exact loss _
  | event i _ running => exact event i _ running

theorem resetEndState_power (pins : Pins) (s : State) : (resetEndState pins s).power = .running := by
  rw [resetEndState, settle_power, (startScan_keeps _ _ _).power_eq]
  rfl

/-- A held station stands in its reset state after every step (R176). -/
theorem heldAtReset_kept : Kept HeldAtReset := by
  intro s t held answer holding
  obtain ⟨rest, stepped⟩ := step_cases answer
  cases stepped with
  | still => rw [State.setPending, held holding]
  | powerOn => rfl
  | pin wire =>
    rw [pinResetState, resetState, countCut_line]
    rfl
  | resetEnd pins =>
    rw [resetEndState_power] at holding
    cases holding
  | loss => cases holding
  | event i _ running =>
    rw [endingOf_workOf_power, running] at holding
    cases holding

/-- What is known of a held station is kept together with a property that resets establish, that the supply's fall
and every event of a running station keep, and that RESET_END keeps from the reset state on. -/
theorem kept_from_reset {P : State → Prop} (queue : ∀ s rest, P s → P (s.setPending rest))
    (reset : ∀ s, P (resetState s)) (pin : ∀ s, P (pinResetState s))
    (resetEnd : ∀ pins s, s.power = .held → HeldAtReset s → P s → P (resetEndState pins s))
    (loss : ∀ s, P s → P (losePower s))
    (event : ∀ i s, s.power = .running → P s → P (endingOf i (workOf i s))) :
    Kept (fun s => P s ∧ HeldAtReset s) := by
  intro s t ⟨holds, held⟩ answer
  refine ⟨?_, heldAtReset_kept s t held answer⟩
  obtain ⟨rest, stepped⟩ := step_cases answer
  have holds := queue s rest holds
  cases stepped with
  | still => exact holds
  | powerOn => exact reset _
  | pin wire => exact pin _
  | resetEnd pins holding =>
    refine resetEnd pins _ holding (fun holding => ?_) holds
    rw [State.setPending, held holding]
  | loss => exact loss _ holds
  | event i _ running => exact event i _ running holds

end Sys2Proof.Machine
end


section
/-! SUPPORT. The moves of a station: the changes that the works of all events are made of. Every event is a run of
moves (`workOf_run`), but for the steps of the chase and the flash; what every move keeps is kept by every event. -/

namespace Sys2Proof.Machine

variable {c W : List Block} {s t u : State}

/-! ## The moves -/

/-- One of the eleven counters advances (R187). -/
inductive Counters.Advances (c : Counters) : Counters → Prop
  | invalidScan : Counters.Advances c { c with invalidScan := satInc c.invalidScan }
  | duplicate : Counters.Advances c { c with duplicate := satInc c.duplicate }
  | overflow : Counters.Advances c { c with overflow := satInc c.overflow }
  | correctedHeader : Counters.Advances c { c with correctedHeader := satInc c.correctedHeader }
  | discardedHeader : Counters.Advances c { c with discardedHeader := satInc c.discardedHeader }
  | discardedFrame : Counters.Advances c { c with discardedFrame := satInc c.discardedFrame }
  | refusedFrames : Counters.Advances c { c with refusedFrames := satInc c.refusedFrames }
  | arbitrationLost : Counters.Advances c { c with arbitrationLost := satInc c.arbitrationLost }
  | bitError : Counters.Advances c { c with bitError := satInc c.bitError }
  | abortedByBreak : Counters.Advances c { c with abortedByBreak := satInc c.abortedByBreak }
  | stuckLine : Counters.Advances c { c with stuckLine := satInc c.stuckLine }

/-- The line port's own changes: the receiver, the refresh timer, the own frame's end, the line fault, and the end of
an own trigger (R160, R165, R168 to R173). -/
inductive LinePort.Moves (l : LinePort) : LinePort → Prop
  | receiver (r : Receiver) : LinePort.Moves l { l with receiver := r }
  | refresh (r : Option Nat) : LinePort.Moves l { l with refresh := r }
  | completed (r : Receiver) :
      LinePort.Moves l { l with queue := l.queue.filter (fun e => !e.inFlight), onLine := none, receiver := r }
  | dropped : LinePort.Moves l { l with queue := landed l.queue, onLine := none }
  | stuck :
      LinePort.Moves l
        { l with queue := landed l.queue, onLine := none, receiver := .stuck, driving := none, fault := true }
  | cleared : LinePort.Moves l { l with fault := false }
  | alertDriven (r : Receiver) : LinePort.Moves l { l with driving := none, receiver := r, alertHeld := false }
  | hushDriven (r : Receiver) : LinePort.Moves l { l with driving := none, receiver := r, hushPending := false }
  | hushLost (r : Receiver) : LinePort.Moves l { l with driving := none, receiver := r }

/-- What the lamps show, the sound and the test stand (R144 to R157). -/
def Lamp.SameShow (l n : Lamp) : Prop :=
  n.aspect = l.aspect ∧ n.placeholder = l.placeholder ∧ n.brightness = l.brightness ∧ n.pattern = l.pattern
    ∧ n.direction = l.direction ∧ n.position = l.position ∧ n.flashOn = l.flashOn ∧ n.sound = l.sound
    ∧ n.test = l.test

/-- The position is a configured leaf (R80). -/
def Leaf.isConfigured (lf : Leaf) : Prop := lf.role ≠ .provisional ∧ lf.role ≠ .dropped

theorem Leaf.isConfigured_of {lf : Leaf} {c : LeafConfig} {exitDoor : Bool} {links : List (Fin 8)}
    (role : lf.role = .configured c exitDoor links) : lf.isConfigured := by simp [Leaf.isConfigured, role]

/-- What a configured leaf makes of an event at its own contacts, button and timers (R85 to R95). -/
inductive LeafAct (s : State) (lf : Leaf) : (Leaf → Leaf) → Prop
  | door (closed : Bool) (role : lf.isConfigured) : LeafAct s lf (fun lf => lf.takeDoor (demandNow s lf) closed)
  | bolt (thrown : Bool) (role : lf.isConfigured) : LeafAct s lf (fun lf => lf.takeBolt (demandNow s lf) thrown)
  | press (role : lf.isConfigured) : LeafAct s lf (Leaf.takePress (demandNow s))
  | boltTime : LeafAct s lf Leaf.takeBoltTime
  | propped (opened : lf.state = .opened) : LeafAct s lf (fun lf => { lf with state := .propped })
  | passEnd : LeafAct s lf (Leaf.takePassEnd (demandNow s))

/-- What an entry that is in the table may become: a bulletin's content, or the next status of age (R47, R50). -/
inductive Entry.Takes (e : Entry) : Entry → Prop
  | heard (b : Bulletin) (hops : b.hops.toNat ≤ Config.hopCeiling) : Entry.Takes e (e.refreshed b)
  | aged (before after : EntryStatus) (status : e.status = before) (heard : before ≠ .unheard)
      (known : after ≠ .unheard) : Entry.Takes e { e with status := after }

/-- A change that the work of some event is made of, with the blocks that it may change. -/
inductive Move : List Block → State → State → Prop
  /- The transmit queue, the line port and the counters. -/
  | bulletin (s : State) : Move [.line, .counters] s (queueBulletin s)
  | notice (count : Byte) (n : Notice) (s : State) : Move [.line, .counters] s (queueNotice count n s)
  | offer (f : Frame) (s : State) (refusable : f.refusable = true) : Move [.line, .counters] s (offerFrame f s)
  | count (s : State) {x : Counters} (advance : s.counters.Advances x) : Move [.counters] s (s.setCounters x)
  | line (s : State) {l : LinePort} (moved : s.line.Moves l) : Move [.line] s (s.setLine l)
  | hushKey (s : State) (numbered : strapped s = true) : Move [.line] s (s.setLine { s.line with hushPending := true })
  | alert (s : State) (numbered : strapped s = true) : Move [.line] s (requestAlert s)
  | alertMark (s : State) (numbered : strapped s = true) :
      Move [.control] s (s.setControl { s.control with alertPending := true })
  | alertServed (s : State) (pending : s.control.alertPending = true) :
      Move [.control, .line] s (requestAlert (s.setControl { s.control with alertPending := false }))
  /- The call unit. -/
  | request (src : Source) (s : State) : Move [.calls, .line, .counters] s (requestCall src s)
  | serve (src : Source) (i : Fin 8) (s : State) (free : freeSlot s = some i) (waits : src ∈ s.calls.pending) :
      Move [.calls, .line, .counters] s
        (raiseInto i src (s.setCalls { s.calls with pending := s.calls.pending.filter (· != src) }))
  | close (i : Fin 8) (s : State) : Move [.calls, .line, .counters] s (closeSlot i s)
  | announce (i : Fin 8) (s : State) (isOpen : (s.calls.slots.get i).isOpen = true) :
      Move [.calls, .line, .counters] s (announce i s)
  | take (i : Fin 8) (sender : Station) (s : State) (isOpen : (s.calls.slots.get i).isOpen = true) :
      Move [.calls, .line, .counters] s
        (Machine.announce i (s.setSlot i { s.calls.slots.get i with state := .taken sender }))
  | dropPending (which : CallKind → Bool) (s : State) : Move [.calls] s (dropPending which s)
  | input (i : Fin 6) (x : Input) (s : State) : Move [.calls] s (s.setInput i x)
  | galleryKey (on : Bool) (s : State) : Move [.calls] s (s.setCalls { s.calls with grsOn := on })
  /- The posture controller, the hazard evaluator and the front end. -/
  | control (s : State) {x : Control} (posture : x.posture = s.control.posture) (base : x.base = s.control.base)
      (mark : x.alertPending = s.control.alertPending)
      (hushed : x.hushed = s.control.hushed ∨ s.control.posture ≠ .evacuate) : Move [.control] s (s.setControl x)
  | hushed (b : Bool) (s : State) : Move [.control, .lamp] s (setHushed b s)
  | posture (p : Posture) (b : Base) (s : State) : Move [.control, .doors, .calls, .route, .lamp, .line, .counters] s (setPosture p b s)
  | restored (s : State) (was : s.control.posture = .evacuate) :
      Move [.control, .doors, .calls, .route, .lamp, .line, .counters] s
        (setPosture s.control.base.posture s.control.base
          (s.setControl { s.control with fireSet := [], hushed := false, provisionalBase := false }))
  | hazard (x : Hazard) (s : State) : Move [.hazard] s (s.setHazard x)
  | front (x : FrontEnd) (s : State) : Move [.front] s (s.setFront x)
  /- The door unit, the route unit and the peer table. -/
  | leaf (n : Fin 4) (s : State) {act : Leaf → Leaf} (acts : LeafAct s (s.doors.leaves.get n) act) :
      Move [.doors, .calls, .route, .lamp, .line, .counters] s (leafEvent n act s)
  | provisional (n : Fin 4) (closed thrown : Bool) (s : State) (role : (s.doors.leaves.get n).role = .provisional) :
      Move [.doors] s
        (takeProvisional n { s.doors.leaves.get n with doorClosed := closed, boltThrown := thrown } s)
  | latch (n : Fin 4) (pressed : Bool) (s : State) :
      Move [.doors] s
        (s.setDoors { s.doors with leaves := s.doors.leaves.set n { s.doors.leaves.get n with pressLatch := pressed } })
  | magnets (s : State) : Move [.doors] s (evaluateMagnets s)
  | route (before : Nat) (s : State) : Move [.route, .lamp, .line, .counters] s (computeRouteFrom before s)
  | entry (j : Fin 8) (s : State) {old new : Entry} (found : entryAt s j = some old) (takes : old.Takes new) :
      Move [.peers, .route, .lamp, .line, .counters] s (computeRoute (s.setEntry j new))
  | duplicate (d : Bool) (timer : Option Nat) (s : State) : Move [.peers] s (s.setPeers { s.peers with duplicate := d, duplicateTimer := timer })
  /- The lamp and sounder driver. -/
  | lamp (s : State) {x : Lamp} (same : s.lamp.SameShow x) : Move [.lamp] s (s.setLamp x)
  | test (x : Option Nat) (s : State) : Move [.lamp] s (decideSound (s.turnLamp { s.lamp with test := x }))
  /- The post unit. -/
  | notified (source : Station) (n : Notice) (s : State) : Move [.post, .lamp, .counters] s (takeNotice source n s)
  | removed (e : BoardEntry) (s : State) : Move [.post, .lamp] s (removeSilent e s)
  | chimeEnd (s : State) : Move [.post, .lamp] s (decideSound (s.setPost { s.post with helpChime := none }))
  | post (s : State) {x : Post} (chime : x.helpChime = s.post.helpChime)
      (board : continuousChime x = continuousChime s.post) : Move [.post] s (s.setPost x)
  /- The loader, the responder and the second that passes. -/
  | loadState (x : LoadState) (s : State) (early : s.loader.state ≠ .loaded ∧ s.loader.state ≠ .fallback)
      (still : x ≠ .loaded ∧ x ≠ .fallback) : Move [.loader] s (s.setLoadState x)
  | config (reached : LoadState) (p : Profile) (s : State) (early : loadComplete s = false) (done : reached = .loaded ∨ reached = .fallback)
      (judged : p.exitWeight ≤ 15) :
      Move [.loader, .peers, .doors, .route, .lamp, .line, .counters] s
        (computeRoute (configureLeaves p (buildEntries p (recordLoad reached p s))))
  | defaultAspect (p : Profile) (s : State) : Move [.lamp] s (showDefaultAspect p s)
  | profileFault (s : State) : Move [.loader] s (s.setLoader { s.loader with profileFault := true })
  | free (x : Nat) (s : State) : Move [.freeUsed] s (s.setFreeUsed x)
  | second (s : State) : Move [.peers, .calls, .doors, .control, .post, .lamp, .line] s (passSecond s)

/-- A move changes no block that it does not name. -/
theorem Move.outside (m : Move c s t) : SameOutside c s t := by
  cases m with
  | bulletin => exact queueBulletin_keeps s
  | notice count n => exact queueNotice_keeps s count n
  | offer f => exact offerFrame_keeps s f
  | count => exact setCounters_keeps s _
  | line => exact setLine_keeps s _
  | hushKey => exact setLine_keeps s _
  | alert => exact requestAlert_keeps s
  | alertMark => exact setControl_keeps s _
  | alertServed => exact (setControl_keeps s _).then (requestAlert_keeps _)
  | request src => exact requestCall_keeps s src
  | serve src i => exact ((setCalls_keeps s _).widen (by decide)).trans (raiseInto_keeps _ i src)
  | close i => exact closeSlot_keeps s i
  | announce i => exact announce_keeps s i
  | take i sender => exact ((setCalls_keeps s _).widen (by decide)).trans (announce_keeps _ i)
  | dropPending which => exact dropPending_keeps s which
  | input => exact setCalls_keeps s _
  | galleryKey => exact setCalls_keeps s _
  | control => exact setControl_keeps s _
  | hushed b => exact setHushed_keeps s b
  | posture p b => exact setPosture_keeps s p b
  | restored => exact ((setControl_keeps s _).widen (by decide)).trans (setPosture_keeps _ _ _)
  | hazard => exact setHazard_keeps s _
  | front => exact setFront_keeps s _
  | leaf n => exact leafEvent_keeps s n _
  | provisional => exact setDoors_keeps s _
  | latch => exact setDoors_keeps s _
  | magnets => exact evaluateMagnets_keeps s
  | route before => exact computeRouteFrom_keeps s before
  | entry j => exact ((setPeers_keeps s _).widen (by decide)).trans ((computeRoute_keeps _).widen (by decide))
  | duplicate => exact setPeers_keeps s _
  | lamp => exact setLamp_keeps s _
  | test => exact (setLamp_keeps s _).trans (decideSound_keeps _)
  | notified source n => exact takeNotice_keeps s source n
  | removed e => exact removeSilent_keeps s e
  | chimeEnd => exact (setPost_keeps s _).then (decideSound_keeps _)
  | post => exact setPost_keeps s _
  | loadState => exact setLoader_keeps s _
  | config =>
    exact ((((setLoader_keeps s _).then (setPeers_keeps _ _)).then (setDoors_keeps _ _)).then
      (computeRoute_keeps _)).widen (by decide)
  | defaultAspect p => exact showDefaultAspect_keeps s p
  | profileFault => exact setLoader_keeps s _
  | free => exact setFreeUsed_keeps s _
  | second => exact passSecond_keeps s

/-- Moves one after another. -/
def Run : State → State → Prop := Relation.ReflTransGen fun s t => ∃ c, Move c s t

theorem Run.refl (s : State) : Run s s := Relation.ReflTransGen.refl

theorem Run.trans (h : Run s t) (k : Run t u) : Run s u := Relation.ReflTransGen.trans h k

theorem Run.of (m : Move c s t) : Run s t := Relation.ReflTransGen.single ⟨c, m⟩

theorem Run.ite {p : Prop} [Decidable p] (h : Run s t) (k : Run s u) : Run s (if p then t else u) := by
  split <;> assumption

theorem Run.foldl {α : Type} (f : State → α → State) (h : ∀ s x, Run s (f s x)) (l : List α) (s : State) :
    Run s (l.foldl f s) :=
  List.foldlRecOn l f (.refl s) fun _ ran x _ => ran.trans (h _ x)

/-- What every move keeps is kept over a run. -/
theorem Run.rel {R : State → State → Prop} (w : Watches W R) (moves : ∀ c s t, Move c s t → R s t) (ran : Run s t) :
    R s t := by
  induction ran with
  | refl => exact w.refl s
  | tail _ moved kept =>
    obtain ⟨c, m⟩ := moved
    exact w.trans kept (moves c _ _ m)

/-! ## Machine/Calls.lean -/

theorem requestCall_run (src : Source) (s : State) : Run s (requestCall src s) := .of (.request src s)

theorem requestMotion_run (s : State) : Run s (requestMotion s) :=
  .foldl _ (fun u i => .ite (requestCall_run (.input i) u) (.refl u)) allSix s

theorem servePending_run (n : Nat) (s : State) : Run s (servePending n s) := by
  induction n generalizing s with
  | zero => exact .refl s
  | succ n ih =>
    unfold servePending
    split
    · next i src free top => exact .trans (.of (.serve src i s free (topPending_mem top))) (ih _)
    · exact .refl s

theorem closeSlots_run (which : Slot → Bool) (s : State) : Run s (closeSlots which s) :=
  .foldl _ (fun u i => .ite (.of (.close i u)) (.refl u)) allEight s

theorem afterClosing_run (s : State) : Run s (afterClosing s) :=
  (servePending_run 8 s).trans (requestMotion_run _)

theorem closeGroup_run (which : Slot → Bool) (kinds : CallKind → Bool) (s : State) :
    Run s (afterClosing (dropPending kinds (closeSlots which s))) :=
  ((closeSlots_run which s).trans (.of (.dropPending kinds _))).trans (afterClosing_run _)

theorem answerTooLate_run (i : Fin 8) (seq : Fin 16) (s : State) : Run s (answerTooLate i seq s) :=
  .ite (.refl s) (.of (.notice _ _ s))

theorem judgeTake_run (sender : Station) (i : Fin 8) (seq : Fin 16) (s : State) :
    Run s (judgeTake sender i seq s) := by
  unfold judgeTake
  dsimp only
  refine .ite ?_ (answerTooLate_run i seq s)
  split
  · next raised => exact .of (.take i sender s (by simp [Slot.isOpen, raised]))
  · next taken => exact .of (.announce i s (by simp [Slot.isOpen, taken]))
  · exact answerTooLate_run i seq s

theorem judgeCancel_run (sender : Station) (i : Fin 8) (seq : Fin 16) (s : State) :
    Run s (judgeCancel sender i seq s) := by
  unfold judgeCancel
  dsimp only
  split
  · next named =>
    exact .ite (.trans (.of (.close i s)) (afterClosing_run _)) (.of (.announce i s (by simp_all)))
  · exact answerTooLate_run i seq s

theorem callFrame_run {judge : Station → Fin 8 → Fin 16 → State → State}
    (judged : ∀ sender i seq u, Run u (judge sender i seq u)) (sender : Station) (slot seq : Fin 16) (s : State) :
    Run s (callFrame judge sender slot seq s) := by
  unfold callFrame
  split
  · exact .ite (.refl s) (judged _ _ _ s)
  · exact .refl s

theorem handTake_run (source : Station) (target : Byte) (slot seq : Fin 16) (s : State) :
    Run s (handTake source target slot seq s) :=
  .ite (callFrame_run judgeTake_run source slot seq s) (.refl s)

theorem handCancel_run (source : Station) (target : Byte) (slot seq : Fin 16) (s : State) :
    Run s (handCancel source target slot seq s) :=
  .ite (callFrame_run judgeCancel_run source slot seq s) (.refl s)

theorem takeInputChange_run (i : Fin 6) (active : Bool) (s : State) : Run s (takeInputChange i active s) := by
  have input : ∀ u x, Run u (u.setInput i x) := fun u x => .of (.input i x u)
  unfold takeInputChange
  dsimp only
  refine .ite (.refl s) ((input s _).trans (.ite (.ite (input _ _) (.refl _)) ?_))
  split
  · exact .ite (input _ _) (.refl _)
  · exact .ite (input _ _) (.refl _)
  · exact .ite (requestCall_run _ _) (.refl _)
  · exact .refl _

theorem takeHelpPress_run (i : Fin 6) (s : State) : Run s (takeHelpPress i s) :=
  .ite (.trans (.of (.input i _ s)) (requestCall_run _ _)) (.refl s)

theorem takeRepeat_run (i : Fin 8) (s : State) : Run s (takeRepeat i s) := by
  unfold takeRepeat
  dsimp only
  split
  · next timed => exact .of (.announce i s (by simp_all))
  · exact .refl s

theorem takeGalleryKey_run (on : Bool) (s : State) : Run s (takeGalleryKey on s) :=
  .ite (.refl s) (.trans (.of (.galleryKey on s)) (.ite (closeGroup_run _ _ _) (.refl _)))

/-! ## Machine/Doors.lean -/

theorem takeDoorContact_run (n : Fin 4) (closed : Bool) (s : State) : Run s (takeDoorContact n closed s) := by
  unfold takeDoorContact
  dsimp only
  refine .ite (.refl s) ?_
  split
  · exact .refl s
  · next role => exact .of (.provisional n closed (s.doors.leaves.get n).boltThrown s role)
  · next role => exact .of (.leaf n s (.door closed (Leaf.isConfigured_of role)))

theorem takeBoltContact_run (n : Fin 4) (thrown : Bool) (s : State) : Run s (takeBoltContact n thrown s) := by
  unfold takeBoltContact
  dsimp only
  refine .ite (.refl s) ?_
  split
  · exact .refl s
  · next role => exact .of (.provisional n (s.doors.leaves.get n).doorClosed thrown s role)
  · next role => exact .of (.leaf n s (.bolt thrown (Leaf.isConfigured_of role)))

theorem takeExitEdge_run (n : Fin 4) (s : State) : Run s (takeExitEdge n s) := .ite (.refl s) (.of (.latch n true s))

theorem takeExitRequest_run (n : Fin 4) (s : State) : Run s (takeExitRequest n s) := by
  unfold takeExitRequest
  dsimp only
  refine .ite (.refl s) ?_
  split
  · next role => exact .trans (.of (.leaf n s (.press (Leaf.isConfigured_of role)))) (.ite (requestCall_run _ _) (.refl _))
  · exact .of (.latch n false s)

theorem takeBoltExpiry_run (n : Fin 4) (s : State) : Run s (takeBoltExpiry n s) :=
  .ite (.of (.leaf n s .boltTime)) (.refl s)

theorem takePropExpiry_run (n : Fin 4) (s : State) : Run s (takePropExpiry n s) := by
  unfold takePropExpiry
  dsimp only
  split
  · next timed => exact .of (.leaf n s (.propped (by simp_all)))
  · exact .refl s

theorem takePassExpiry_run (n : Fin 4) (s : State) : Run s (takePassExpiry n s) :=
  .ite (.of (.leaf n s .passEnd)) (.refl s)

/-! ## Machine/Postures.lean -/

/-- A change of the posture controller that leaves the posture, the base, the flag and the Alert's mark. -/
theorem setControl_run (s : State) (x : Control) (posture : x.posture = s.control.posture := by rfl)
    (base : x.base = s.control.base := by rfl) (mark : x.alertPending = s.control.alertPending := by rfl)
    (hushed : x.hushed = s.control.hushed := by rfl) : Run s (s.setControl x) :=
  .of (.control s posture base mark (.inl hushed))

theorem enterEvacuate_run (b : Base) (elsewhere : s.control.posture ≠ .evacuate) : Run s (enterEvacuate b s) :=
  .trans (.of (.control (x := { s.control with hushed := false, joinTimer := none }) s rfl rfl rfl (.inr elsewhere)))
    (.of (.posture _ _ _))

theorem enterEvacuateUnled_run (elsewhere : s.control.posture ≠ .evacuate) : Run s (enterEvacuateUnled s) :=
  .ite (.trans (setControl_run s _) (enterEvacuate_run _ elsewhere)) (enterEvacuate_run _ elsewhere)

theorem takeAlert_run (s : State) : Run s (takeAlert s) := by
  unfold takeAlert
  split
  · exact .refl s
  · next elsewhere => exact enterEvacuateUnled_run elsewhere

theorem takeHush_run (s : State) : Run s (takeHush s) := .ite (.of (.hushed true s)) (.refl s)

theorem makeAlertRequest_run (s : State) : Run s (makeAlertRequest s) := by
  unfold makeAlertRequest
  split
  · exact .refl s
  · next numbered =>
    have numbered : strapped s = true := by simpa using numbered
    exact .ite (.of (.alert s numbered)) (.of (.alertMark s numbered))

theorem takeOwnFire_run (s : State) : Run s (takeOwnFire s) := by
  unfold takeOwnFire
  dsimp only
  refine .trans ?_ (makeAlertRequest_run _)
  refine .trans (.trans (setControl_run s { s.control with fireSet := joinFireSet s.loader.station s.control.fireSet })
    (.of (.hushed false _))) ?_
  split
  · exact .refl _
  · next elsewhere => exact enterEvacuateUnled_run elsewhere

theorem recomputeZone_run (s : State) : Run s (recomputeZone s) := by
  unfold recomputeZone
  dsimp only
  refine .ite (.refl s) ?_
  refine .trans ?_ (.of (.magnets _))
  refine .trans ?_ (.of (.route _ _))
  refine .trans ?_ (.ite (takeOwnFire_run _) (.refl _))
  exact .trans (.of (.hazard _ s)) (.of (.bulletin _))

theorem evaluateBlind_run (s : State) : Run s (evaluateBlind s) :=
  .ite (.refl s) (.trans (.of (.hazard _ s)) (.of (.bulletin _)))

@[simp] theorem setHushed_posture (b : Bool) (s : State) : (setHushed b s).control.posture = s.control.posture := by
  unfold setHushed
  split
  · rfl
  · rw [(decideSound_keeps _).control_eq]
    rfl

@[simp] theorem makeAlertRequest_posture (s : State) :
    (makeAlertRequest s).control.posture = s.control.posture := by
  unfold makeAlertRequest
  split
  · rfl
  · split <;> rfl

/-- In Evacuate a zone hazard that has become Fire leaves the posture (R32). -/
theorem takeOwnFire_posture (inside : s.control.posture = .evacuate) : (takeOwnFire s).control.posture = .evacuate := by
  simp [takeOwnFire, inside]

/-- In Evacuate the zone hazard's recomputation leaves the posture (R20, R32). -/
theorem recomputeZone_posture (inside : s.control.posture = .evacuate) :
    (recomputeZone s).control.posture = .evacuate := by
  unfold recomputeZone
  dsimp only
  split
  · exact inside
  · have shown : (queueBulletin (s.setHazard { s.hazard with zone := zoneOf s.hazard })).control.posture = .evacuate := by
      rw [(queueBulletin_keeps _).control_eq]
      exact inside
    rw [(evaluateMagnets_keeps _).control_eq, (computeRouteFrom_keeps _ _).control_eq]
    split
    · exact takeOwnFire_posture shown
    · exact shown

theorem restoreHazard_run (s : State) : Run s (restoreHazard s) :=
  .trans (.of (.hazard _ s)) (recomputeZone_run _)

theorem acceptRestore_run (inside : s.control.posture = .evacuate) : Run s (acceptRestore s) := by
  have still : (closeFireCalls (restoreHazard s)).control.posture = .evacuate := by
    rw [(closeFireCalls_keeps _).control_eq]
    exact recomputeZone_posture inside
  have closed : Run s (closeFireCalls (restoreHazard s)) := (restoreHazard_run s).trans (closeGroup_run _ _ _)
  unfold acceptRestore
  dsimp only
  generalize closeFireCalls (restoreHazard s) = u at closed still ⊢
  exact closed.trans (.of (.restored u still))

theorem takeRestore_run (s : State) : Run s (takeRestore s) := by
  unfold takeRestore
  split
  · next inside => exact .ite (acceptRestore_run inside) (.ite (.of (.bulletin s)) (.refl s))
  · exact .refl s

theorem takeBaseOrder_run (b : Base) (s : State) : Run s (takeBaseOrder b s) :=
  .ite (.trans (setControl_run s { s.control with provisionalBase := false }) (.of (.posture _ _ _)))
    (.trans (setControl_run s { s.control with joinTimer := none }) (.of (.posture _ _ _)))

theorem takeOrder_run (o : Order) (s : State) : Run s (takeOrder o s) := by
  cases o with
  | day => exact takeBaseOrder_run .day s
  | night => exact takeBaseOrder_run .night s
  | restore => exact takeRestore_run s

theorem takeBase_run (b : Bulletin) (s : State) : Run s (takeBase b s) := by
  unfold takeBase
  split
  · exact .ite (.trans (setControl_run s { s.control with provisionalBase := false }) (.of (.posture _ _ _))) (.refl s)
  · exact .refl s

theorem enterFromFireBulletin_run (b : Bulletin) (elsewhere : s.control.posture ≠ .evacuate) :
    Run s (enterFromFireBulletin b s) := by
  unfold enterFromFireBulletin
  split
  · exact enterEvacuate_run _ elsewhere
  · exact enterEvacuateUnled_run elsewhere

theorem takeFireBulletin_run (source : Station) (b : Bulletin) (s : State) : Run s (takeFireBulletin source b s) := by
  have joined : Run s (if s.control.fireSet.contains source then s
      else setHushed false (s.setControl { s.control with fireSet := joinFireSet source s.control.fireSet })) :=
    .ite (.refl s) (.trans (setControl_run s _) (.of (.hushed false _)))
  unfold takeFireBulletin
  dsimp only
  refine joined.trans ?_
  generalize (if s.control.fireSet.contains source then s
      else setHushed false (s.setControl { s.control with fireSet := joinFireSet source s.control.fireSet })) = u
  split
  · exact takeBase_run b u
  · next startup => exact enterFromFireBulletin_run b (by rw [startup]; decide)
  · next elsewhere _ => exact enterEvacuate_run _ elsewhere

theorem adopt_run (b : Bulletin) (elsewhere : s.control.posture ≠ .evacuate) : Run s (adopt b s) := by
  unfold adopt
  split
  · exact .refl s
  · exact .trans (setControl_run s { s.control with joinTimer := none }) (.of (.posture _ _ _))
  · exact .trans (setControl_run s { s.control with joinTimer := none }) (.of (.posture _ _ _))
  · exact enterEvacuate_run _ elsewhere

theorem takeOrdinaryBulletin_run (source : Station) (b : Bulletin) (s : State) :
    Run s (takeOrdinaryBulletin source b s) := by
  unfold takeOrdinaryBulletin
  dsimp only
  refine .trans (setControl_run s { s.control with fireSet := leaveFireSet source s.control.fireSet }) ?_
  split
  · next startup => exact adopt_run b (by rw [startup]; decide)
  · exact takeBase_run b _

theorem controlTakeBulletin_run (source : Station) (b : Bulletin) (s : State) :
    Run s (controlTakeBulletin source b s) :=
  .ite (.refl s) (.ite (takeFireBulletin_run source b s) (takeOrdinaryBulletin_run source b s))

theorem takeJoinExpiry_run (s : State) : Run s (takeJoinExpiry s) :=
  .ite (.trans (setControl_run s { s.control with joinTimer := none }) (.of (.posture _ _ _))) (.refl s)

theorem takeFirePress_run (i : Fin 6) (s : State) : Run s (takeFirePress i s) := by
  unfold takeFirePress
  dsimp only
  refine .ite ?_ (.refl s)
  refine .trans ?_ (requestCall_run _ _)
  exact .trans (.trans (.of (.input i _ s)) (.of (.hazard _ _))) (recomputeZone_run _)

/-! ## Machine/Peers.lean -/

theorem updateEntry_run {j : Fin 8} {old : Entry} {b : Bulletin} (hops : b.hops.toNat ≤ Config.hopCeiling)
    (found : entryAt s j = some old) : Run s (updateEntry j old b s) :=
  .trans (.of (.entry j s found (.heard b hops))) (.ite (.of (.magnets _)) (.refl _))

theorem takeForeign_run (s : State) : Run s (takeForeign s) := by
  unfold takeForeign
  dsimp only
  refine .trans (.trans (.of (.duplicate true (some 0) s)) (.of (.count _ .duplicate))) ?_
  exact .ite (.refl _) (.trans (requestCall_run _ _) (.of (.bulletin _)))

theorem peersTakeBulletin_run (source : Station) {b : Bulletin} (hops : b.hops.toNat ≤ Config.hopCeiling) (s : State) :
    Run s (peersTakeBulletin source b s) := by
  unfold peersTakeBulletin
  refine .ite (.refl s) (.ite (takeForeign_run s) ?_)
  split
  · split
    · next found => exact updateEntry_run hops found
    · exact .refl s
  · exact .refl s

theorem handBulletin_run (source : Station) {b : Bulletin} (hops : b.hops.toNat ≤ Config.hopCeiling) (s : State) :
    Run s (handBulletin source b s) :=
  (peersTakeBulletin_run source hops s).trans (controlTakeBulletin_run source b _)

theorem ageEntry_run (j : Fin 8) {before after : EntryStatus} (heard : before ≠ .unheard) (known : after ≠ .unheard)
    (limit : Nat) (s : State) : Run s (ageEntry j before after limit s) := by
  unfold ageEntry
  split
  · next e found =>
    split
    · next aged =>
      have status : e.status = before := by simp_all
      exact .of (.entry j s found (.aged before after status heard known))
    · exact .refl s
  · exact .refl s

theorem takeDuplicateExpiry_run (s : State) : Run s (takeDuplicateExpiry s) :=
  .ite (.trans (.of (.duplicate false none s)) (.of (.bulletin _))) (.refl s)

/-! ## Machine/PostUnit.lean and Machine/Lamps.lean -/

/-- A change of the post unit that leaves the board's entries by kind and state, and the Help chime. -/
theorem setPost_run (s : State) (x : Post) (chime : x.helpChime = s.post.helpChime := by rfl)
    (board : x.board = s.post.board := by rfl) : Run s (s.setPost x) :=
  .of (.post s chime (by rw [continuousChime, continuousChime, board]))

theorem anyRaised_map {f : BoardEntry → BoardEntry} (kind : ∀ e, (f e).kind = e.kind) (state : ∀ e, (f e).state = e.state)
    (board : List BoardEntry) (k : CallKind) : anyRaised (board.map f) k = anyRaised board k := by
  simp [anyRaised, Function.comp_def, kind, state]

/-- A change of the board's entries that leaves their kinds and states leaves the chime demand (R142). -/
theorem mapBoard_run {f : BoardEntry → BoardEntry} (s : State) (kind : ∀ e, (f e).kind = e.kind)
    (state : ∀ e, (f e).state = e.state) : Run s (s.setPost { s.post with board := s.post.board.map f }) :=
  .of (.post s rfl (by simp only [continuousChime, anyRaised_map kind state]))

theorem startBlink_run (s : State) : Run s (startBlink s) := setPost_run s _

theorem offerFrame_run {f : Frame} (refusable : f.refusable = true) (s : State) : Run s (offerFrame f s) :=
  .of (.offer f s refusable)

theorem askLine_run {f : Frame} (refusable : f.refusable = true) (s : State) : Run s (askLine f s) :=
  .ite (.trans (offerFrame_run refusable s) (startBlink_run _)) (offerFrame_run refusable s)

theorem takeKey_run (s : State) : Run s (takeKey s) := by
  unfold takeKey
  dsimp only
  split
  · refine .ite (.ite (askLine_run rfl s) (.trans (askLine_run rfl s) (mapBoard_run _ ?_ ?_))) (startBlink_run s)
    all_goals exact fun e => by split <;> rfl
  · exact startBlink_run s

theorem cancelKey_run (s : State) : Run s (cancelKey s) := by
  unfold cancelKey
  split
  · exact .trans (.ite (askLine_run rfl s) (startBlink_run s)) (.of (.removed _ _))
  · exact startBlink_run s

theorem commandKey_run {act : State → State} (acts : strapped s = true → Run s (act s)) :
    Run s (commandKey act s) := by
  unfold commandKey
  split
  · next allowed => exact acts (by simp_all)
  · exact startBlink_run s

theorem keyAct_run (k : Key) (s : State) : Run s (keyAct k s) := by
  cases k with
  | take => exact takeKey_run s
  | next => exact setPost_run s _
  | cancel => exact cancelKey_run s
  | hush =>
    exact commandKey_run (act := fun s => s.setLine { s.line with hushPending := true }) fun numbered =>
      .of (.hushKey s numbered)
  | day | night | restore => exact commandKey_run fun _ => askLine_run rfl s
  | test => exact .of (.test _ s)
  | unused => exact .refl s

theorem acceptKey_run (k : Key) (s : State) : Run s (acceptKey k s) := (setPost_run s _).trans (keyAct_run k _)

theorem takeKeyUp_run (k : Key) (s : State) : Run s (takeKeyUp k s) := by
  have down : Run s (s.setPost { s.post with down := s.post.down.filter (· != k) }) := setPost_run s _
  unfold takeKeyUp
  dsimp only
  refine .ite (down.trans (.ite ?_ (.refl _))) (.refl s)
  split
  · exact .refl _
  · exact .ite (.trans (setPost_run _ _) (acceptKey_run k _)) (.refl _)
  · exact .ite (setPost_run _ _) (.refl _)

theorem takeSilent_run (station : Station) (slot : Fin 8) (s : State) : Run s (takeSilent station slot s) := by
  refine mapBoard_run s (fun e => ?_) (fun e => ?_) <;>
  · unfold BoardEntry.fallSilent
    split <;> [split; skip] <;> rfl

/-- A change of what the chains carry or show of their faults, or of the sounding part: the lamps show the same. -/
theorem setLamp_run (s : State) (x : Lamp) (same : s.lamp.SameShow x := by exact ⟨rfl, rfl, rfl, rfl, rfl, rfl, rfl, rfl, rfl⟩) :
    Run s (s.setLamp x) := .of (.lamp s same)

/-! ## Machine/Survey.lean, Machine/Frames.lean and Machine/Line.lean -/

theorem spendFree_run (area index : Fin 16) (s : State) : Run s (spendFree area index s) := by
  unfold spendFree
  refine .ite ?_ (.refl s)
  split
  · exact .ite (.of (.free _ s)) (.refl s)
  · exact .refl s

theorem handRequest_run (target : Byte) (area index : Fin 16) (s : State) : Run s (handRequest target area index s) :=
  .ite ((offerFrame_run rfl s).trans (spendFree_run area index _)) (.refl s)

theorem setReceiver_run (r : Receiver) (s : State) : Run s (s.setReceiver r) := .of (.line s (.receiver r))

theorem endFrame_run (corrected : Bool) (s : State) : Run s (endFrame corrected s) :=
  .ite ((setReceiver_run _ s).trans (.of (.count _ .correctedHeader))) (setReceiver_run _ s)

theorem countCut_run (wire : List Byte) (s : State) : Run s (countCut wire s) :=
  .ite (.of (.count s .correctedHeader)) (.refl s)

theorem dropOwnFrame_run (s : State) : Run s (dropOwnFrame s) := .of (.line s .dropped)

theorem handCompletion_run (f : Frame) (s : State) : Run s (handCompletion f s) := by
  cases f with
  | bulletin => exact .of (.line s (.refresh (some 0)))
  | order o => exact takeOrder_run o s
  | take target slot seq => exact handTake_run _ target slot seq s
  | cancel target slot seq => exact handCancel_run _ target slot seq s
  | notice _ n => exact .of (.notified _ n s)
  | request => exact .refl s
  | answer => exact .refl s

theorem takeCompletion_run (s : State) : Run s (takeCompletion s) := by
  unfold takeCompletion
  split
  · exact .trans (.of (.line s (.completed .discard))) (handCompletion_run _ _)
  · exact .refl s

theorem takeArbitrationLost_run (s : State) : Run s (takeArbitrationLost s) :=
  .ite (((dropOwnFrame_run s).trans (setReceiver_run _ _)).trans (.of (.count _ .arbitrationLost))) (.refl s)

theorem takeTransmitError_run (cause : BitErrorCause) (s : State) : Run s (takeTransmitError cause s) := by
  have cut : Run s (countBitError ((dropOwnFrame s).setReceiver .discard)) :=
    ((dropOwnFrame_run s).trans (setReceiver_run _ _)).trans (.of (.count _ .bitError))
  refine .ite ?_ (.refl s)
  cases cause with
  | driveFailed => exact cut
  | lineError => exact cut.trans (.of (.count _ .discardedFrame))

theorem clearLineFault_run (s : State) : Run s (clearLineFault s) := by
  unfold clearLineFault
  dsimp only
  refine .trans ?_ (.of (.line _ (.refresh _)))
  exact .trans (.trans (.of (.line s .cleared)) (requestCall_run _ _)) (.of (.bulletin _))

theorem takeIdle_run (s : State) : Run s (takeIdle s) := by
  have quiet : Run s (if (s.setReceiver .quiet).line.fault then clearLineFault (s.setReceiver .quiet)
      else s.setReceiver .quiet) :=
    (setReceiver_run .quiet s).trans (.ite (clearLineFault_run _) (.refl _))
  unfold takeIdle
  split
  · exact quiet
  · exact quiet
  · exact quiet
  all_goals exact .refl s

theorem takeBreak_run (wire : List Byte) (s : State) : Run s (takeBreak wire s) := by
  unfold takeBreak
  dsimp only
  refine .trans ((countCut_run wire s).trans ?_) (setReceiver_run _ _)
  exact .ite ((dropOwnFrame_run _).trans (.of (.count _ .abortedByBreak))) (.refl _)

theorem takeStuck_run (s : State) : Run s (takeStuck s) := by
  have counted : Run s (if s.line.fault then s else countStuck s) := .ite (.refl s) (.of (.count s .stuckLine))
  exact counted.trans (.of (.line _ .stuck))

theorem takeFramingError_run (wire : List Byte) (s : State) : Run s (takeFramingError wire s) := by
  unfold takeFramingError
  refine .ite (((countCut_run wire s).trans (setReceiver_run _ _)).trans (.of (.count _ .discardedFrame))) ?_
  split
  · exact setReceiver_run _ s
  · exact setReceiver_run _ s
  · exact .refl s

theorem takeDiscarded_run (wire : List Byte) (s : State) : Run s (takeDiscarded wire s) := by
  unfold takeDiscarded
  refine .ite ?_ (.refl s)
  split
  · exact (endFrame_run _ s).trans (.of (.count _ .discardedHeader))
  · exact (endFrame_run _ s).trans (.of (.count _ .discardedFrame))
  · exact .refl s

theorem takeDriven_run (s : State) : Run s (takeDriven s) := by
  unfold takeDriven
  dsimp only
  split
  · exact .of (.line s (.alertDriven _))
  · exact .trans (.of (.line s (.hushDriven _))) (takeHush_run _)
  · exact .refl s

theorem takeTriggerLost_run (cause : TriggerLoss) (s : State) : Run s (takeTriggerLost cause s) := by
  have counted : ∀ u, Run u (match cause with | .driveFailed => countBitError u | .lostCode => u) := by
    intro u
    cases cause with
    | driveFailed => exact .of (.count u .bitError)
    | lostCode => exact .refl u
  unfold takeTriggerLost
  dsimp only
  split
  · refine .trans ((setReceiver_run s.line.receiver.afterBreak s).trans ?_) (counted _)
    split
    · exact .refl _
    · exact .of (.line _ (.hushLost _))
  · exact .refl s

theorem takeCode_run {hand : State → State} (handed : ∀ u, Run u (hand u)) (s : State) : Run s (takeCode hand s) :=
  .ite ((setReceiver_run _ s).trans (handed _)) (.refl s)

theorem takeRefresh_run (s : State) : Run s (takeRefresh s) :=
  .ite (.trans (.of (.bulletin s)) (.of (.line _ (.refresh _)))) (.refl s)

/-! ## Machine/Scans.lean -/

theorem headRequests_run (k : Fin 4) (old new : Head) (s : State) : Run s (headRequests k old new s) := by
  unfold headRequests
  dsimp only
  refine .trans ?_ (.ite (.of (.bulletin _)) (.refl _))
  refine .trans ?_ (.ite (requestCall_run _ _) (.refl _))
  exact .trans (.ite (requestCall_run _ s) (.refl s)) (.ite (requestCall_run _ _) (.refl _))

theorem stepHead_run (readings : Four HeadReading) (s : State) (k : Fin 4) : Run s (stepHead readings s k) := by
  unfold stepHead
  split
  · exact .trans (.of (.hazard _ s)) (headRequests_run k _ _ _)
  · exact .refl s

theorem changeHeads_run (new : Four (Option Head)) (s : State) : Run s (changeHeads new s) := by
  unfold changeHeads
  dsimp only
  refine .trans (.trans ?_ (recomputeZone_run _)) (evaluateBlind_run _)
  exact .trans (.of (.hazard _ s)) (.ite (.refl _) (.of (.bulletin _)))

theorem startScan_run (warmUp : Bool) (present : BitVec 4) (s : State) : Run s (startScan warmUp present s) := by
  have begun : Run s (beginScan warmUp s) := .trans (.of (.front _ s)) (setLamp_run _ _)
  exact begun.trans (.ite (changeHeads_run _ _) (.refl _))

theorem setFrontEndFault_run (s : State) : Run s (setFrontEndFault s) := by
  unfold setFrontEndFault
  dsimp only
  refine .trans (.trans ?_ (.of (.bulletin _))) (recomputeZone_run _)
  exact .trans (.trans (.of (.front _ s)) (.of (.hazard _ _))) (requestCall_run _ _)

theorem takeInvalidScan_run (s : State) : Run s (takeInvalidScan s) := by
  unfold takeInvalidScan
  dsimp only
  have counted : ∀ x, Run s (countInvalidScan (s.setFront x)) :=
    fun x => .trans (.of (.front x s)) (.of (.count _ .invalidScan))
  exact (counted _).trans (.ite (setFrontEndFault_run _) (.refl _))

theorem clearFrontEndFault_run (s : State) : Run s (clearFrontEndFault s) := by
  unfold clearFrontEndFault
  dsimp only
  refine .ite (.trans ?_ (.of (.bulletin _))) (.refl s)
  exact .trans (.of (.front _ s)) (.of (.hazard _ _))

theorem chainRequests_run (src : Source) (old new : Chain) (s : State) : Run s (chainRequests src old new s) := by
  unfold chainRequests
  dsimp only
  exact .trans (.ite (requestCall_run src s) (.refl s)) (.ite (.of (.bulletin _)) (.refl _))

theorem takeChains_run (shown : Lamp) (r : ScanReadings) (s : State) : Run s (takeChains shown r s) := by
  unfold takeChains
  dsimp only
  refine .trans ?_ (chainRequests_run _ _ _ _)
  refine .trans ?_ (setLamp_run _ _)
  refine .trans ?_ (chainRequests_run _ _ _ _)
  refine .trans ?_ (setLamp_run _ _)
  exact .trans (setLamp_run s _) (chainRequests_run _ _ _ _)

theorem takeValidScan_run (r : ScanReadings) (s : State) : Run s (takeValidScan r s) := by
  unfold takeValidScan
  dsimp only
  refine .trans ?_ (takeChains_run _ _ _)
  refine .trans (.trans ?_ (recomputeZone_run _)) (evaluateBlind_run _)
  refine .trans ?_ (.foldl _ (stepHead_run r.heads) _ _)
  exact .trans (.trans (.of (.front _ s)) (clearFrontEndFault_run _)) (.of (.front _ _))

theorem takeResult_run (scan : Scan) (r : ScanReadings) (s : State) : Run s (takeResult scan r s) :=
  .ite (.refl s) (.ite (takeValidScan_run r s) (takeInvalidScan_run s))

theorem takeScan_run (r : ScanReadings) (present : BitVec 4) (s : State) : Run s (takeScan r present s) := by
  unfold takeScan
  dsimp only
  split
  · exact .trans (.trans (.of (.front _ s)) (takeResult_run _ r _)) (.ite (startScan_run _ _ _) (.refl _))
  · exact .refl s

theorem takeInterval_run (present : BitVec 4) (s : State) : Run s (takeInterval present s) :=
  .ite (.of (.front _ s)) (startScan_run false present s)

/-! ## Machine/Loading.lean -/

theorem configureHeads_run (p : Profile) (s : State) : Run s (configureHeads p s) :=
  .ite (.trans (.of (.front _ s)) (changeHeads_run _ _)) (.refl s)

theorem raiseProfileFault_run (s : State) : Run s (raiseProfileFault s) :=
  .ite (.refl s) (.trans (.trans (.of (.profileFault s)) (requestCall_run _ _)) (.of (.bulletin _)))

theorem takeWaitingPress_run (s : State) (i : Fin 6) : Run s (takeWaitingPress s i) := by
  unfold takeWaitingPress
  split
  · exact takeHelpPress_run i s
  · exact takeFirePress_run i s
  all_goals exact .of (.input i _ s)

theorem takeWaiting_run (s : State) : Run s (takeWaiting s) :=
  (Run.foldl _ takeWaitingPress_run allSix s).trans (requestMotion_run _)

theorem beginRoleIf_run (p : Profile) (s : State) : Run s (beginRoleIf p s) := .ite (setPost_run s _) (.refl s)

theorem startJoin_run (s : State) : Run s (startJoin s) := .ite (setControl_run s { s.control with joinTimer := some 0 }) (.refl s)

theorem serveAlert_run (s : State) : Run s (serveAlert s) := by
  unfold serveAlert
  split
  · next pending => exact .of (.alertServed s pending)
  · exact .refl s

theorem startRefresh_run (s : State) : Run s (startRefresh s) := .ite (.of (.line s (.refresh _))) (.refl s)

theorem completeLoad_run {reached : LoadState} {p : Profile} (early : loadComplete s = false)
    (done : reached = .loaded ∨ reached = .fallback) (judged : p.exitWeight ≤ 15) :
    Run s (completeLoad reached p s) := by
  refine .trans (.of (.config reached p s early done judged)) ?_
  refine .trans (configureHeads_run p _) ?_
  refine .trans (.of (.defaultAspect p _)) ?_
  refine .trans (raiseProfileFault_run _) ?_
  refine .trans (takeWaiting_run _) ?_
  refine .trans (beginRoleIf_run p _) ?_
  refine .trans (startJoin_run _) ?_
  exact .trans (serveAlert_run _) (startRefresh_run _)

theorem require_eq_some {b : Bool} {u : Unit} (h : require b = some u) : b = true := by
  unfold require at h
  split at h
  · assumption
  · cases h

/-- A profile that passes its check has an exit weight of at most 15 (R185). -/
theorem profileOf_exitWeight {own : Station} {given : List Byte} {p : Profile} (passed : profileOf own given = some p) :
    p.exitWeight ≤ 15 := by
  unfold profileOf at passed
  dsimp only at passed
  generalize readBlock given = block at passed
  iterate 18 obtain ⟨_, -, passed⟩ := Option.bind_eq_some_iff.1 passed
  obtain ⟨_, weight, passed⟩ := Option.bind_eq_some_iff.1 passed
  iterate 2 obtain ⟨_, -, passed⟩ := Option.bind_eq_some_iff.1 passed
  cases passed
  exact of_decide_eq_true (require_eq_some weight)

theorem takeRead_run (block : List Byte) (s : State) : Run s (takeRead block s) := by
  unfold takeRead
  split
  · next first =>
    split
    · next passed =>
      exact completeLoad_run (by simp [loadComplete, first]) (.inl rfl) (profileOf_exitWeight passed)
    · exact .of (.loadState .waiting s (by simp [first]) (by decide))
  · next second =>
    have early : loadComplete s = false := by simp [loadComplete, second]
    split
    · next passed => exact completeLoad_run early (.inl rfl) (profileOf_exitWeight passed)
    · exact completeLoad_run early (.inr rfl) (by decide)
  all_goals exact .refl s

/-! ## Every event -/

theorem receive_run {want : Station → Frame → Option (State → State)} (wire : List Byte) (s : State)
    (handed : ∀ corrected source f hand, judgeFrame wire = .accepted corrected source f → want source f = some hand →
      ∀ u, Run u (hand u)) : Run s (receive wire want s) := by
  unfold receive
  refine .ite ?_ (.refl s)
  split
  · next judged =>
    split
    · next wanted => exact .trans (endFrame_run _ s) (handed _ _ _ _ judged wanted _)
    · exact .refl s
  · exact .refl s

/-- A bulletin whose bytes a receiver accepts lies within the hop ceiling (R161, spec 11.2). -/
theorem ofPayload_hops {bytes : List Byte} {b : Bulletin} (read : Bulletin.ofPayload bytes = some b) :
    b.hops.toNat ≤ Config.hopCeiling := by
  unfold Bulletin.ofPayload at read
  split at read
  · iterate 3 obtain ⟨_, -, read⟩ := Option.bind_eq_some_iff.1 read
    obtain ⟨_, hops, read⟩ := Option.bind_eq_some_iff.1 read
    iterate 7 obtain ⟨_, -, read⟩ := Option.bind_eq_some_iff.1 read
    cases read
    exact of_decide_eq_true (require_eq_some hops)
  · cases read

theorem frameOf_hops {kind source valueA valueB : Byte} {rest : List Byte} {from' : Station} {asFire : Bool} {count : Byte}
    {b : Bulletin} (read : frameOf kind source valueA valueB rest = some (from', .bulletin asFire count b)) :
    b.hops.toNat ≤ Config.hopCeiling := by
  obtain ⟨src, -, read⟩ := Option.bind_eq_some_iff.1 read
  split at read
  case h_1 | h_6 =>
    obtain ⟨_, -, read⟩ := Option.bind_eq_some_iff.1 read
    obtain ⟨_, -, read⟩ := Option.bind_eq_some_iff.1 read
    obtain ⟨_, given, read⟩ := Option.bind_eq_some_iff.1 read
    cases read
    exact ofPayload_hops given
  case h_2 =>
    obtain ⟨_, -, read⟩ := Option.bind_eq_some_iff.1 read
    cases read
  case h_3 =>
    iterate 3 obtain ⟨_, -, read⟩ := Option.bind_eq_some_iff.1 read
    cases read
  case h_8 =>
    iterate 2 obtain ⟨_, -, read⟩ := Option.bind_eq_some_iff.1 read
    cases read
  all_goals cases read

theorem judgeRest_hops {corrected corrected' : Bool} {data : List Bool} {rest : List Byte} {source : Station}
    {asFire : Bool} {count : Byte} {b : Bulletin}
    (judged : judgeRest corrected' data rest = .accepted corrected source (.bulletin asFire count b)) :
    b.hops.toNat ≤ Config.hopCeiling := by
  unfold judgeRest at judged
  dsimp only at judged
  split at judged
  · next read =>
    cases judged
    exact frameOf_hops read
  · cases judged

/-- No accepted bulletin shows more hops than the ceiling (R67, R161). -/
theorem judgeFrame_hops {wire : List Byte} {corrected : Bool} {source : Station} {asFire : Bool} {count : Byte}
    {b : Bulletin} (judged : judgeFrame wire = .accepted corrected source (.bulletin asFire count b)) :
    b.hops.toNat ≤ Config.hopCeiling := by
  unfold judgeFrame at judged
  split at judged
  · dsimp only at judged
    split at judged
    · exact judgeRest_hops judged
    · exact judgeRest_hops judged
    · cases judged
  · cases judged

theorem receiveBulletin_run (asFire : Bool) (wire : List Byte) (s : State) :
    Run s (receive wire (wantBulletin asFire) s) :=
  receive_run wire s fun corrected source f hand judged wanted u => by
    obtain ⟨count, b, rfl, rfl⟩ := wantBulletin_eq_some wanted
    exact handBulletin_run source (judgeFrame_hops judged) u

theorem receiveOrder_run (order : Order) (wire : List Byte) (s : State) : Run s (receive wire (wantOrder order) s) :=
  receive_run wire s fun _ _ _ _ _ wanted u => by
    obtain ⟨rfl, rfl⟩ := wantOrder_eq_some wanted
    exact takeOrder_run order u

theorem receiveRequest_run (which : Fin 16 → Bool) (wire : List Byte) (s : State) :
    Run s (receive wire (wantRequest which) s) :=
  receive_run wire s fun _ _ _ _ _ wanted u => by
    obtain ⟨target, area, index, rfl, -, rfl⟩ := wantRequest_eq_some wanted
    exact handRequest_run target area index u

/-- The work of every event but a step of the chase or of the flash is a run of moves. -/
theorem workOf_run (i : Instr) (s : State) (chase : i ≠ .chaseStepExpiry) (flash : i ≠ .flashPhaseExpiry) :
    Run s (workOf i s) := by
  cases i with
  | profileReadDone block => exact takeRead_run block s
  | loadWaitExpiry =>
    change Run s (takeLoadWait s)
    unfold takeLoadWait
    split
    · next waiting => exact .of (.loadState .secondRead s (by simp [waiting]) (by decide))
    · exact .refl s
  | scanIntervalExpiry present => exact takeInterval_run present s
  | scanResult readings present => exact takeScan_run readings present s
  | joinTimerExpiry => exact takeJoinExpiry_run s
  | lineIdle => exact takeIdle_run s
  | frameComplete => exact takeCompletion_run s
  | arbitrationLost => exact takeArbitrationLost_run s
  | transmitBitError cause => exact takeTransmitError_run cause s
  | lineBreak wire => exact takeBreak_run wire s
  | triggerDriven => exact takeDriven_run s
  | triggerLost cause => exact takeTriggerLost_run cause s
  | alertTrigger => exact takeCode_run takeAlert_run s
  | hushTrigger => exact takeCode_run takeHush_run s
  | codeWaitTimeout => exact takeCode_run .refl s
  | lineStuck => exact takeStuck_run s
  | framingError wire => exact takeFramingError_run wire s
  | frameDiscarded wire => exact takeDiscarded_run wire s
  | bulletin wire | fireBulletin wire => exact receiveBulletin_run _ wire s
  | postureOrderDay wire | postureOrderNight wire | postureOrderRestore wire => exact receiveOrder_run _ wire s
  | callNotice wire =>
    refine receive_run wire s fun _ source f hand _ wanted u => ?_
    obtain ⟨_, n, rfl, rfl⟩ := wantNotice_eq_some wanted
    exact .of (.notified source n u)
  | callTake wire =>
    refine receive_run wire s fun _ source f hand _ wanted u => ?_
    obtain ⟨target, slot, seq, rfl, rfl⟩ := wantTake_eq_some wanted
    exact handTake_run source target slot seq u
  | callCancel wire =>
    refine receive_run wire s fun _ source f hand _ wanted u => ?_
    obtain ⟨target, slot, seq, rfl, rfl⟩ := wantCancel_eq_some wanted
    exact handCancel_run source target slot seq u
  | surveyIdentity wire | surveyCounters wire | surveyPeerEntry wire | surveyCallSlot wire | surveyDoorLeaf wire
  | surveyHead wire | surveyRoute wire | surveyUnknownSection wire => exact receiveRequest_run _ wire s
  | surveyAnswer wire =>
    refine receive_run wire s fun _ source f hand _ wanted u => ?_
    rw [wantAnswer_eq_some wanted]
    exact .refl u
  | bulletinRefreshExpiry => exact takeRefresh_run s
  | staleExpiry entry | lostExpiry entry => exact ageEntry_run entry (by decide) (by decide) _ s
  | duplicateTimerExpiry => exact takeDuplicateExpiry_run s
  | doorContactChange leaf closed => exact takeDoorContact_run leaf closed s
  | boltContactChange leaf thrown => exact takeBoltContact_run leaf thrown s
  | exitRequestEdge leaf => exact takeExitEdge_run leaf s
  | exitRequest leaf => exact takeExitRequest_run leaf s
  | boltTimeExpiry leaf => exact takeBoltExpiry_run leaf s
  | propTimerExpiry leaf => exact takePropExpiry_run leaf s
  | passExpiry leaf => exact takePassExpiry_run leaf s
  | callInputChange input active => exact takeInputChange_run input active s
  | helpPointPress input => exact takeHelpPress_run input s
  | firePointPress input => exact takeFirePress_run input s
  | repeatTimerExpiry slot => exact takeRepeat_run slot s
  | galleryReset on => exact takeGalleryKey_run on s
  | keyDown key => exact .ite (.refl s) (setPost_run s _)
  | keyUp key => exact takeKeyUp_run _ s
  | authChange on => exact setPost_run s _
  | returnTimerExpiry => exact .ite (setPost_run s _) (.refl s)
  | silent station slot => exact takeSilent_run station slot s
  | refusalBlinkPhase => exact setPost_run s _
  | refusalBlinkEnd => exact .ite (setPost_run s _) (.refl s)
  | lampTestEnd => exact .ite (.of (.test none s)) (.refl s)
  | helpChimeEnd => exact .ite (.of (.chimeEnd s)) (.refl s)
  | drivePeriod => exact setLamp_run s _
  | chaseStepExpiry => exact absurd rfl chase
  | flashPhaseExpiry => exact absurd rfl flash
  | ageAdvance => exact .of (.second s)
  | sounderCadenceExpiry => exact .ite (setLamp_run s _) (.refl s)
  | otherTriggerCode code => exact .ite (.refl s) (takeCode_run .refl s)
  | powerOnReset | pinReset _ | resetEnd _ | supplyLoss => exact .refl s

/-- What every move keeps and no change of the lamps breaks is kept by the work of every event. -/
theorem Watches.workOf {R : State → State → Prop} (w : Watches W R) (lamp : [Block.lamp].all (· ∉ W) = true)
    (moves : ∀ c s t, Move c s t → R s t) (i : Instr) (s : State) : R s (workOf i s) := by
  by_cases chase : i = .chaseStepExpiry
  · subst chase
    exact w.outside (.ite (setLamp_keeps s _) (.refl _ s)) lamp
  by_cases flash : i = .flashPhaseExpiry
  · subst flash
    exact w.outside (.ite (setLamp_keeps s _) (.refl _ s)) lamp
  exact (workOf_run i s chase flash).rel w moves

/-- What a reset's end works before the station ends the command: the warm-up scan starts at a running station. -/
theorem resetEnd_run (pins : Pins) (s : State) :
    Run (readPins pins (s.setPower .running)) (startScan true pins.present (readPins pins (s.setPower .running))) :=
  startScan_run true _ _

end Sys2Proof.Machine
end


section
/-! SUPPORT. What a run of moves makes of the line port, the counters and the pending Alert's mark, and the proofs
that the transmit queue stays bounded and ordered with one frame in flight, that an unstrapped station never drives
and that no counter falls. -/

namespace Sys2Proof.Machine

variable {c W : List Block} {s t u : State} {R : State → State → Prop}

/-! ## The call unit's operations, of which the line port sees the notices -/

/-- A relation that reads nothing of the calls and that the queueing of a notice keeps. -/
structure NoticeRule (W : List Block) (R : State → State → Prop) : Prop extends Watches W R where
  beside : [Block.calls].all (· ∉ W) = true
  notice : ∀ count n s, R s (queueNotice count n s)

namespace NoticeRule

variable (r : NoticeRule W R)
include r

theorem announce (i : Fin 8) (s : State) : R s (Machine.announce i s) :=
  r.trans (r.outside (setCalls_keeps s _) r.beside) (r.notice _ _ _)

theorem raiseInto (i : Fin 8) (src : Source) (s : State) : R s (Machine.raiseInto i src s) :=
  r.trans (r.outside (setCalls_keeps s _) r.beside) (r.announce i _)

theorem queueCleared (i : Fin 8) (s : State) : R s (Machine.queueCleared i s) := r.notice _ _ s

theorem raiseCall (src : Source) (s : State) : R s (Machine.raiseCall src s) := by
  unfold Machine.raiseCall
  split
  · exact r.raiseInto _ src s
  · split
    · next i _ =>
      refine r.trans (r.trans (r.queueCleared i s) ?_) (r.raiseInto i src _)
      exact r.outside (pendIfAsserted_keeps _ _) r.beside
    · exact r.outside (setPendingFlag_keeps s src) r.beside

theorem requestCall (src : Source) (s : State) : R s (Machine.requestCall src s) :=
  r.ite (r.refl s) (r.raiseCall src s)

theorem requestMotion (s : State) : R s (Machine.requestMotion s) :=
  r.foldl _ (fun u i => r.ite (r.requestCall (.input i) u) (r.refl u)) allSix s

theorem servePending (n : Nat) (s : State) : R s (Machine.servePending n s) := by
  induction n generalizing s with
  | zero => exact r.refl s
  | succ n ih =>
    unfold Machine.servePending
    split
    · exact r.trans (r.trans (r.outside (setCalls_keeps s _) r.beside) (r.raiseInto _ _ _)) (ih _)
    · exact r.refl s

theorem closeSlot (i : Fin 8) (s : State) : R s (Machine.closeSlot i s) :=
  r.trans (r.queueCleared i s) (r.outside (setCalls_keeps _ _) r.beside)

theorem afterClosing (s : State) : R s (Machine.afterClosing s) := r.trans (r.servePending 8 s) (r.requestMotion _)

theorem closeGroup (which : Slot → Bool) (kinds : CallKind → Bool) (s : State) :
    R s (Machine.afterClosing (dropPending kinds (closeSlots which s))) := by
  have closed : R s (closeSlots which s) :=
    r.foldl _ (fun u i => r.ite (r.closeSlot i u) (r.refl u)) allEight s
  exact r.trans (r.trans closed (r.outside (dropPending_keeps _ kinds) r.beside)) (r.afterClosing _)

theorem answerTooLate (i : Fin 8) (seq : Fin 16) (s : State) : R s (Machine.answerTooLate i seq s) :=
  r.ite (r.refl s) (r.notice _ _ s)

theorem judgeTake (sender : Station) (i : Fin 8) (seq : Fin 16) (s : State) : R s (Machine.judgeTake sender i seq s) := by
  unfold Machine.judgeTake
  dsimp only
  refine r.ite ?_ (r.answerTooLate i seq s)
  split
  · exact r.trans (r.outside (setCalls_keeps s _) r.beside) (r.announce i _)
  · exact r.announce i s
  · exact r.answerTooLate i seq s

theorem judgeCancel (sender : Station) (i : Fin 8) (seq : Fin 16) (s : State) :
    R s (Machine.judgeCancel sender i seq s) :=
  r.ite (r.ite (r.trans (r.closeSlot i s) (r.afterClosing _)) (r.announce i s)) (r.answerTooLate i seq s)

theorem callFrame {judge : Station → Fin 8 → Fin 16 → State → State}
    (judged : ∀ sender i seq u, R u (judge sender i seq u)) (sender : Station) (slot seq : Fin 16) (s : State) :
    R s (Machine.callFrame judge sender slot seq s) := by
  unfold Machine.callFrame
  split
  · exact r.ite (r.refl s) (judged _ _ _ s)
  · exact r.refl s

theorem handTake (source : Station) (target : Byte) (slot seq : Fin 16) (s : State) :
    R s (Machine.handTake source target slot seq s) :=
  r.ite (r.callFrame r.judgeTake source slot seq s) (r.refl s)

theorem handCancel (source : Station) (target : Byte) (slot seq : Fin 16) (s : State) :
    R s (Machine.handCancel source target slot seq s) :=
  r.ite (r.callFrame r.judgeCancel source slot seq s) (r.refl s)

theorem takeInputChange (i : Fin 6) (active : Bool) (s : State) : R s (Machine.takeInputChange i active s) := by
  have input : ∀ u x, R u (u.setInput i x) := fun u x => r.outside (setCalls_keeps u _) r.beside
  unfold Machine.takeInputChange
  dsimp only
  refine r.ite (r.refl s) (r.trans (input s _) (r.ite (r.ite (input _ _) (r.refl _)) ?_))
  split
  · exact r.ite (input _ _) (r.refl _)
  · exact r.ite (input _ _) (r.refl _)
  · exact r.ite (r.requestCall _ _) (r.refl _)
  · exact r.refl _

theorem takeHelpPress (i : Fin 6) (s : State) : R s (Machine.takeHelpPress i s) :=
  r.ite (r.trans (r.outside (setCalls_keeps s _) r.beside) (r.requestCall _ _)) (r.refl s)

theorem takeRepeat (i : Fin 8) (s : State) : R s (Machine.takeRepeat i s) := r.ite (r.announce i s) (r.refl s)

theorem takeGalleryKey (on : Bool) (s : State) : R s (Machine.takeGalleryKey on s) :=
  r.ite (r.refl s) (r.trans (r.outside (setCalls_keeps s _) r.beside) (r.ite (r.closeGroup _ _ _) (r.refl _)))

end NoticeRule

/-! ## Relations that read the line port, the counters, the Alert's mark and the station's number -/

/-- A relation that reads nothing but the line port, the counters, the pending Alert's mark and the station's number,
and that each shared operation on them keeps. -/
structure LineRule (R : State → State → Prop) : Prop extends Watches [.line, .counters, .control, .loader] R where
  control : ∀ s x, x.alertPending = s.control.alertPending → R s (s.setControl x)
  loader : ∀ s x, x.station = s.loader.station → R s (s.setLoader x)
  bulletin : ∀ s, R s (queueBulletin s)
  notice : ∀ count n s, R s (queueNotice count n s)
  offer : ∀ f s, f.refusable = true → R s (offerFrame f s)
  count : ∀ s x, s.counters.Advances x → R s (s.setCounters x)
  line : ∀ s l, s.line.Moves l → R s (s.setLine l)
  hushKey : ∀ s, strapped s = true → R s (s.setLine { s.line with hushPending := true })
  alert : ∀ s, strapped s = true → R s (requestAlert s)
  alertMark : ∀ s, strapped s = true → R s (s.setControl { s.control with alertPending := true })
  alertServed : ∀ s, s.control.alertPending = true →
    R s (requestAlert (s.setControl { s.control with alertPending := false }))

namespace LineRule

variable (r : LineRule R)
include r

/-- The call unit's operations keep it. -/
theorem notices : NoticeRule [.line, .counters, .control, .loader] R := ⟨r.toWatches, rfl, r.notice⟩

theorem computeRouteFrom (before : Nat) (s : State) : R s (Machine.computeRouteFrom before s) := by
  unfold Machine.computeRouteFrom
  dsimp only
  have chosen : R s (s.setRoute (routeOf s)) := r.outside (setRoute_keeps s _) rfl
  refine r.trans chosen ?_
  generalize s.setRoute (routeOf s) = v
  have shown : R v (if (routeOf s).next = s.route.next then v else deriveLamps v) :=
    r.ite (r.refl v) (r.outside (deriveLamps_keeps v) rfl)
  exact r.trans shown (r.ite (r.refl _) (r.bulletin _))

theorem setLeaves (new : Four Leaf) (s : State) : R s (Machine.setLeaves new s) := by
  unfold Machine.setLeaves
  dsimp only
  have stood : R s (s.setDoors { s.doors with leaves := new }) := r.outside (setDoors_keeps s _) rfl
  have requests : ∀ n old lf u, R u (leafRequests n old lf u) := fun n old lf u =>
    r.trans (r.ite (r.notices.requestCall _ u) (r.refl u)) (r.ite (r.notices.requestCall _ _) (r.refl _))
  refine r.trans (r.trans stood (r.foldl (fun u n => leafRequests n (s.doors.leaves.get n) (new.get n) u)
    (fun u n => requests n _ _ u) allFour _)) ?_
  exact r.ite (r.computeRouteFrom _ _) (r.refl _)

theorem setPosture (p : Posture) (b : Base) (s : State) : R s (Machine.setPosture p b s) := by
  unfold Machine.setPosture
  dsimp only
  refine r.ite (r.refl s) (r.trans ?_ (r.bulletin _))
  have led : R s (doorsTakePosture s.control.posture s.control.base
      (s.setControl { s.control with posture := p, base := b })) :=
    r.trans (r.control s { s.control with posture := p, base := b } rfl) (r.setLeaves _ _)
  refine r.trans led (r.ite (r.refl _) ?_)
  exact r.trans (r.ite (r.notices.requestMotion _) (r.refl _)) (r.outside (lampTakePosture_keeps _) rfl)

theorem takeNotice (source : Station) (n : Notice) (s : State) : R s (Machine.takeNotice source n s) := by
  have board : ∀ b u, R u (setBoard b u) := fun b u => r.outside (setBoard_keeps u b) rfl
  have chimed : ∀ e u, R u (startHelpChime e u) := fun e u => r.outside (startHelpChime_keeps u e) rfl
  have sounded : ∀ u, R u (decideSound u) := fun u => r.outside (decideSound_keeps u) rfl
  have full : ∀ e u, R u (joinFull e u) := by
    intro e u
    unfold joinFull
    split
    · exact r.trans (board _ u) (chimed e _)
    · exact r.trans (r.outside (setPost_keeps u _) rfl) (r.count _ _ .overflow)
  have taken : ∀ kind u, R u (boardTake source kind n u) := by
    intro kind u
    unfold boardTake
    dsimp only
    split
    · exact r.ite (board _ u) (r.trans (board _ u) (chimed _ _))
    · exact r.ite (r.trans (board _ u) (chimed _ _)) (full _ u)
  unfold Machine.takeNotice
  split
  · exact r.refl s
  · split
    · exact r.trans (board _ s) (sounded _)
    · exact r.trans (taken _ s) (sounded _)
    · exact r.refl s

theorem passSecond (s : State) : R s (Machine.passSecond s) := by
  unfold Machine.passSecond
  dsimp only
  refine r.trans ?_ (r.line _ _ (.refresh _))
  refine r.trans ?_ (r.outside (setLamp_keeps _ _) rfl)
  refine r.trans ?_ (r.outside (setPost_keeps _ _) rfl)
  refine r.trans ?_ (r.control _ _ rfl)
  refine r.trans ?_ (r.outside (setDoors_keeps _ _) rfl)
  exact r.trans (r.outside (setPeers_keeps s _) rfl) (r.outside (setCalls_keeps _ _) rfl)

/-- Such a relation is kept by every move. -/
theorem move (m : Move c s t) : R s t := by
  have frame := m.outside
  cases m with
  | bulletin => exact r.bulletin s
  | notice => exact r.notice _ _ s
  | offer f _ refusable => exact r.offer f s refusable
  | count _ advance => exact r.count s _ advance
  | line _ moved => exact r.line s _ moved
  | hushKey _ numbered => exact r.hushKey s numbered
  | alert _ numbered => exact r.alert s numbered
  | alertMark _ numbered => exact r.alertMark s numbered
  | alertServed _ pending => exact r.alertServed s pending
  | request src => exact r.notices.requestCall src s
  | serve src i => exact r.trans (r.outside (setCalls_keeps s _) rfl) (r.notices.raiseInto i src _)
  | close i => exact r.trans (r.notices.queueCleared i s) (r.outside (setCalls_keeps _ _) rfl)
  | announce i => exact r.notices.announce i s
  | take i => exact r.trans (r.outside (setCalls_keeps s _) rfl) (r.notices.announce i _)
  | control _ _ _ mark => exact r.control s _ mark
  | hushed b =>
    refine r.ite (r.refl s) (r.trans (r.control s { s.control with hushed := b } rfl) ?_)
    exact r.outside (decideSound_keeps _) rfl
  | posture p b => exact r.setPosture p b s
  | restored =>
    refine r.trans (r.control s { s.control with fireSet := [], hushed := false, provisionalBase := false } rfl) ?_
    exact r.setPosture _ _ _
  | leaf n => exact r.setLeaves _ s
  | route before => exact r.computeRouteFrom before s
  | entry j => exact r.trans (r.outside (setPeers_keeps s _) rfl) (r.computeRouteFrom _ _)
  | notified source n => exact r.takeNotice source n s
  | loadState => exact r.loader s _ rfl
  | config reached p =>
    have recorded : R s (recordLoad reached p s) := r.loader s _ rfl
    have built : SameOutside ([.peers] ++ [.doors]) (recordLoad reached p s)
        (configureLeaves p (buildEntries p (recordLoad reached p s))) :=
      (setPeers_keeps _ _).then (setDoors_keeps _ _)
    exact r.trans (r.trans recorded (r.outside built rfl)) (r.computeRouteFrom _ _)
  | profileFault => exact r.loader s _ rfl
  | second => exact r.passSecond s
  | _ => exact r.outside frame rfl

theorem run (ran : Run s t) : R s t := ran.rel r.toWatches fun _ _ _ m => r.move m

theorem event (i : Instr) (s : State) : R s (workOf i s) := r.toWatches.workOf rfl (fun _ _ _ m => r.move m) i s

end LineRule

/-! ## What queueing makes of the line port (R163, R164) -/

/-- What queueing a bulletin or a notice makes of the line port: the entry of its like is replaced at its place time;
else a new place is taken, for which a full queue evicts; or nothing is queued. -/
inductive LinePort.Queues (l : LinePort) (like : Frame → Bool) (f : Frame) : LinePort → Prop
  | replaced (e : QueueEntry) (mem : e ∈ l.queue) (alike : like e.frame = true) :
      LinePort.Queues l like f
        { l with queue := insertEntry ⟨f, e.place, false⟩ (l.queue.filter (fun e => !like e.frame)) }
  | placed (fresh : ∀ e ∈ l.queue, like e.frame = false) (room : l.queue.length < Config.queueLimit) :
      LinePort.Queues l like f
        { l with queue := insertEntry ⟨f, l.placed, false⟩ l.queue, placed := l.placed + 1 }
  | evicting (fresh : ∀ e ∈ l.queue, like e.frame = false) (victim : QueueEntry) (mem : victim ∈ l.queue) :
      LinePort.Queues l like f
        { l with queue := insertEntry ⟨f, l.placed, false⟩ (l.queue.filter (fun e => e.place != victim.place))
                 placed := l.placed + 1 }
  | unchanged : LinePort.Queues l like f l

theorem queueReplacing_queues (like : Frame → Bool) (f : Frame) (s : State) :
    s.line.Queues like f (queueReplacing like f s).line := by
  unfold queueReplacing
  split
  · next e found => exact .replaced e (List.mem_of_find?_eq_some found) (by simpa using List.find?_some found)
  · next missing =>
    have fresh : ∀ e ∈ s.line.queue, like e.frame = false := by simpa using missing
    split
    · next room => exact .placed fresh room
    · split
      · next victim evicted => exact .evicting fresh victim (evictable_mem evicted)
      · exact .unchanged

/-- The frame is of the class that `like` names: a bulletin, or the notice of a slot. -/
inductive Alike : (Frame → Bool) → Frame → Prop
  | bulletin (asFire : Bool) (count : Byte) (b : Bulletin) : Alike Frame.isBulletin (.bulletin asFire count b)
  | notice (count : Byte) (n : Notice) : Alike (Frame.isNoticeOf n.slot) (.notice count n)

/-- A property of the line port that queueing and the line port's own changes keep. -/
structure LinePort.Rule (P : LinePort → Prop) : Prop where
  bulletins : ∀ l n, P l → P { l with bulletins := n }
  queues : ∀ l like f l', Alike like f → l.Queues like f l' → P l → P l'
  offers : ∀ l f, f.refusable = true → l.queue.length < Config.queueLimit → P l →
    P { l with queue := insertEntry ⟨f, l.placed, false⟩ l.queue, placed := l.placed + 1 }
  moves : ∀ l l', l.Moves l' → P l → P l'
  hush : ∀ l, P l → P { l with hushPending := true }
  alert : ∀ l, P l → P { l with alertHeld := true }

theorem LinePort.Rule.toLineRule {P : LinePort → Prop} (p : LinePort.Rule P) :
    LineRule (fun s t => P s.line → P t.line) where
  trans h k := k ∘ h
  outside h clear := fun held => by
    rw [h.line_eq fun mem => absurd (List.all_eq_true.1 clear _ mem) (by decide)]
    exact held
  control _ _ _ := id
  loader _ _ _ := id
  bulletin s held := p.queues _ _ _ _ (.bulletin _ _ _) (queueReplacing_queues _ _ _) (p.bulletins _ _ held)
  notice count n s held := p.queues _ _ _ _ (.notice count n) (queueReplacing_queues _ _ s) held
  offer f s refusable held := by
    unfold offerFrame
    split
    · exact held
    · next room => exact p.offers _ f refusable (by simpa [queueFull] using room) held
  count _ _ _ := id
  line s l moved := p.moves _ _ moved
  hushKey s _ := p.hush _
  alert s _ := p.alert _
  alertMark _ _ := id
  alertServed s _ := p.alert _

/-- A property of the line port that also the starts of frames and triggers keep is kept by every step. -/
theorem LinePort.Rule.kept {P : LinePort → Prop} (p : LinePort.Rule P)
    (start : ∀ s, P s.line → P (startSending s).line) (idle : ∀ s, P s.line → P (startAtIdle s).line)
    (reset : ∀ bits, P { LinePort.atReset with startBits := bits })
    (loss : ∀ l : LinePort, P l → P { l with queue := landed l.queue, onLine := none, driving := none }) :
    Kept (fun s => P s.line) := by
  intro s t held answer
  have r := p.toLineRule
  refine step_rel r.toWatches (by decide) (fun _ s _ => reset _) (fun wire s _ => reset _) ?_
    (fun s held => loss s.line held) ?_ answer held
  · intro pins s _ held
    exact start _ (r.run (resetEnd_run pins s) held)
  · intro i s _ held
    have worked := r.event i s held
    unfold endingOf
    split
    · exact idle _ worked
    all_goals first | exact start _ worked | exact worked

/-! ## The queue's bounds (R163, R164) -/

/-- The classes of which the queue holds at most one: the bulletins, and the notices of each slot. -/
def isQueueClass (g : Frame → Bool) : Prop := g = Frame.isBulletin ∨ ∃ i, g = Frame.isNoticeOf i

theorem queueBounded_iff (q : List QueueEntry) :
    QueueBounded q ↔ q.length ≤ Config.queueLimit ∧ ∀ g, isQueueClass g → q.countP (fun e => g e.frame) ≤ 1 := by
  constructor
  · rintro ⟨length, bulletins, notices⟩
    refine ⟨length, ?_⟩
    rintro g (rfl | ⟨i, rfl⟩)
    · exact bulletins
    · exact notices i
  · rintro ⟨length, classes⟩
    exact ⟨length, classes _ (.inl rfl), fun i => classes _ (.inr ⟨i, rfl⟩)⟩

/-- A class of which the frame is one is its own class. -/
theorem Alike.of_class {like g : Frame → Bool} {f : Frame} (alike : Alike like f) (cls : isQueueClass g)
    (member : g f = true) {h : Frame} (other : g h = true) : like h = true := by
  cases alike with
  | bulletin =>
    obtain rfl | ⟨i, rfl⟩ := cls
    · exact other
    · cases member
  | notice count n =>
    obtain rfl | ⟨i, rfl⟩ := cls
    · cases member
    · rw [eq_of_beq member]
      exact other

theorem Alike.not_class {like g : Frame → Bool} {f : Frame} (alike : Alike like f) (cls : isQueueClass g)
    (member : g f = true) {h : Frame} (unlike : like h = false) : g h = false := by
  by_contra other
  rw [alike.of_class cls member (by simpa using other)] at unlike
  cases unlike

theorem not_class_of_refusable {g : Frame → Bool} {f : Frame} (cls : isQueueClass g) (refusable : f.refusable = true) :
    g f = false := by
  obtain rfl | ⟨i, rfl⟩ := cls <;> cases f <;> first | rfl | cases refusable

theorem countP_insertEntry (g : QueueEntry → Bool) (e : QueueEntry) (q : List QueueEntry) :
    (insertEntry e q).countP g = q.countP g + (if g e then 1 else 0) := by
  rw [(insertEntry_perm e q).countP_eq, List.countP_cons]

theorem length_insertEntry (e : QueueEntry) (q : List QueueEntry) : (insertEntry e q).length = q.length + 1 :=
  (insertEntry_perm e q).length_eq

/-- An entry joins a queue without its class, or one of no class, within the limit. -/
theorem QueueBounded.insertEntry {e : QueueEntry} {q : List QueueEntry} (bounded : QueueBounded q)
    (room : q.length < Config.queueLimit)
    (sole : ∀ g, isQueueClass g → g e.frame = true → ∀ x ∈ q, g x.frame = false) :
    QueueBounded (Machine.insertEntry e q) := by
  rw [queueBounded_iff] at bounded ⊢
  obtain ⟨-, classes⟩ := bounded
  refine ⟨by rw [length_insertEntry]; exact room, fun g cls => ?_⟩
  rw [countP_insertEntry]
  split
  · next member =>
    have none : q.countP (fun e => g e.frame) = 0 := List.countP_eq_zero.2 fun x mem => by
      simpa using sole g cls member x mem
    omega
  · exact classes g cls

theorem QueueBounded.sublist {p q : List QueueEntry} (bounded : QueueBounded q) (sub : p.Sublist q) :
    QueueBounded p := by
  rw [queueBounded_iff] at bounded ⊢
  exact ⟨sub.length_le.trans bounded.1, fun g cls => (sub.countP_le).trans (bounded.2 g cls)⟩

/-- A queue of the same frames is bounded as well. -/
theorem QueueBounded.of_frames {p q : List QueueEntry} (bounded : QueueBounded q)
    (same : p.map (·.frame) = q.map (·.frame)) : QueueBounded p := by
  have counts : ∀ g : Frame → Bool, p.countP (fun e => g e.frame) = q.countP (fun e => g e.frame) := by
    intro g
    have byFrames := congrArg (List.countP g) same
    rwa [List.countP_map, List.countP_map] at byFrames
  have lengths : p.length = q.length := by simpa using congrArg List.length same
  obtain ⟨length, bulletins, notices⟩ := bounded
  exact ⟨lengths ▸ length, counts _ ▸ bulletins, fun i => counts _ ▸ notices i⟩

theorem landed_frames (q : List QueueEntry) : (landed q).map (·.frame) = q.map (·.frame) := by
  simp [landed, Function.comp_def]

theorem filter_length_lt {α : Type} {p : α → Bool} {q : List α} {e : α} (mem : e ∈ q)
    (out : p e = false) : (q.filter p).length < q.length := by
  by_contra full
  have all : (q.filter p).length = q.length := le_antisymm (List.length_filter_le p q) (not_lt.1 full)
  rw [List.length_filter_eq_length_iff] at all
  simp [all e mem] at out

theorem queueBounded_rule : LinePort.Rule (fun l => QueueBounded l.queue) where
  bulletins _ _ := id
  queues l like f l' alike queues bounded := by
    have limit := bounded.1
    cases queues with
    | replaced e mem same =>
      have fewer : (l.queue.filter (fun e => !like e.frame)).length < l.queue.length :=
        filter_length_lt mem (by simp [same])
      refine (bounded.sublist List.filter_sublist).insertEntry (by omega) fun g cls member x kept => ?_
      exact alike.not_class cls member (by simpa using List.of_mem_filter kept)
    | placed fresh room =>
      refine bounded.insertEntry room fun g cls member x mem => ?_
      exact alike.not_class cls member (fresh x mem)
    | evicting fresh victim mem =>
      have fewer : (l.queue.filter (fun e => e.place != victim.place)).length < l.queue.length :=
        filter_length_lt mem (by simp)
      refine (bounded.sublist List.filter_sublist).insertEntry (by omega) fun g cls member x kept => ?_
      exact alike.not_class cls member (fresh x (List.mem_of_mem_filter kept))
    | unchanged => exact bounded
  offers l f refusable room bounded := by
    refine bounded.insertEntry room fun g cls member => ?_
    rw [not_class_of_refusable cls refusable] at member
    cases member
  moves l l' moved bounded := by
    cases moved with
    | completed => exact bounded.sublist List.filter_sublist
    | dropped | stuck => exact bounded.of_frames (landed_frames _)
    | _ => exact bounded
  hush _ := id
  alert _ := id

theorem queueBounded_nil : QueueBounded [] := ⟨Nat.zero_le _, Nat.zero_le _, fun _ => Nat.zero_le _⟩

theorem queueBounded_kept : Kept (fun s => QueueBounded s.line.queue) :=
  queueBounded_rule.kept (fun s held => held.of_frames (startSending_frames s))
    (fun s held => held.of_frames (startAtIdle_frames s))
    (fun _ => queueBounded_nil)
    (fun _ held => held.of_frames (landed_frames _))

/-! ## The sending order (R163) -/

theorem before_iff {a b : QueueEntry} :
    a.before b = true ↔
      a.frame.kindValue < b.frame.kindValue ∨ (a.frame.kindValue = b.frame.kindValue ∧ a.place < b.place) := by
  simp [QueueEntry.before]

theorem before_trans {a b c : QueueEntry} (h : a.before b = true) (k : b.before c = true) : a.before c = true := by
  rw [before_iff] at h k ⊢
  omega

theorem before_of_not_before {a b : QueueEntry} (apart : a.place ≠ b.place) (h : ¬a.before b = true) :
    b.before a = true := by
  rw [before_iff] at h ⊢
  omega

theorem inSendingOrder_insertEntry {e : QueueEntry} {q : List QueueEntry} (ordered : InSendingOrder q)
    (apart : ∀ x ∈ q, e.place ≠ x.place) : InSendingOrder (insertEntry e q) := by
  induction q with
  | nil => exact List.pairwise_singleton _ _
  | cons f rest ih =>
    obtain ⟨first, later⟩ := List.pairwise_cons.1 ordered
    unfold insertEntry
    split
    · next front =>
      refine List.pairwise_cons.2 ⟨fun x mem => ?_, ordered⟩
      obtain rfl | mem := List.mem_cons.1 mem
      · exact front
      · exact before_trans front (first x mem)
    · next behind =>
      refine List.pairwise_cons.2 ⟨fun x mem => ?_, ih later fun x mem => apart x (List.mem_cons_of_mem f mem)⟩
      obtain rfl | mem := mem_insertEntry.1 mem
      · exact before_of_not_before (apart f List.mem_cons_self) behind
      · exact first x mem

/-- A queue of the same frames and place times is ordered as well. -/
theorem inSendingOrder_of_places {p q : List QueueEntry}
    (same : p.map (fun e => (e.frame, e.place)) = q.map (fun e => (e.frame, e.place))) (ordered : InSendingOrder q) :
    InSendingOrder p := by
  have byKey : ∀ l : List QueueEntry, InSendingOrder l ↔
      (l.map (fun e => (e.frame, e.place))).Pairwise (fun a b =>
        QueueEntry.before ⟨a.1, a.2, false⟩ ⟨b.1, b.2, false⟩ = true) := by
    intro l
    rw [List.pairwise_map]
    rfl
  rw [byKey] at ordered ⊢
  rwa [same]

/-- The queue of a line port that stands in sending order, its place times distinct and given. -/
structure PlacesGiven (q : List QueueEntry) (placed : Nat) : Prop where
  ordered : InSendingOrder q
  distinct : (q.map (·.place)).Nodup
  given : ∀ e ∈ q, e.place < placed

theorem queueOrdered_iff (l : LinePort) : QueueOrdered l ↔ PlacesGiven l.queue l.placed :=
  ⟨fun ⟨a, b, c⟩ => ⟨a, b, c⟩, fun ⟨a, b, c⟩ => ⟨a, b, c⟩⟩

theorem PlacesGiven.sublist {p q : List QueueEntry} {n : Nat} (h : PlacesGiven q n) (sub : p.Sublist q) :
    PlacesGiven p n :=
  ⟨h.ordered.sublist sub, h.distinct.sublist (sub.map _), fun e mem => h.given e (sub.subset mem)⟩

theorem PlacesGiven.of_places {p q : List QueueEntry} {n : Nat} (h : PlacesGiven q n)
    (same : p.map (fun e => (e.frame, e.place)) = q.map (fun e => (e.frame, e.place))) : PlacesGiven p n := by
  have places : p.map (·.place) = q.map (·.place) := by
    have second := congrArg (List.map Prod.snd) same
    rwa [List.map_map, List.map_map] at second
  refine ⟨inSendingOrder_of_places same h.ordered, places ▸ h.distinct, fun e mem => ?_⟩
  have shown : e.place ∈ q.map (·.place) := places ▸ List.mem_map_of_mem mem
  obtain ⟨x, xmem, eq⟩ := List.mem_map.1 shown
  exact eq ▸ h.given x xmem

/-- An entry of a place time that no other has joins the queue. -/
theorem PlacesGiven.insertEntry {e : QueueEntry} {q : List QueueEntry} {n : Nat} (h : PlacesGiven q n)
    (apart : ∀ x ∈ q, e.place ≠ x.place) (given : e.place < n) : PlacesGiven (Machine.insertEntry e q) n := by
  refine ⟨inSendingOrder_insertEntry h.ordered apart, ?_, fun x mem => ?_⟩
  · rw [((insertEntry_perm e q).map _).nodup_iff, List.map_cons, List.nodup_cons]
    refine ⟨fun mem => ?_, h.distinct⟩
    obtain ⟨x, xmem, same⟩ := List.mem_map.1 mem
    exact apart x xmem same.symm
  · obtain rfl | mem := mem_insertEntry.1 mem
    · exact given
    · exact h.given x mem

/-- The next place time is given to an entry that joins. -/
theorem PlacesGiven.insertNew {f : Frame} {q : List QueueEntry} {n : Nat} (h : PlacesGiven q n) :
    PlacesGiven (Machine.insertEntry ⟨f, n, false⟩ q) (n + 1) := by
  have later : PlacesGiven q (n + 1) := ⟨h.ordered, h.distinct, fun e mem => (h.given e mem).trans (by omega)⟩
  exact later.insertEntry (fun x mem => (h.given x mem).ne') (by show n < n + 1; omega)

theorem landed_places (q : List QueueEntry) :
    (landed q).map (fun e => (e.frame, e.place)) = q.map (fun e => (e.frame, e.place)) := by
  simp [landed, Function.comp_def]

theorem queueOrdered_rule : LinePort.Rule (fun l => PlacesGiven l.queue l.placed) where
  bulletins _ _ := id
  queues l like f l' _ queues held := by
    cases queues with
    | replaced e mem same =>
      refine (held.sublist List.filter_sublist).insertEntry (fun x kept => ?_) (held.given e mem)
      rw [List.mem_filter] at kept
      intro eq
      have sameEntry : e = x := List.inj_on_of_nodup_map held.distinct mem kept.1 eq
      simp [← sameEntry, same] at kept
    | placed => exact held.insertNew
    | evicting => exact (held.sublist List.filter_sublist).insertNew
    | unchanged => exact held
  offers l f _ _ held := held.insertNew
  moves l l' moved held := by
    cases moved with
    | completed => exact held.sublist List.filter_sublist
    | dropped | stuck => exact held.of_places (landed_places _)
    | _ => exact held
  hush _ := id
  alert _ := id

theorem startHead_places (s : State) :
    (startHead s).line.queue.map (fun e => (e.frame, e.place)) = s.line.queue.map (fun e => (e.frame, e.place)) := by
  unfold startHead
  split
  · next queue => simp [queue]
  · rfl

theorem startHeadUnlessTaken_places (s : State) :
    (startHeadUnlessTaken s).line.queue.map (fun e => (e.frame, e.place))
      = s.line.queue.map (fun e => (e.frame, e.place)) := by
  unfold startHeadUnlessTaken
  split
  · rfl
  · exact startHead_places _
  · exact startHead_places s

theorem startSending_places (s : State) :
    (startSending s).line.queue.map (fun e => (e.frame, e.place)) = s.line.queue.map (fun e => (e.frame, e.place)) := by
  unfold startSending
  split
  · rfl
  · split
    · rfl
    · split
      · exact startHeadUnlessTaken_places s
      · rfl

theorem startAtIdle_places (s : State) :
    (startAtIdle s).line.queue.map (fun e => (e.frame, e.place)) = s.line.queue.map (fun e => (e.frame, e.place)) := by
  unfold startAtIdle
  split
  · rfl
  · split
    · rfl
    · split
      · split
        · rfl
        · split
          · exact startHead_places s
          · rfl
      · rfl

theorem startSending_placed (s : State) : (startSending s).line.placed = s.line.placed := by
  obtain ⟨-, -, -, -, -, placed⟩ := startSending_line_eqs s
  exact placed

theorem startAtIdle_placed (s : State) : (startAtIdle s).line.placed = s.line.placed := by
  obtain ⟨-, -, -, -, -, placed, -⟩ := startAtIdle_line_eqs s
  exact placed

theorem queueOrdered_kept : Kept (fun s => QueueOrdered s.line) := by
  have kept : Kept (fun s => PlacesGiven s.line.queue s.line.placed) :=
    queueOrdered_rule.kept (fun s held => startSending_placed s ▸ held.of_places (startSending_places s))
      (fun s held => startAtIdle_placed s ▸ held.of_places (startAtIdle_places s))
      (fun _ => ⟨List.Pairwise.nil, List.nodup_nil, fun _ mem => by cases mem⟩)
      (fun _ held => held.of_places (landed_places _))
  intro s t held answer
  exact (queueOrdered_iff _).2 (kept s t ((queueOrdered_iff _).1 held) answer)

/-! ## The entry in flight (R163, R167) -/

theorem LinePort.FlightAgrees.of_subset {l l' : LinePort} (agrees : l.FlightAgrees) (line : l'.onLine = l.onLine)
    (fewer : l'.queue.countP (·.inFlight) ≤ l.queue.countP (·.inFlight))
    (sub : ∀ e ∈ l'.queue, e.inFlight = true → e ∈ l.queue) : l'.FlightAgrees :=
  ⟨fewer.trans agrees.1, fun e mem flying => line ▸ agrees.2 e (sub e mem flying) flying⟩

/-- With no entry in flight the line port's record of the own frame is open. -/
theorem flightAgrees_of_none {l : LinePort} (none : ∀ e ∈ l.queue, e.inFlight = false) : l.FlightAgrees := by
  refine ⟨?_, fun e mem flying => by simp [none e mem] at flying⟩
  rw [List.countP_eq_zero.2 fun e mem => by simp [none e mem]]
  omega

theorem landed_inFlight {q : List QueueEntry} {e : QueueEntry} (mem : e ∈ landed q) : e.inFlight = false := by
  obtain ⟨x, -, rfl⟩ := List.mem_map.1 mem
  rfl

/-- An entry that is not in flight joins a part of the queue. -/
theorem LinePort.FlightAgrees.insertEntry {l l' : LinePort} (agrees : l.FlightAgrees) {q : List QueueEntry} {f : Frame}
    {place : Nat} (sub : q.Sublist l.queue) (queue : l'.queue = Machine.insertEntry ⟨f, place, false⟩ q)
    (line : l'.onLine = l.onLine) : l'.FlightAgrees := by
  refine agrees.of_subset line ?_ fun e mem flying => ?_
  · rw [queue, countP_insertEntry]
    simpa using sub.countP_le
  · rw [queue] at mem
    obtain rfl | mem := mem_insertEntry.1 mem
    · cases flying
    · exact sub.subset mem

theorem flightAgrees_rule : LinePort.Rule LinePort.FlightAgrees where
  bulletins _ _ := id
  queues l like f l' _ queues agrees := by
    cases queues with
    | replaced e => exact agrees.insertEntry List.filter_sublist rfl rfl
    | placed => exact agrees.insertEntry (List.Sublist.refl _) rfl rfl
    | evicting => exact agrees.insertEntry List.filter_sublist rfl rfl
    | unchanged => exact agrees
  offers l f _ _ agrees := agrees.insertEntry (List.Sublist.refl _) rfl rfl
  moves l l' moved agrees := by
    cases moved with
    | completed => exact flightAgrees_of_none fun e mem => by simpa using List.of_mem_filter mem
    | dropped | stuck => exact flightAgrees_of_none fun _ => landed_inFlight
    | _ => exact agrees
  hush _ := id
  alert _ := id

/-- The head entry takes off where none is in flight. -/
theorem startHead_flight {s : State} (agrees : s.line.FlightAgrees) (free : s.line.onLine = none) :
    (startHead s).line.FlightAgrees := by
  have grounded : ∀ e ∈ s.line.queue, e.inFlight = false := by
    intro e mem
    by_contra flying
    have onLine := agrees.2 e mem (by simpa using flying)
    rw [free] at onLine
    cases onLine
  unfold startHead
  split
  · next e rest queue =>
    rw [queue] at grounded
    have others : rest.countP (·.inFlight) = 0 :=
      List.countP_eq_zero.2 fun x mem => by simp [grounded x (List.mem_cons_of_mem e mem)]
    refine ⟨?_, fun x mem flying => ?_⟩
    · simp [others]
    · obtain rfl | mem := List.mem_cons.1 mem
      · rfl
      · simp [grounded x (List.mem_cons_of_mem e mem)] at flying
  · exact agrees

theorem startHeadUnlessTaken_flight {s : State} (agrees : s.line.FlightAgrees) (free : s.line.onLine = none) :
    (startHeadUnlessTaken s).line.FlightAgrees := by
  unfold startHeadUnlessTaken
  split
  · exact agrees
  · exact startHead_flight (s := s.setLine _) agrees free
  · exact startHead_flight agrees free

theorem lineFree_iff (l : LinePort) :
    lineFree l = true ↔ l.driving = none ∧ l.onLine = none ∧ l.receiver = .quiet := by
  simp [lineFree, and_assoc]

theorem flightAgrees_kept : Kept (fun s => s.line.FlightAgrees) := by
  refine flightAgrees_rule.kept (fun s agrees => ?_) (fun s agrees => ?_)
    (fun _ => flightAgrees_of_none fun _ mem => by cases mem) (fun _ _ => flightAgrees_of_none fun _ => landed_inFlight)
  · unfold startSending
    split
    · exact agrees
    · split
      · exact agrees
      · split
        · next free =>
          have free := (lineFree_iff _).1 (by simp_all : lineFree s.line = true)
          exact startHeadUnlessTaken_flight agrees free.2.1
        · exact agrees
  · unfold startAtIdle
    split
    · exact agrees
    · split
      · exact agrees
      · split
        · next free =>
          have free := (lineFree_iff _).1 free
          split
          · exact agrees
          · split
            · exact startHead_flight agrees free.2.1
            · exact agrees
        · exact agrees

/-! ## Triggers and the line fault (R171, R173) -/

/-- Where the own triggers, the own frame and the line fault stand as they did, they go on agreeing. -/
theorem LinePort.Consistent.congr {l l' : LinePort} (h : l.Consistent) (driving : l'.driving = l.driving)
    (onLine : l'.onLine = l.onLine) (fault : l'.fault = l.fault) (alert : l.alertHeld = true → l'.alertHeld = true)
    (hush : l.hushPending = true → l'.hushPending = true) : l'.Consistent := by
  obtain ⟨ofAlert, ofHush, ofFault⟩ := h
  unfold LinePort.Consistent
  rw [driving, onLine, fault]
  exact ⟨alert ∘ ofAlert, hush ∘ ofHush, ofFault⟩

/-- With nothing driven and no own frame on the line nothing is to agree. -/
theorem consistent_of_silent {l : LinePort} (driving : l.driving = none) (clear : l.fault = true → l.onLine = none) :
    l.Consistent := by
  unfold LinePort.Consistent
  rw [driving]
  exact ⟨(by simp), (by simp), fun fault => ⟨rfl, clear fault⟩⟩

theorem consistent_rule : LinePort.Rule LinePort.Consistent where
  bulletins _ _ h := h
  queues l like f l' _ queues h := by
    cases queues <;> exact h
  offers _ _ _ _ h := h
  moves l l' moved h := by
    have clear : l.fault = true → l.onLine = none := fun fault => (h.2.2 fault).2
    cases moved with
    | receiver | refresh => exact h
    | completed | dropped =>
      exact ⟨h.1, h.2.1, fun fault => ⟨(h.2.2 fault).1, rfl⟩⟩
    | stuck => exact consistent_of_silent rfl fun _ => rfl
    | cleared => exact ⟨h.1, h.2.1, fun fault => by cases fault⟩
    | alertDriven | hushDriven | hushLost => exact consistent_of_silent rfl clear
  hush l h := h.congr rfl rfl rfl id fun _ => rfl
  alert l h := h.congr rfl rfl rfl (fun _ => rfl) id

theorem startAlert_consistent {s : State} (clear : ¬s.line.fault = true) (starts : alertStarts s.line = true) :
    (startAlert s).line.Consistent := by
  have held : s.line.alertHeld = true := by simp_all [alertStarts]
  exact ⟨fun _ => held, by simp [startAlert], fun fault => absurd fault clear⟩

theorem startHead_consistent {s : State} (h : s.line.Consistent) (clear : ¬s.line.fault = true) :
    (startHead s).line.Consistent := by
  unfold startHead
  split
  · exact ⟨h.1, h.2.1, fun fault => absurd fault clear⟩
  · exact h

theorem startHeadUnlessTaken_consistent {s : State} (h : s.line.Consistent) (clear : ¬s.line.fault = true) :
    (startHeadUnlessTaken s).line.Consistent := by
  unfold startHeadUnlessTaken
  split
  · exact h
  · exact startHead_consistent (s := s.setLine _) h clear
  · exact startHead_consistent h clear

theorem consistent_kept : Kept (fun s => s.line.Consistent) := by
  refine consistent_rule.kept (fun s h => ?_) (fun s h => ?_) (fun _ => consistent_of_silent rfl fun _ => rfl)
    (fun l _ => consistent_of_silent rfl fun _ => rfl)
  · unfold startSending
    split
    · exact h
    · next clear =>
      split
      · next starts => exact startAlert_consistent clear starts
      · split
        · exact startHeadUnlessTaken_consistent h clear
        · exact h
  · unfold startAtIdle
    split
    · exact h
    · next clear =>
      split
      · next starts => exact startAlert_consistent clear starts
      · split
        · split
          · next hush => exact ⟨by simp, fun _ => hush, fun fault => absurd fault clear⟩
          · split
            · exact startHead_consistent h clear
            · exact h
        · exact h

/-! ## The held station (R176) -/

/-! ## The unstrapped station (R183) -/

/-- Nothing of the station's own is on the line, and nothing is asked of it (R183). -/
def State.Silent (s : State) : Prop :=
  s.line.onLine = none ∧ s.line.driving = none ∧ s.line.alertHeld = false ∧ s.line.hushPending = false
    ∧ s.control.alertPending = false

/-- The station's number stands, and an unstrapped station that was silent is silent (R183). -/
def KeepsSilence (s t : State) : Prop :=
  t.loader.station = s.loader.station ∧ (s.loader.station = 0 → s.Silent → t.Silent)

theorem strapped_eq_true {s : State} : strapped s = true ↔ s.loader.station ≠ 0 := by simp [strapped]

theorem keepsSilence_of_strapped (number : t.loader.station = s.loader.station) (numbered : strapped s = true) :
    KeepsSilence s t :=
  ⟨number, fun none => absurd none (strapped_eq_true.1 numbered)⟩

theorem keepsSilence_of_line {l : LinePort} (silent : s.Silent → (s.setLine l).Silent) : KeepsSilence s (s.setLine l) :=
  ⟨rfl, fun _ => silent⟩

theorem silent_congr (onLine : t.line.onLine = s.line.onLine) (driving : t.line.driving = s.line.driving)
    (alert : t.line.alertHeld = s.line.alertHeld) (hush : t.line.hushPending = s.line.hushPending)
    (mark : t.control.alertPending = s.control.alertPending) (h : s.Silent) : t.Silent := by
  unfold State.Silent at h ⊢
  rwa [onLine, driving, alert, hush, mark]

theorem queueReplacing_keepsSilence (like : Frame → Bool) (f : Frame) (s : State) :
    KeepsSilence s (queueReplacing like f s) := by
  obtain ⟨-, onLine, driving, alert, hush, -⟩ := queueReplacing_line_eqs s like f
  have frame := queueReplacing_keeps s like f
  exact ⟨congrArg _ frame.loader_eq, fun _ => silent_congr onLine driving alert hush (congrArg _ frame.control_eq)⟩

theorem keepsSilence_rule : LineRule KeepsSilence where
  trans := fun ⟨number, silent⟩ ⟨number', silent'⟩ =>
    ⟨number'.trans number, fun none h => silent' (number.trans none) (silent none h)⟩
  outside := by
    intro c s t frame clear
    have out : ∀ b ∈ [Block.line, .counters, .control, .loader], b ∉ c :=
      fun b read mem => absurd read (by simpa using List.all_eq_true.1 clear b mem)
    have line := frame.line_eq (out _ (by decide))
    have control := frame.control_eq (out _ (by decide))
    have loader := frame.loader_eq (out _ (by decide))
    refine ⟨by rw [loader], fun _ h => ?_⟩
    unfold State.Silent at h ⊢
    rwa [line, control]
  control s x mark := ⟨rfl, fun _ => silent_congr rfl rfl rfl rfl mark⟩
  loader s x station := ⟨station, fun _ h => h⟩
  bulletin s := queueReplacing_keepsSilence _ _ (s.setLine { s.line with bulletins := s.line.bulletins + 1 })
  notice count n s := queueReplacing_keepsSilence _ _ s
  offer f s _ := by
    unfold offerFrame
    split <;> exact ⟨rfl, fun _ h => h⟩
  count s x _ := ⟨rfl, fun _ h => h⟩
  line s l moved := by
    refine keepsSilence_of_line fun h => ?_
    obtain ⟨onLine, driving, alert, hush, mark⟩ := h
    cases moved with
    | receiver | refresh | cleared => exact ⟨onLine, driving, alert, hush, mark⟩
    | completed | dropped => exact ⟨rfl, driving, alert, hush, mark⟩
    | stuck => exact ⟨rfl, rfl, alert, hush, mark⟩
    | alertDriven => exact ⟨onLine, rfl, rfl, hush, mark⟩
    | hushDriven => exact ⟨onLine, rfl, alert, rfl, mark⟩
    | hushLost => exact ⟨onLine, rfl, alert, hush, mark⟩
  hushKey s numbered := keepsSilence_of_strapped rfl numbered
  alert s numbered := keepsSilence_of_strapped rfl numbered
  alertMark s numbered := keepsSilence_of_strapped rfl numbered
  alertServed s pending := ⟨rfl, fun _ h => by
    obtain ⟨-, -, -, -, mark⟩ := h
    simp [mark] at pending⟩

/-- With no Alert held, no Hush asked for and no number to send under, nothing is started (R183). -/
theorem startSending_silent (none : s.loader.station = 0) (h : s.Silent) : startSending s = s := by
  obtain ⟨-, -, alert, -, -⟩ := h
  simp [startSending, alertStarts, alert, hasToSend, strapped, none]

theorem startAtIdle_silent (none : s.loader.station = 0) (h : s.Silent) : startAtIdle s = s := by
  obtain ⟨-, -, alert, hush, -⟩ := h
  simp [startAtIdle, alertStarts, alert, hush, hasToSend, strapped, none]

theorem settle_keepsSilence (s : State) : KeepsSilence s (settle s) := by
  refine ⟨by rw [settle_loader], fun none h => ?_⟩
  rw [settle, startSending_silent none h]
  exact h

theorem endingOf_keepsSilence (i : Instr) (s : State) : KeepsSilence s (endingOf i s) := by
  unfold endingOf
  split
  · refine ⟨congrArg _ (settleAtIdle_keeps s).loader_eq, fun none h => ?_⟩
    rw [settleAtIdle, startAtIdle_silent none h]
    exact h
  all_goals first | exact settle_keepsSilence s | exact ⟨rfl, fun _ h => h⟩

/-- Silence is kept over a run of moves and over the end of a command. -/
theorem unstrappedSilent_congr (kept : KeepsSilence s t) (silent : s.loader.station = 0 → s.Silent) :
    UnstrappedSilent t := by
  obtain ⟨number, kept⟩ := kept
  exact fun _ none => kept (number ▸ none) (silent (number ▸ none))

/-- Settles O56: a running unstrapped station keeps silent over every move, since each request to drive asks for a
number; a station that begins to run was held at reset, with nothing on the line. -/
theorem unstrappedStationNeverDrives : Obligations.UnstrappedStationNeverDrives := by
  have r := keepsSilence_rule
  refine kept_from_reset (fun _ _ => id) (fun s running => by cases running) (fun s running => by cases running)
    ?_ (fun s _ running => by cases running) ?_
  · intro pins s holding held _
    refine unstrappedSilent_congr (r.trans (r.run (resetEnd_run pins s)) (settle_keepsSilence _)) fun _ => ?_
    rw [held holding]
    exact ⟨rfl, rfl, rfl, rfl, rfl⟩
  · intro i s running silent
    exact unstrappedSilent_congr (r.trans (r.event i s) (endingOf_keepsSilence i _)) (silent running)

end Sys2Proof.Machine
end


section
/-! SUPPORT. The counters over a step (R187), and the statements about the queue of commands, the resets and the
reset state. -/

namespace Sys2Proof.Machine

variable {s t u : State}

/-! ## The counters (R187) -/

/-- No counter of the first stands above the second's (R187). -/
def Counters.Below (c d : Counters) : Prop :=
  c.invalidScan ≤ d.invalidScan ∧ c.duplicate ≤ d.duplicate ∧ c.overflow ≤ d.overflow
    ∧ c.correctedHeader ≤ d.correctedHeader ∧ c.discardedHeader ≤ d.discardedHeader
    ∧ c.discardedFrame ≤ d.discardedFrame ∧ c.refusedFrames ≤ d.refusedFrames
    ∧ c.arbitrationLost ≤ d.arbitrationLost ∧ c.bitError ≤ d.bitError ∧ c.abortedByBreak ≤ d.abortedByBreak
    ∧ c.stuckLine ≤ d.stuckLine

theorem Counters.Below.refl (c : Counters) : c.Below c :=
  ⟨le_rfl, le_rfl, le_rfl, le_rfl, le_rfl, le_rfl, le_rfl, le_rfl, le_rfl, le_rfl, le_rfl⟩

theorem Counters.Below.trans {c d e : Counters} (h : c.Below d) (k : d.Below e) : c.Below e := by
  unfold Counters.Below at *
  omega

theorem satInc_le_ceiling (n : Nat) : satInc n ≤ ceiling16 := by
  unfold satInc
  split <;> omega

theorem le_satInc {n : Nat} (bound : n ≤ ceiling16) : n ≤ satInc n := by
  unfold satInc
  split <;> omega

/-- Within the ceiling the counters climb, and the ceiling holds. -/
def Climbs (s t : State) : Prop := s.counters.Bounded → t.counters.Bounded ∧ s.counters.Below t.counters

theorem climbs_of_same (same : t.counters = s.counters) : Climbs s t := fun bounded => by
  rw [same]
  exact ⟨bounded, .refl _⟩

theorem climbs_of_advance {x : Counters} (advance : s.counters.Advances x) : Climbs s (s.setCounters x) := by
  intro bounded
  rw [State.setCounters_counters]
  unfold Counters.Bounded Counters.Below at *
  cases advance <;> (have := fun n => satInc_le_ceiling n; have := @le_satInc; simp_all)

theorem Climbs.trans (h : Climbs s t) (k : Climbs t u) : Climbs s u := fun bounded =>
  have ⟨between, first⟩ := h bounded
  have ⟨after, second⟩ := k between
  ⟨after, first.trans second⟩

theorem climbs_of_keeps {c : List Block} (h : SameOutside c s t) (clear : Block.counters ∉ c) : Climbs s t :=
  climbs_of_same (h.counters_eq clear)

theorem countRefused_climbs (s : State) : Climbs s (countRefused s) := climbs_of_advance .refusedFrames

theorem placeNew_climbs (f : Frame) (s : State) : Climbs s (placeNew f s) :=
  climbs_of_keeps (setLine_keeps s _) (by decide)

theorem queueReplacing_climbs (like : Frame → Bool) (f : Frame) (s : State) : Climbs s (queueReplacing like f s) := by
  unfold queueReplacing
  split
  · exact climbs_of_same rfl
  · split
    · exact placeNew_climbs f s
    · split
      · refine Climbs.trans ?_ (placeNew_climbs f _)
        exact (climbs_of_keeps (setLine_keeps s _) (by decide)).trans (countRefused_climbs _)
      · exact climbs_of_same rfl

theorem climbs_rule : LineRule Climbs where
  trans := Climbs.trans
  outside h clear := climbs_of_keeps h fun mem => absurd (List.all_eq_true.1 clear _ mem) (by decide)
  control s x _ := climbs_of_same rfl
  loader s x _ := climbs_of_same rfl
  bulletin s :=
    (climbs_of_keeps (setLine_keeps s { s.line with bulletins := s.line.bulletins + 1 }) (by decide)).trans
      (queueReplacing_climbs _ _ _)
  notice count n s := queueReplacing_climbs _ _ s
  offer f s _ := by
    unfold offerFrame
    split
    · exact countRefused_climbs s
    · exact placeNew_climbs f s
  count s x advance := climbs_of_advance advance
  line s l _ := climbs_of_same rfl
  hushKey s _ := climbs_of_same rfl
  alert s _ := climbs_of_same rfl
  alertMark s _ := climbs_of_same rfl
  alertServed s _ := climbs_of_same rfl

theorem countCut_climbs (wire : List Byte) (s : State) : Climbs s (countCut wire s) := by
  unfold countCut
  split
  · exact climbs_of_advance .correctedHeader
  · exact climbs_of_same rfl

/-- A step that is no power-on reset lets the counters climb. -/
theorem step_climbs (other : s.pending.head? ≠ some .powerOnReset) (answer : step s = .next t) : Climbs s t := by
  have r := climbs_rule
  refine step_rel r.toWatches (by decide) (fun command => absurd command other) ?_ ?_ ?_ ?_ answer
  · exact fun wire v => (countCut_climbs wire v).trans (climbs_of_same rfl)
  · intro pins v _
    have pinsRead : Climbs v (readPins pins (v.setPower .running)) := climbs_of_same rfl
    exact (pinsRead.trans (r.run (resetEnd_run pins v))).trans (climbs_of_keeps (settle_keeps _) (by decide))
  · exact fun v => climbs_of_keeps (losePower_keeps v) (by decide)
  · exact fun i v _ => (r.event i v).trans (climbs_of_keeps (endingOf_keeps i _) (by decide))

/-- Settles O57: every move lets the counters climb within the ceiling, and only POWER_ON_RESET sets them to zero. -/
theorem countersNeverFall : Obligations.CountersNeverFall := by
  refine ⟨fun s t bounded answer => ?_, fun s t bounded other answer => (step_climbs other answer bounded).2⟩
  by_cases reset : s.pending.head? = some .powerOnReset
  · obtain ⟨rest, queue⟩ := List.head?_eq_some_iff.1 reset
    simp only [step, queue] at answer
    cases answer
    simp [Counters.Bounded, resetState, State.reset, Counters.zero]
  · exact (step_climbs reset answer bounded).1

/-! ## The queue of commands -/

/-- Settles O1. -/
theorem stepRunsFrontCommand : Obligations.StepRunsFrontCommand := by
  constructor
  · intro s c rest queue
    rw [step, queue]
  · intro s queue
    rw [step, queue]

/-- No case of a command touches what is left of the queue of commands (log entry 38). -/
theorem StepCase.pending {front : Option Instr} (stepped : StepCase front s t) : t.pending = s.pending := by
  cases stepped with
  | still => rfl
  | powerOn => rfl
  | pin wire => exact (countCut_keeps s wire).pending_eq
  | resetEnd pins =>
    rw [resetEndState, settle_pending, (startScan_keeps _ _ _).pending_eq]
    rfl
  | loss => exact (losePower_keeps s).pending_eq
  | event i => exact ((endingOf_keeps i _).pending_eq).trans (workOf_pending i s)

/-- Every command answers a next state. -/
theorem exec_answers (i : Instr) (s : State) : ∃ t, exec i s = .next t := by
  cases supply : isSupplyEvent i with
  | false =>
    rw [exec_event supply]
    split <;> exact ⟨_, rfl⟩
  | true =>
    cases i with
    | powerOnReset => exact ⟨_, rfl⟩
    | pinReset wire =>
      change ∃ t, execPinReset s wire = .next t
      unfold execPinReset
      split <;> exact ⟨_, rfl⟩
    | resetEnd pins =>
      change ∃ t, execResetEnd pins s = .next t
      unfold execResetEnd
      split <;> exact ⟨_, rfl⟩
    | supplyLoss => exact ⟨_, rfl⟩
    | _ => cases supply

/-- Settles O2: each command is a reset, a supply event or an event of a running station, and none of them reads the
queue. -/
theorem everyCommandAnswers : Obligations.EveryCommandAnswers := by
  constructor
  · intro i s
    obtain ⟨t, answer⟩ := exec_answers i s
    exact ⟨t, answer, (exec_cases answer).pending⟩
  · intro i s still powerOn pin loss resetEnd
    refine exec_not_running ?_ still
    cases i with
    | powerOnReset => exact absurd rfl powerOn
    | pinReset wire => exact absurd rfl (pin wire)
    | resetEnd pins => exact absurd rfl (resetEnd pins)
    | supplyLoss => exact absurd rfl loss
    | _ => rfl

/-! ## The resets -/

/-- Settles O3. -/
theorem resetsStartEveryBlock : Obligations.ResetsStartEveryBlock := by
  intro wire s
  refine ⟨⟨_, rfl, rfl, rfl, rfl, rfl⟩, fun supplied => ⟨pinResetState (countCut wire s), ?_, ?_, rfl⟩, fun off => ?_, ?_⟩
  · exact if_neg supplied
  · have frame := countCut_keeps s wire
    rw [pinResetState, resetState, countCut_counters, frame.pending_eq, frame.freeUsed_eq, frame.line_eq]
    rfl
  · exact if_pos off
  · exact ⟨losePower s, rfl, (losePower_keeps s).widen (by decide), rfl, rfl, rfl, rfl, rfl⟩

/-! ## The reset state -/

theorem leaf_reset (n : Fin 4) : State.reset.doors.leaves.get n = Leaf.atReset := by
  revert n
  decide

theorem slot_reset (i : Fin 8) : State.reset.calls.slots.get i = Slot.atReset := by
  revert i
  decide

/-- Nothing is queued, in flight or asked for after a reset (R175). -/
theorem line_reset : QueueOrdered State.reset.line ∧ State.reset.line.FlightAgrees ∧ State.reset.line.Consistent := by
  refine ⟨⟨?_, ?_, ?_⟩, ⟨?_, ?_⟩, ?_⟩
  all_goals simp [State.reset, LinePort.atReset, InSendingOrder, LinePort.Consistent]

/-- Every slot is Free and no source waits after a reset (R125). -/
theorem calls_reset :
    OneCallPerSource State.reset.calls ∧ ∀ i : Fin 8, (State.reset.calls.slots.get i).InForm := by
  have closed : ∀ i : Fin 8, (State.reset.calls.slots.get i).isOpen ≠ true := fun i => by
    rw [slot_reset]
    decide
  refine ⟨⟨fun i j isOpen => absurd isOpen (closed i), List.nodup_nil, fun i isOpen => absurd isOpen (closed i)⟩, ?_⟩
  intro i
  rw [slot_reset]
  exact ⟨rfl, rfl⟩

/-- The board is empty, no key is down and nothing is selected after a reset (R143). -/
theorem post_reset :
    BoardInForm State.reset.post.board ∧ State.reset.post.PanelAgrees ∧ State.reset.post.SelectionAgrees := by
  refine ⟨⟨Nat.zero_le _, List.nodup_nil⟩, fun role => ?_, fun lit => ?_, fun st sl held => ?_⟩
  · cases role
  · cases lit
  · cases held

/-- Every leaf is a provisional record at rest after a reset (R102). -/
theorem doors_reset :
    LocksAgree State.reset ∧ LocksMeetDemand State.reset ∧ PropsAgree State.reset ∧ BoltsTimed State.reset := by
  refine ⟨fun n => ?_, fun n c exitDoor links role => ?_, fun n => ?_, fun running => ?_⟩
  · rw [leaf_reset]
    decide
  · rw [leaf_reset] at role
    cases role
  · rw [leaf_reset]
    decide
  · cases running

/-- There is no way out after a reset (R79). -/
theorem route_reset :
    State.reset.route.InForm ∧ exitWeight State.reset ≤ 15 ∧ RouteFollows State.reset ∧ RouteInputsAgree State.reset := by
  refine ⟨.inr ⟨rfl, rfl, rfl⟩, Nat.zero_le _, ⟨rfl, by decide, by decide⟩, Nat.zero_le _, fun _ => ⟨rfl, rfl⟩, ?_⟩
  intro n c exitDoor links role
  rw [leaf_reset] at role
  cases role

/-- No hazard is known and nothing is blind after a reset, and the posture is Startup (R24, R43). -/
theorem hazard_reset :
    FireInEvacuate State.reset ∧ State.reset.control.FireSetInEvacuate ∧ ZoneAgrees State.reset
      ∧ State.reset.control.BaseAgrees ∧ BlindAgrees State.reset := by
  refine ⟨(fun fire => by cases fire), fun set => absurd rfl set, rfl, ⟨?_, ?_, ?_⟩, ?_⟩
  · exact fun day => by cases day
  · exact fun night => by cases night
  · exact fun mark => by cases mark
  · unfold BlindAgrees
    decide +revert

/-- The lamps show the placeholder and Steady after a reset, and the sounder is off (R158). -/
theorem lamp_reset : BrightnessAgrees State.reset ∧ SoundAgrees State.reset ∧ LampFollows State.reset := by
  refine ⟨rfl, rfl, fun evacuate => ?_, fun _ => ⟨rfl, fun exit => ?_, fun j e next => ?_⟩, fun _ => ⟨rfl, rfl, rfl⟩⟩
  · cases evacuate
  · cases exit
  · cases next

theorem unstrappedSilent_reset : UnstrappedSilent State.reset := fun running => by cases running

theorem counters_reset : State.reset.counters.Bounded := by simp [Counters.Bounded, State.reset, Counters.zero]

/-- Settles O58, block by block. -/
theorem resetMeetsTheInvariants : Obligations.ResetMeetsTheInvariants := by
  obtain ⟨routeForm, weight, follows, inputs⟩ := route_reset
  obtain ⟨fire, fireSet, zone, base, blind⟩ := hazard_reset
  obtain ⟨locks, meets, props, bolts⟩ := doors_reset
  obtain ⟨oneCall, slots⟩ := calls_reset
  obtain ⟨ordered, flight, consistent⟩ := line_reset
  obtain ⟨brightness, sound, lamp⟩ := lamp_reset
  obtain ⟨board, panel, selection⟩ := post_reset
  have noEntries : State.reset.peers.entries = [] := rfl
  refine ⟨routeForm, weight, queueBounded_nil, fire, fireSet, fun _ => rfl, locks, oneCall, unstrappedSilent_reset,
    counters_reset, ?_, ?_, ordered, flight, consistent, zone, base, brightness, sound, props, bolts, rfl, slots,
    board, panel, selection, follows, inputs, meets, blind, lamp⟩
  · simp [noEntries]
  · simp [HeardHopsBounded, noEntries]

end Sys2Proof.Machine
end


section
/-! SUPPORT. What the moves make of the calls (chapter 6), and the proofs that each source has one call and that every
slot is in form. -/

namespace Sys2Proof.Machine

variable {c : List Block} {s t u : State}

/-! ## The changes of the calls -/

/-- What an operation makes of the calls: a call is raised for a source that has none, in a slot or in the place of
another whose source may wait; a pending source is served; a source waits; a slot's call is restated, closed or grows
older; pending flags are dropped; the inputs and the key stand aside (R106 to R123). -/
inductive Calls.Moves (c : Calls) : Calls → Prop
  | raised (i : Fin 8) (src : Source) (sl : Slot) (isOpen : sl.isOpen = true) (source : sl.source = some src)
      (form : sl.InForm) (sole : ∀ j, (c.slots.get j).isOpen = true → (c.slots.get j).source ≠ some src)
      (fresh : src ∉ c.pending) : Calls.Moves c { c with slots := c.slots.set i sl }
  | displacing (i : Fin 8) (src : Source) (sl : Slot) (isOpen : sl.isOpen = true) (source : sl.source = some src)
      (form : sl.InForm) (sole : ∀ j, (c.slots.get j).isOpen = true → (c.slots.get j).source ≠ some src)
      (fresh : src ∉ c.pending) (old : Source) (was : (c.slots.get i).isOpen = true)
      (displaced : (c.slots.get i).source = some old) (apart : old ∉ c.pending) :
      Calls.Moves c { c with slots := c.slots.set i sl, pending := c.pending ++ [old] }
  | served (i : Fin 8) (src : Source) (sl : Slot) (isOpen : sl.isOpen = true) (source : sl.source = some src)
      (form : sl.InForm) (waits : src ∈ c.pending) :
      Calls.Moves c { c with slots := c.slots.set i sl, pending := c.pending.filter (· != src) }
  | waits (src : Source) (sole : ∀ j, (c.slots.get j).isOpen = true → (c.slots.get j).source ≠ some src)
      (fresh : src ∉ c.pending) : Calls.Moves c { c with pending := c.pending ++ [src] }
  | restated (i : Fin 8) (sl : Slot) (isOpen : (c.slots.get i).isOpen = true) (stays : sl.isOpen = true)
      (source : sl.source = (c.slots.get i).source) (kind : sl.kind = (c.slots.get i).kind)
      (timer : sl.repeatTimer.isSome = true) : Calls.Moves c { c with slots := c.slots.set i sl }
  | closed (i : Fin 8) : Calls.Moves c { c with slots := c.slots.set i (c.slots.get i).closed }
  | dropped (which : Source → Bool) : Calls.Moves c { c with pending := c.pending.filter which }
  | aside (inputs : Six Input) (on : Bool) : Calls.Moves c { c with inputs := inputs, grsOn := on }
  | older : Calls.Moves c { c with slots := c.slots.map Slot.older }

theorem raisedSlot_isOpen (s : State) (i : Fin 8) (src : Source) : (raisedSlot s i src).isOpen = true := rfl

theorem raisedSlot_inForm (s : State) (i : Fin 8) (src : Source) : (raisedSlot s i src).InForm := ⟨rfl, rfl, rfl⟩

/-- A property of the calls that each of their changes keeps. -/
structure Calls.Rule (P : Calls → Prop) : Prop where
  moves : ∀ c d, Calls.Moves c d → P c → P d

namespace Calls.Rule

variable {P : Calls → Prop}

theorem watches (_ : Calls.Rule P) : Watches [.calls] fun s t => P s.calls → P t.calls where
  trans h k := k ∘ h
  outside h clear := fun held => by
    rw [h.calls_eq fun mem => absurd (List.all_eq_true.1 clear _ mem) (by decide)]
    exact held

variable (r : Calls.Rule P)
include r

theorem raiseCall {src : Source} (new : hasCall s src = false) (held : P s.calls) :
    P (Machine.raiseCall src s).calls := by
  obtain ⟨sole, fresh⟩ := hasCall_eq_false_iff.1 new
  cases free : freeSlot s with
  | some i =>
    rw [raiseCall_of_free free, raiseInto_calls]
    exact r.moves _ _ (.raised i src _ (raisedSlot_isOpen ..) rfl (raisedSlot_inForm ..) sole fresh) held
  | none =>
    cases evicted : evictedSlot s (kindOf s src).rank with
    | none =>
      rw [raiseCall_of_none free evicted, setPendingFlag_calls, if_neg fresh]
      exact r.moves _ _ (.waits src sole fresh) held
    | some i =>
      rw [raiseCall_of_evicted free evicted, raiseInto_calls]
      obtain same | ⟨old, source, apart, same⟩ :=
        pendIfAsserted_cases (s.calls.slots.get i).source (queueCleared i s) <;> rw [same]
      · rw [queueCleared_calls]
        exact r.moves _ _ (.raised i src _ (raisedSlot_isOpen ..) rfl (raisedSlot_inForm ..) sole fresh) held
      · rw [queueCleared_calls] at apart ⊢
        exact r.moves _ _ (.displacing i src _ (raisedSlot_isOpen ..) rfl (raisedSlot_inForm ..) sole fresh old
          (outranked_isOpen (evictedSlot_spec evicted)) source apart) held

theorem requestCall (src : Source) (s : State) (held : P s.calls) : P (Machine.requestCall src s).calls := by
  cases new : hasCall s src with
  | true => rwa [requestCall_of_hasCall new]
  | false =>
    rw [requestCall_of_new new]
    exact r.raiseCall new held

theorem requestMotion (s : State) : P s.calls → P (Machine.requestMotion s).calls :=
  r.watches.foldl _ (fun u i => r.watches.ite (r.requestCall (.input i) u) (r.watches.refl u)) allSix s

theorem setLeaves (new : Four Leaf) (s : State) : P s.calls → P (Machine.setLeaves new s).calls := by
  have w := r.watches
  unfold Machine.setLeaves
  dsimp only
  have requests : ∀ n old lf u, P u.calls → P (leafRequests n old lf u).calls := fun n old lf u =>
    w.trans (w.ite (r.requestCall _ u) (w.refl u)) (w.ite (r.requestCall _ _) (w.refl _))
  refine w.trans (w.trans (w.outside (setDoors_keeps s { s.doors with leaves := new }) rfl)
    (w.foldl (fun u n => leafRequests n (s.doors.leaves.get n) (new.get n) u) (fun u n => requests n _ _ u) allFour _)) ?_
  exact w.ite (w.outside (computeRoute_keeps _) rfl) (w.refl _)

theorem setPosture (p : Posture) (b : Base) (s : State) : P s.calls → P (Machine.setPosture p b s).calls := by
  have w := r.watches
  unfold Machine.setPosture
  dsimp only
  refine w.ite (w.refl s) (w.trans ?_ (w.outside (queueBulletin_keeps _) rfl))
  refine w.trans (w.trans (w.outside (setControl_keeps s { s.control with posture := p, base := b }) rfl)
    (r.setLeaves _ _)) (w.ite (w.refl _) ?_)
  exact w.trans (w.ite (r.requestMotion _) (w.refl _)) (w.outside (lampTakePosture_keeps _) rfl)

/-- Such a property is kept by every move. -/
theorem move (m : Move c s t) : P s.calls → P t.calls := by
  have w := r.watches
  have frame := m.outside
  cases m with
  | request src => exact r.requestCall src s
  | serve src i _ free waits =>
    rw [raiseInto_calls]
    exact r.moves _ _ (.served i src _ (raisedSlot_isOpen ..) rfl (raisedSlot_inForm ..) waits)
  | close i =>
    rw [closeSlot_calls]
    exact r.moves _ _ (.closed i)
  | announce i _ isOpen =>
    rw [announce_calls]
    exact r.moves _ _ (.restated i _ isOpen isOpen rfl rfl rfl)
  | take i sender _ isOpen =>
    rw [announce_calls]
    simp only [State.setSlot, State.setCalls_calls, Eight.set_set, Eight.get_set_self]
    exact r.moves _ _ (.restated i _ isOpen rfl rfl rfl rfl)
  | dropPending which => exact r.moves _ _ (.dropped _)
  | input i x => exact r.moves _ _ (.aside _ s.calls.grsOn)
  | galleryKey on => exact r.moves _ _ (.aside s.calls.inputs on)
  | posture p b => exact r.setPosture p b s
  | restored =>
    exact w.trans (w.outside (setControl_keeps s
      { s.control with fireSet := [], hushed := false, provisionalBase := false }) rfl) (r.setPosture _ _ _)
  | leaf n => exact r.setLeaves _ s
  | second => exact r.moves _ _ .older
  | _ => exact w.outside frame rfl

/-- Such a property that holds at a reset's start is kept by every step. -/
theorem kept (reset : P Calls.atReset) : Kept (fun s => P s.calls) := by
  intro s t held answer
  have w := r.watches
  have run : ∀ {s t}, Run s t → P s.calls → P t.calls := fun ran => ran.rel w fun _ _ _ m => r.move m
  refine step_rel w (by decide) (fun _ _ _ => reset) (fun _ _ _ => reset) ?_ ?_ ?_ answer held
  · intro pins v _
    refine w.trans (t := readPins pins (v.setPower .running)) (r.moves _ _ (.aside _ _)) ?_
    exact w.trans (run (resetEnd_run pins v)) (w.outside (settle_keeps _) rfl)
  · exact fun v => w.outside (losePower_keeps v) rfl
  · exact fun i v _ => w.trans (w.workOf rfl (fun _ _ _ m => r.move m) i v) (w.outside (endingOf_keeps i _) rfl)

end Calls.Rule

/-! ## Each source has one call (R106) -/

/-- An open call that takes a slot is the only one of its source. -/
theorem slots_sole_set {v : Eight Slot} {i : Fin 8} {sl : Slot}
    (sole : ∀ a b : Fin 8, (v.get a).isOpen = true → (v.get b).isOpen = true → (v.get a).source = (v.get b).source → a = b)
    (apart : sl.isOpen = true → ∀ j, j ≠ i → (v.get j).isOpen = true → (v.get j).source ≠ sl.source) :
    ∀ a b : Fin 8, ((v.set i sl).get a).isOpen = true → ((v.set i sl).get b).isOpen = true →
      ((v.set i sl).get a).source = ((v.set i sl).get b).source → a = b := by
  intro a b
  rw [Eight.get_set, Eight.get_set]
  by_cases ai : a = i <;> by_cases bi : b = i <;> simp only [ai, bi, if_true, if_false]
  · exact fun _ _ _ => trivial
  · exact fun isOpen other same => absurd same.symm (apart isOpen b bi other)
  · exact fun other isOpen same => absurd same (apart isOpen a ai other)
  · exact sole a b

theorem oneCall_rule : Calls.Rule OneCallPerSource where
  moves c d moved := by
    rintro ⟨sole, nodup, apart⟩
    cases moved with
    | raised i src sl isOpen source form free fresh =>
      refine ⟨slots_sole_set sole fun _ j _ other => source ▸ free j other, nodup, fun j => ?_⟩
      simp only [Eight.get_set]
      split
      · exact fun _ x mem same => fresh (Option.some.inj (source.symm.trans same) ▸ mem)
      · exact apart j
    | displacing i src sl isOpen source form free fresh old was displaced new =>
      refine ⟨slots_sole_set sole fun _ j _ other => source ▸ free j other, ?_, fun j => ?_⟩
      · exact List.nodup_append.2 ⟨nodup, List.nodup_singleton _, fun x mem y one => by
          rintro rfl
          exact new (List.mem_singleton.1 one ▸ mem)⟩
      · simp only [Eight.get_set, List.mem_append, List.mem_singleton]
        split
        · rintro - x (mem | rfl) same
          · exact fresh (Option.some.inj (source.symm.trans same) ▸ mem)
          · exact free i was (displaced.trans (same.symm.trans source))
        · next other =>
          rintro stays x (mem | rfl) same
          · exact apart j stays x mem same
          · exact other (sole j i stays was (same.trans displaced.symm))
    | served i src sl isOpen source form waits =>
      refine ⟨slots_sole_set sole fun _ j _ other => source ▸ apart j other src waits, nodup.filter _, fun j => ?_⟩
      simp only [Eight.get_set, List.mem_filter, bne_iff_ne]
      split
      · exact fun _ x ⟨_, other⟩ same => other (Option.some.inj (same.symm.trans source))
      · exact fun stays x ⟨mem, _⟩ => apart j stays x mem
    | waits src free fresh =>
      refine ⟨sole, ?_, fun j stays x mem => ?_⟩
      · exact List.nodup_append.2 ⟨nodup, List.nodup_singleton _, fun x mem y one => by
          rintro rfl
          exact fresh (List.mem_singleton.1 one ▸ mem)⟩
      · obtain mem | rfl := List.mem_append.1 mem |>.imp_right List.mem_singleton.1
        · exact apart j stays x mem
        · exact free j stays
    | restated i sl isOpen stays source kind timer =>
      refine ⟨slots_sole_set sole fun _ j other there same => other (sole j i there isOpen (same.trans source)), nodup,
        fun j => ?_⟩
      simp only [Eight.get_set]
      split
      · exact fun _ x mem => source ▸ apart i isOpen x mem
      · exact apart j
    | closed i =>
      refine ⟨slots_sole_set sole (fun isOpen => by cases isOpen), nodup, fun j => ?_⟩
      simp only [Eight.get_set]
      split
      · exact fun isOpen => by cases isOpen
      · exact apart j
    | dropped which => exact ⟨sole, nodup.filter _, fun j stays x mem => apart j stays x (List.mem_filter.1 mem).1⟩
    | aside => exact ⟨sole, nodup, apart⟩
    | older =>
      have same : ∀ sl : Slot, sl.older.isOpen = sl.isOpen ∧ sl.older.source = sl.source := fun sl => by
        unfold Slot.older
        split <;> exact ⟨rfl, rfl⟩
      simp only [OneCallPerSource, Eight.get_map, same]
      exact ⟨sole, nodup, apart⟩

theorem oneCallPerSource_kept : Kept (fun s => OneCallPerSource s.calls) :=
  oneCall_rule.kept calls_reset.1

/-! ## Every slot is in form (R111, R116, R117) -/

/-- Every slot of the calls is in form. -/
def Calls.InForm (c : Calls) : Prop := ∀ i : Fin 8, (c.slots.get i).InForm

theorem slots_inForm_set {v : Eight Slot} {i : Fin 8} {sl : Slot} (all : ∀ j, (v.get j).InForm) (form : sl.InForm) :
    ∀ j, ((v.set i sl).get j).InForm := by
  intro j
  rw [Eight.get_set]
  split
  · exact form
  · exact all j

theorem Slot.inForm_of_open {sl : Slot} (isOpen : sl.isOpen = true) :
    sl.InForm ↔ sl.kind.isSome = true ∧ sl.source.isSome = true ∧ sl.repeatTimer.isSome = true := by
  rw [Slot.InForm, if_pos isOpen]

theorem Slot.inForm_older {sl : Slot} (form : sl.InForm) : sl.older.InForm := by
  unfold Slot.older
  split
  · next isOpen =>
    obtain ⟨kind, source, timer⟩ := (Slot.inForm_of_open isOpen).1 form
    refine (Slot.inForm_of_open (sl := { sl with age := satInc sl.age, repeatTimer := tick sl.repeatTimer }) isOpen).2
      ⟨kind, source, ?_⟩
    simpa [tick] using timer
  · exact form

theorem inForm_rule : Calls.Rule Calls.InForm where
  moves c d moved all := by
    cases moved with
    | raised i src sl isOpen source form | displacing i src sl isOpen source form | served i src sl isOpen source form =>
      exact slots_inForm_set all form
    | waits | dropped | aside => exact all
    | restated i sl isOpen stays source kind timer =>
      obtain ⟨known, named, -⟩ := (Slot.inForm_of_open isOpen).1 (all i)
      exact slots_inForm_set all ((Slot.inForm_of_open stays).2 ⟨kind ▸ known, source ▸ named, timer⟩)
    | closed i => exact slots_inForm_set all ⟨rfl, rfl⟩
    | older => exact fun i => by simpa using Slot.inForm_older (all i)

theorem slotsInForm_kept : Kept (fun s => ∀ i : Fin 8, (s.calls.slots.get i).InForm) :=
  inForm_rule.kept calls_reset.2

end Sys2Proof.Machine
end


section
/-! SUPPORT. What the events make of the post unit (chapter 7), and the proofs that the board, the panel and the
selection stay in form. -/

namespace Sys2Proof.Machine

variable {s t u : State}

/-! ## The changes of the post -/

/-- The post after the board takes new entries (R130, R132). -/
def Post.boarded (p : Post) (board : List BoardEntry) : Post :=
  let stays := match p.held with | some (st, sl) => board.any (·.isFor st sl) | none => true
  { p with
    board := board
    overflow := p.overflow && !decide (board.length < Config.boardLimit)
    held := if stays then p.held else none
    returnTimer := if stays then p.returnTimer else none }

theorem setBoard_post (board : List BoardEntry) (s : State) : (setBoard board s).post = s.post.boarded board := rfl

/-- A change of an entry that is in the list leaves station and slot. -/
def KeepsIdentity (f : BoardEntry → BoardEntry) : Prop := ∀ e, (f e).station = e.station ∧ (f e).slot = e.slot

/-- What an event makes of the post: the board takes entries, entries are marked, Overflow is lit, a key or the timers
act, the role begins (R126 to R142). -/
inductive Post.Moves (p : Post) : Post → Prop
  | boarded (board : List BoardEntry) (form : BoardInForm p.board → BoardInForm board) :
      Post.Moves p (p.boarded board)
  | marked (f : BoardEntry → BoardEntry) (identity : KeepsIdentity f) :
      Post.Moves p { p with board := p.board.map f }
  | overflowed (full : Config.boardLimit ≤ p.board.length) : Post.Moves p { p with overflow := true }
  | chime (x : Option Nat) : Post.Moves p { p with helpChime := x }
  | blink (x : Option Blink) : Post.Moves p { p with blink := x }
  | accepted : Post.Moves p { p with blink := none, returnTimer := p.returnTimer.map (fun _ => 0) }
  | selects (e : Option BoardEntry) (mem : ∀ x, e = some x → x ∈ p.board) :
      Post.Moves p { p with held := e.map (fun e => (e.station, e.slot)), returnTimer := some 0 }
  | returned : Post.Moves p { p with held := none, returnTimer := none }
  | keys (down : List Key) (panel : Panel)
      (agrees : p.PanelAgrees → Post.PanelAgrees { p with down := down, panel := panel }) :
      Post.Moves p { p with down := down, panel := panel }
  | authority (on : Bool) : Post.Moves p { p with authOn := on }
  | begins : Post.Moves p { p with role := true, panel := freshPanel p.down }
  | older :
      Post.Moves p
        { p with board := p.board.map BoardEntry.older, returnTimer := tick p.returnTimer
                 blink := p.blink.map Blink.older, helpChime := tick p.helpChime }

/-! ## The board (R127 to R130) -/

theorem boardInForm_filter {board : List BoardEntry} (keep : BoardEntry → Bool) (form : BoardInForm board) :
    BoardInForm (board.filter keep) := by
  obtain ⟨length, nodup⟩ := form
  exact ⟨(List.length_filter_le _ _).trans length, nodup.sublist (List.filter_sublist.map _)⟩

theorem map_identity {f : BoardEntry → BoardEntry} (identity : KeepsIdentity f) (board : List BoardEntry) :
    (board.map f).map (fun e => (e.station, e.slot)) = board.map (fun e => (e.station, e.slot)) := by
  rw [List.map_map]
  refine List.map_congr_left fun e _ => ?_
  obtain ⟨station, slot⟩ := identity e
  simp [station, slot]

theorem boardInForm_map {board : List BoardEntry} {f : BoardEntry → BoardEntry} (identity : KeepsIdentity f)
    (form : BoardInForm board) : BoardInForm (board.map f) := by
  obtain ⟨length, nodup⟩ := form
  exact ⟨by simpa using length, by rwa [map_identity identity]⟩

/-- An entry joins a board with room that has none for its station and slot. -/
theorem boardInForm_append {board : List BoardEntry} {e : BoardEntry} (room : board.length < Config.boardLimit)
    (sole : ∀ x ∈ board, x.isFor e.station e.slot = false) (form : BoardInForm board) : BoardInForm (board ++ [e]) := by
  obtain ⟨-, nodup⟩ := form
  refine ⟨by simpa using room, ?_⟩
  rw [List.map_append, List.nodup_append]
  refine ⟨nodup, List.nodup_singleton _, ?_⟩
  rintro a mem b one rfl
  obtain ⟨x, here, rfl⟩ := List.mem_map.1 mem
  simp only [List.map_cons, List.map_nil, List.mem_singleton, Prod.mk.injEq] at one
  have apart := sole x here
  simp [BoardEntry.isFor, one] at apart

/-- A newcomer takes the place of an entry that leaves. -/
theorem boardInForm_replace {board : List BoardEntry} {e old : BoardEntry} (mem : old ∈ board)
    (sole : ∀ x ∈ board, x.isFor old.station old.slot = false → x.isFor e.station e.slot = false)
    (form : BoardInForm board) :
    BoardInForm (board.filter (fun x => !x.isFor old.station old.slot) ++ [e]) := by
  refine boardInForm_append ?_ (fun x mem => ?_) (boardInForm_filter _ form)
  · exact (filter_length_lt mem (by simp [BoardEntry.isFor])).trans_le form.1
  · obtain ⟨here, other⟩ := List.mem_filter.1 mem
    exact sole x here (by simpa using other)

theorem heard_identity (own : Station) (n : Notice) (source : Station) (slot : Fin 8) :
    KeepsIdentity (fun x => if x.isFor source slot then x.heard own n else x) := by
  intro e
  dsimp only
  split <;> exact ⟨rfl, rfl⟩

/-! ## The events at the post -/

/-- A property of the post that each of its changes keeps. -/
structure Post.Rule (P : Post → Prop) : Prop where
  moves : ∀ p q, Post.Moves p q → P p → P q

theorem displayOrder_mem {board : List BoardEntry} {e : BoardEntry} (mem : e ∈ displayOrder board) : e ∈ board := by
  simp only [displayOrder, List.mem_append, List.mem_filter] at mem
  tauto

theorem entryAfter_mem {board : List BoardEntry} {e x : BoardEntry} (after : entryAfter board e = some x) :
    x ∈ board := by
  refine displayOrder_mem ?_
  unfold entryAfter at after
  split at after
  · next a n rest dropped =>
    cases after
    exact (List.dropWhile_suffix _).subset (by rw [dropped]; simp)
  · exact List.mem_of_head? after

namespace Post.Rule

variable {P : Post → Prop}

theorem watches (_ : Post.Rule P) : Watches [.post] fun s t => P s.post → P t.post where
  trans h k := k ∘ h
  outside h clear := fun held => by
    rw [h.post_eq fun mem => absurd (List.all_eq_true.1 clear _ mem) (by decide)]
    exact held

variable (r : Post.Rule P)
include r

theorem startHelpChime (e : BoardEntry) (s : State) : P s.post → P (Machine.startHelpChime e s).post :=
  r.watches.ite (r.moves _ _ (.chime _)) (r.watches.refl s)

theorem joinFull (e : BoardEntry) (s : State) (full : Config.boardLimit ≤ s.post.board.length)
    (sole : ∀ x ∈ s.post.board, x.isFor e.station e.slot = false) : P s.post → P (Machine.joinFull e s).post := by
  have w := r.watches
  unfold Machine.joinFull
  split
  · next old found =>
    refine w.trans (t := setBoard _ s) ?_ (r.startHelpChime e _)
    rw [setBoard_post]
    exact r.moves _ _ (.boarded _ (boardInForm_replace (List.mem_of_find?_eq_some found) fun x mem _ => sole x mem))
  · exact w.trans (t := s.setPost { s.post with overflow := true }) (r.moves _ _ (.overflowed full))
      (w.outside (countOverflow_keeps _) rfl)

theorem boardTake (source : Station) (kind : CallKind) (n : Notice) (s : State) :
    P s.post → P (Machine.boardTake source kind n s).post := by
  have w := r.watches
  unfold Machine.boardTake
  dsimp only
  split
  · next e found =>
    have mem := List.mem_of_find?_eq_some found
    have here : e.isFor source n.slot = true := by simpa using List.find?_some found
    refine w.ite ?_ (w.trans (t := setBoard _ s) ?_ (r.startHelpChime _ _))
    · exact r.moves _ _ (.boarded _ (boardInForm_map (heard_identity _ n source n.slot)))
    · refine r.moves _ _ (.boarded _ fun form => ?_)
      obtain ⟨station, slot⟩ : e.station = source ∧ e.slot = n.slot := by simpa [BoardEntry.isFor] using here
      rw [← station, ← slot]
      refine boardInForm_replace mem (fun x _ apart => ?_) form
      rwa [slot] at apart
  · next missing =>
    have sole : ∀ x ∈ s.post.board, x.isFor source n.slot = false := by simpa using missing
    by_cases room : s.post.board.length < Config.boardLimit
    · rw [if_pos room]
      refine w.trans (t := setBoard _ s) ?_ (r.startHelpChime _ _)
      exact r.moves _ _ (.boarded _ (boardInForm_append room sole))
    · rw [if_neg room]
      exact r.joinFull _ s (not_lt.1 room) sole

theorem takeNotice (source : Station) (n : Notice) (s : State) : P s.post → P (Machine.takeNotice source n s).post := by
  have w := r.watches
  unfold Machine.takeNotice
  refine w.ite (w.refl s) ?_
  split
  · exact w.trans (t := boardClear source n s) (r.moves _ _ (.boarded _ (boardInForm_filter _)))
      (w.outside (decideSound_keeps _) rfl)
  · exact w.trans (r.boardTake source _ n s) (w.outside (decideSound_keeps _) rfl)
  · exact w.refl s

theorem startBlink (s : State) : P s.post → P (Machine.startBlink s).post := r.moves _ _ (.blink _)

theorem askLine (f : Frame) (s : State) : P s.post → P (Machine.askLine f s).post := by
  have w := r.watches
  have offered : P s.post → P (offerFrame f s).post := w.outside (offerFrame_keeps s f) rfl
  exact w.ite (w.trans offered (r.startBlink _)) offered

theorem removeSilent (e : BoardEntry) (s : State) : P s.post → P (Machine.removeSilent e s).post := by
  have w := r.watches
  refine w.ite (w.trans (t := setBoard _ s) ?_ (w.outside (decideSound_keeps _) rfl)) (w.refl s)
  exact r.moves _ _ (.boarded _ (boardInForm_filter _))

theorem commandKey (act : State → State) (acts : ∀ u, P u.post → P (act u).post) (s : State) :
    P s.post → P (Machine.commandKey act s).post :=
  r.watches.ite (acts s) (r.startBlink s)

theorem keyAct (k : Key) (s : State) : P s.post → P (Machine.keyAct k s).post := by
  have w := r.watches
  cases k with
  | take =>
    change P s.post → P (takeKey s).post
    unfold takeKey
    split
    · next e _ =>
      have marked : ∀ u, P u.post → P (markPending e u).post := fun u => by
        refine r.moves _ _ (.marked (fun x => if x.isFor e.station e.slot then { x with takePending := true } else x) ?_)
        intro x
        dsimp only
        split <;> exact ⟨rfl, rfl⟩
      exact w.ite (w.ite (r.askLine _ s) (w.trans (r.askLine _ s) (marked _))) (r.startBlink s)
    · exact r.startBlink s
  | next =>
    refine r.moves _ _ (.selects _ fun x after => ?_)
    obtain ⟨e, -, after⟩ := Option.bind_eq_some_iff.1 after
    exact entryAfter_mem after
  | cancel =>
    change P s.post → P (cancelKey s).post
    unfold cancelKey
    split
    · exact w.trans (w.ite (r.askLine _ s) (r.startBlink s)) (r.removeSilent _ _)
    · exact r.startBlink s
  | hush => exact r.commandKey _ (fun u => w.outside (setLine_keeps u _) rfl) s
  | day | night | restore => exact r.commandKey _ (fun u => r.askLine _ u) s
  | test => exact w.trans (w.outside (setLamp_keeps s _) rfl) (w.outside (decideSound_keeps _) rfl)
  | unused => exact w.refl s

theorem acceptKey (k : Key) (s : State) : P s.post → P (Machine.acceptKey k s).post :=
  r.watches.trans (t := s.setPost { s.post with blink := none, returnTimer := s.post.returnTimer.map (fun _ => 0) })
    (r.moves _ _ .accepted) (r.keyAct k _)

end Post.Rule

/-! ## The keys that are down and the panel (R135) -/

theorem mem_inMatrixOrder {k : Key} {keys : List Key} : k ∈ inMatrixOrder keys ↔ k ∈ keys := by
  have all : k ∈ allKeys := by
    cases k <;> decide
  simp [inMatrixOrder, all]

theorem inMatrixOrder_single (k : Key) : inMatrixOrder [k] = [k] := by
  cases k <;> decide

theorem freshPanel_agrees (p : Post) (down : List Key) :
    Post.PanelAgrees { p with down := down, panel := freshPanel down } := by
  intro _
  by_cases none : down = [] <;> simp [freshPanel, none]

theorem panelAgrees_down {p : Post} {k : Key} (agrees : p.PanelAgrees) :
    Post.PanelAgrees
      { p with down := inMatrixOrder (k :: p.down), panel := if p.role then p.panel.down k else p.panel } := by
  intro role
  obtain ⟨ready, held, -⟩ := agrees role
  have here : inMatrixOrder (k :: p.down) ≠ [] := List.ne_nil_of_mem (mem_inMatrixOrder.2 List.mem_cons_self)
  simp only [show p.role = true from role, if_true]
  cases panel : p.panel with
  | ready => simp [Panel.down, ready panel, inMatrixOrder_single]
  | held other => simpa [Panel.down] using here
  | locked => simpa [Panel.down] using here

namespace Post.Rule

variable {P : Post → Prop} (r : Post.Rule P)
include r

theorem takeKeyDown (k : Key) (s : State) : P s.post → P (Machine.takeKeyDown k s).post :=
  r.watches.ite (r.watches.refl s) (r.moves _ _ (.keys _ _ panelAgrees_down))

theorem takeKeyUp (k : Key) (s : State) : P s.post → P (Machine.takeKeyUp k s).post := by
  have w := r.watches
  unfold Machine.takeKeyUp
  dsimp only
  split
  · next contains =>
    have isDown : k ∈ s.post.down := by simpa using contains
    split
    · next role =>
      have role : s.post.role = true := role
      split
      · next ready =>
        refine r.moves _ _ (.keys _ s.post.panel fun agrees => ?_)
        rw [(agrees role).1 ready] at isDown
        cases isDown
      · next held panel =>
        have alone : s.post.PanelAgrees → s.post.down = [held] := fun agrees => (agrees role).2.1 held panel
        split
        · next same =>
          subst same
          refine w.trans (t := s.setPost { s.post with down := s.post.down.filter (· != held), panel := .ready }) ?_
            (r.acceptKey held _)
          refine r.moves _ _ (.keys _ _ fun agrees _ => ?_)
          simp [alone agrees]
        · next other =>
          refine r.moves _ _ (.keys _ s.post.panel fun agrees => ?_)
          rw [alone agrees, List.mem_singleton] at isDown
          exact absurd isDown.symm other
      · next locked =>
        split
        · next none =>
          refine r.moves _ _ (.keys (s.post.down.filter (· != k)) .ready fun _ _ => ?_)
          simpa using none
        · next some =>
          refine r.moves _ _ (.keys (s.post.down.filter (· != k)) s.post.panel fun _ _ => ?_)
          have panel : s.post.panel = .locked := locked
          simpa [panel] using some
    · next role =>
      exact r.moves _ _ (.keys _ s.post.panel fun _ began => absurd began role)
  · exact w.refl s

theorem completeLoad (reached : LoadState) (p : Profile) (s : State) :
    P s.post → P (Machine.completeLoad reached p s).post := by
  have w := r.watches
  unfold Machine.completeLoad
  refine w.trans ?_ (w.outside (startRefresh_keeps _) rfl)
  refine w.trans (w.trans ?_ (w.outside (startJoin_keeps _) rfl)) (w.outside (serveAlert_keeps _) rfl)
  refine w.trans ?_ (w.ite (r.moves _ _ .begins) (w.refl _))
  refine w.trans (w.trans ?_ (w.outside (raiseProfileFault_keeps _) rfl)) (w.outside (takeWaiting_keeps _) rfl)
  refine w.trans (w.trans ?_ (w.outside (configureHeads_keeps _ p) rfl)) (w.outside (showDefaultAspect_keeps _ p) rfl)
  refine w.trans (w.trans ?_ (w.outside (setDoors_keeps _ _) rfl)) (w.outside (computeRoute_keeps _) rfl)
  exact w.trans (w.outside (setLoader_keeps s _) rfl) (w.outside (setPeers_keeps _ _) rfl)

theorem handCompletion (f : Frame) (s : State) : P s.post → P (Machine.handCompletion f s).post := by
  have w := r.watches
  cases f with
  | bulletin => exact w.refl s
  | order o => exact w.outside (takeOrder_keeps s o) rfl
  | take target slot seq => exact w.outside (handTake_keeps s _ target slot seq) rfl
  | cancel target slot seq => exact w.outside (handCancel_keeps s _ target slot seq) rfl
  | notice count n => exact r.takeNotice _ n s
  | request | answer => exact w.refl s

/-- Such a property is kept by the work of every event. -/
theorem event (i : Instr) (s : State) : P s.post → P (workOf i s).post := by
  have w := r.watches
  have frame := workOf_keeps i s
  cases i with
  | profileReadDone block =>
    change P s.post → P (takeRead block s).post
    unfold takeRead
    split
    · split
      · exact r.completeLoad _ _ s
      · exact w.refl s
    · split
      · exact r.completeLoad _ _ s
      · exact r.completeLoad _ _ s
    all_goals exact w.refl s
  | frameComplete =>
    change P s.post → P (takeCompletion s).post
    unfold takeCompletion
    split
    · exact w.trans (w.outside (setLine_keeps s _) rfl) (r.handCompletion _ _)
    · exact w.refl s
  | callNotice wire =>
    refine w.receive wire s (fun corrected => w.outside (endFrame_keeps s corrected) rfl) ?_
    intro corrected source f hand _ wanted
    obtain ⟨_, n, rfl, rfl⟩ := wantNotice_eq_some wanted
    exact r.takeNotice source n _
  | keyDown key => exact r.takeKeyDown _ s
  | keyUp key => exact r.takeKeyUp _ s
  | authChange on => exact r.moves _ _ (.authority on)
  | returnTimerExpiry => exact w.ite (r.moves _ _ .returned) (w.refl s)
  | silent station slot =>
    refine r.moves _ _ (.marked (fun e => if e.isFor station slot then e.fallSilent else e) fun e => ?_)
    dsimp only [BoardEntry.fallSilent]
    split
    · split <;> exact ⟨rfl, rfl⟩
    · exact ⟨rfl, rfl⟩
  | refusalBlinkPhase => exact r.moves _ _ (.blink _)
  | refusalBlinkEnd => exact w.ite (r.moves _ _ (.blink none)) (w.refl s)
  | helpChimeEnd =>
    refine w.ite (w.trans (t := s.setPost { s.post with helpChime := none }) (r.moves _ _ (.chime none)) ?_) (w.refl s)
    exact w.outside (decideSound_keeps _) rfl
  | ageAdvance => exact r.moves _ _ .older
  | _ => exact w.outside frame rfl

/-- Such a property that holds at a reset's start is kept by every step. -/
theorem kept (reset : P Post.atReset) : Kept (fun s => P s.post) := by
  intro s t held answer
  have w := r.watches
  refine step_rel w (by decide) (fun _ _ _ => reset) (fun _ _ _ => reset) ?_ ?_ ?_ answer held
  · intro pins v _
    have pinsRead : P v.post → P (readPins pins (v.setPower .running)).post := fun held =>
      r.moves _ _ (.authority pins.authOn) (r.moves _ _ (.keys (keysRead pins.keysDown) _
        fun _ => freshPanel_agrees v.post _) held)
    exact w.trans pinsRead (w.trans (w.outside (startScan_keeps _ true _) rfl) (w.outside (settle_keeps _) rfl))
  · exact fun v => w.outside (losePower_keeps v) rfl
  · exact fun i v _ => w.trans (r.event i v) (w.outside (endingOf_keeps i _) rfl)

end Post.Rule

/-! ## Board, panel and selection stay in form -/

theorem boardInForm_rule : Post.Rule (fun p => BoardInForm p.board) where
  moves p q moved form := by
    cases moved with
    | boarded board kept => exact kept form
    | marked f identity => exact boardInForm_map identity form
    | older => exact boardInForm_map (fun _ => ⟨rfl, rfl⟩) form
    | _ => exact form

theorem panelAgrees_rule : Post.Rule Post.PanelAgrees where
  moves p q moved agrees := by
    cases moved with
    | keys down panel kept => exact kept agrees
    | begins => exact freshPanel_agrees { p with role := true } p.down
    | _ => exact agrees

/-- The selection agrees on a board that holds the same stations and slots. -/
theorem selectionAgrees_map {p : Post} {f : BoardEntry → BoardEntry} {timer : Option Nat}
    (identity : KeepsIdentity f) (runs : timer.isSome = p.returnTimer.isSome) (agrees : p.SelectionAgrees) :
    Post.SelectionAgrees { p with board := p.board.map f, returnTimer := timer } := by
  obtain ⟨full, onBoard⟩ := agrees
  refine ⟨fun lit => by simpa using full lit, fun st sl held => ?_⟩
  obtain ⟨timed, e, mem, rfl, rfl⟩ := onBoard st sl held
  obtain ⟨station, slot⟩ := identity e
  exact ⟨runs.trans timed, f e, List.mem_map_of_mem mem, station, slot⟩

theorem selectionAgrees_boarded {p : Post} (board : List BoardEntry) (agrees : p.SelectionAgrees) :
    (p.boarded board).SelectionAgrees := by
  obtain ⟨-, onBoard⟩ := agrees
  refine ⟨fun lit => ?_, fun st sl held => ?_⟩
  · have lit : (p.overflow && !decide (board.length < Config.boardLimit)) = true := lit
    simp only [Bool.and_eq_true, Bool.not_eq_true', decide_eq_false_iff_not, not_lt] at lit
    exact lit.2
  · cases was : p.held with
    | none => simp [Post.boarded, was] at held
    | some entry =>
      simp only [Post.boarded, was] at held ⊢
      split at held
      · next stays =>
        cases held
        obtain ⟨timed, -⟩ := onBoard st sl was
        obtain ⟨e, mem, here⟩ := List.any_eq_true.1 stays
        rw [if_pos stays]
        exact ⟨timed, e, mem, by simpa [BoardEntry.isFor] using here⟩
      · cases held

theorem selectionAgrees_rule : Post.Rule Post.SelectionAgrees where
  moves p q moved agrees := by
    have ⟨full, onBoard⟩ := agrees
    cases moved with
    | boarded board => exact selectionAgrees_boarded board agrees
    | marked f identity => exact selectionAgrees_map (timer := p.returnTimer) identity rfl agrees
    | older => 
      obtain ⟨full, onBoard⟩ := selectionAgrees_map (f := BoardEntry.older) (timer := tick p.returnTimer)
        (fun _ => ⟨rfl, rfl⟩) (by simp [tick]) agrees
      exact ⟨full, onBoard⟩
    | overflowed limit => exact ⟨fun _ => limit, onBoard⟩
    | accepted =>
      refine ⟨full, fun st sl held => ?_⟩
      obtain ⟨timed, here⟩ := onBoard st sl held
      exact ⟨by simpa using timed, here⟩
    | selects e mem =>
      refine ⟨full, fun st sl held => ⟨rfl, ?_⟩⟩
      obtain ⟨x, chosen, same⟩ := Option.map_eq_some_iff.1 held
      cases same
      exact ⟨x, mem x chosen, rfl, rfl⟩
    | returned => exact ⟨full, fun st sl held => by cases held⟩
    | chime | blink | keys | authority | begins => exact ⟨full, onBoard⟩

/-- Settles O55: each change of the calls and of the post keeps its part. -/
theorem oneCallPerSourceKept : Obligations.OneCallPerSourceKept := by
  obtain ⟨board, panel, selection⟩ := post_reset
  exact ⟨oneCallPerSource_kept, slotsInForm_kept, boardInForm_rule.kept board, panelAgrees_rule.kept panel,
    selectionAgrees_rule.kept selection⟩

end Sys2Proof.Machine
end


section
/-! SUPPORT. What each event makes of a leaf (chapter 5), what the moves make of the leaves, and the proofs that the
lock drives follow the lock demand, the prop and bolt times their rules and the pins the blocks. -/

namespace Sys2Proof.Machine

variable {c : List Block} {s t u : State}

/-! ## What the lock demand reads (R83) -/

/-- What the lock demand reads of a leaf. -/
def Leaf.claim (lf : Leaf) : LeafRole × Option Nat := (lf.role, lf.pass)

theorem lockDemand_congr {p : Posture} {b : Base} {lf n : Leaf} (same : n.claim = lf.claim) :
    lockDemand p b n = lockDemand p b lf := by
  obtain ⟨role, pass⟩ := Prod.mk.inj same
  unfold lockDemand
  rw [role, pass]

theorem lockDemand_of_passing {p : Posture} {b : Base} {lf : Leaf} (passing : lf.pass.isSome = true) :
    lockDemand p b lf = false := by
  have running : lf.pass.isNone = false := by simpa using passing
  unfold lockDemand
  split <;> simp [running]

theorem lockDemand_of_unconfigured {p : Posture} {b : Base} {lf : Leaf}
    (role : lf.role = .provisional ∨ lf.role = .dropped) : lockDemand p b lf = false := by
  obtain role | role := role <;> simp [lockDemand, role]

/-- A second that passes leaves the lock demand (log entry 4). -/
theorem lockDemand_older (p : Posture) (b : Base) (lf : Leaf) : lockDemand p b lf.older = lockDemand p b lf := by
  have pass : lf.older.pass.isNone = lf.pass.isNone := Option.isNone_map
  unfold lockDemand
  rw [pass]
  rfl

theorem Leaf.claim_shut (demand : Bool) (lf : Leaf) : (lf.shut demand).claim = lf.claim := by
  unfold Leaf.shut
  split <;> split <;> rfl

theorem Leaf.claim_open' (lf : Leaf) : lf.open'.claim = lf.claim := by
  unfold Leaf.open'
  split <;> rfl

theorem Leaf.claim_propChecked (demand : Bool) (lf : Leaf) : (lf.propChecked demand).claim = lf.claim := by
  unfold Leaf.propChecked
  split <;> rfl

theorem Leaf.claim_takeDemand (demand : Bool) (lf : Leaf) : (lf.takeDemand demand).claim = lf.claim := by
  unfold Leaf.takeDemand
  split
  case h_7 => rfl
  all_goals exact Leaf.claim_shut _ lf

theorem Leaf.claim_takeDoor (demand closed : Bool) (lf : Leaf) : (lf.takeDoor demand closed).claim = lf.claim := by
  unfold Leaf.takeDoor
  dsimp only
  split
  · split
    case h_4 => rfl
    all_goals exact Leaf.claim_shut demand _
  · exact Leaf.claim_open' _

theorem Leaf.claim_takeBolt (demand thrown : Bool) (lf : Leaf) : (lf.takeBolt demand thrown).claim = lf.claim := by
  have shut := fun lf' : Leaf => Leaf.claim_shut demand lf'
  unfold Leaf.takeBolt
  dsimp only
  split
  case h_4 => exact shut _
  all_goals first | rfl | (split <;> first | rfl | exact shut _)

theorem Leaf.claim_takeBoltTime (lf : Leaf) : lf.takeBoltTime.claim = lf.claim := by
  unfold Leaf.takeBoltTime
  split <;> rfl

theorem claim_leafUnderPosture (s : State) (oldP : Posture) (oldB : Base) (lf : Leaf) :
    (leafUnderPosture s oldP oldB lf).claim = lf.claim := by
  unfold leafUnderPosture
  dsimp only
  rw [Leaf.claim_propChecked]
  split
  · rfl
  · exact Leaf.claim_takeDemand _ _

/-! ## The state that an event gives a leaf (R84 to R95) -/

@[simp] theorem Leaf.state_propChecked (demand : Bool) (lf : Leaf) : (lf.propChecked demand).state = lf.state := by
  unfold Leaf.propChecked
  split <;> rfl

@[simp] theorem Leaf.bolt_propChecked (demand : Bool) (lf : Leaf) : (lf.propChecked demand).bolt = lf.bolt := by
  unfold Leaf.propChecked
  split <;> rfl

/-- The prop timer runs where its conditions hold, and the conditions do not read it (R93). -/
theorem Leaf.prop_propChecked (demand : Bool) (lf : Leaf) :
    (lf.propChecked demand).prop.isSome = (lf.propChecked demand).propRuns demand := by
  unfold Leaf.propChecked
  split
  · next runs => exact runs.symm
  · next stopped => exact (by simpa using stopped : lf.propRuns demand = false).symm

/-- A leaf that comes to rest or travels has its drive where the lock demand has it (R84). -/
@[simp] theorem Leaf.atLock_shut (demand : Bool) (lf : Leaf) : (lf.shut demand).state.atLock = demand := by
  unfold Leaf.shut
  split
  · next lock =>
    split <;> exact lock.symm
  · next release =>
    split <;> exact (by simpa using release : demand = false).symm

/-- The states in which the door has been reported open. -/
abbrev LeafState.isOpen (st : LeafState) : Prop := st ∈ [LeafState.opened, .forced, .propped]

/-- A lock demand that ends releases a leaf whose drive stands at lock (R84). -/
theorem Leaf.takeDemand_false (lf : Leaf) :
    lf.takeDemand false = if lf.state.atLock = true then lf.shut false else lf := by
  unfold Leaf.takeDemand
  cases lf.state with
  | jammed toward => cases toward <;> rfl
  | _ => rfl

/-- A lock demand that begins locks every leaf that is shut and whose drive stands at release (R84). -/
theorem Leaf.takeDemand_true (lf : Leaf) :
    lf.takeDemand true = if lf.state.isOpen ∨ lf.state.atLock = true then lf else lf.shut true := by
  unfold Leaf.takeDemand
  cases lf.state with
  | jammed toward => cases toward <;> rfl
  | _ => rfl

/-- After a change of the lock demand the drive stands at lock only where the demand is true (R84). -/
theorem Leaf.demand_of_atLock_takeDemand {demand : Bool} {lf : Leaf}
    (lock : (lf.takeDemand demand).state.atLock = true) : demand = true := by
  cases demand with
  | true => rfl
  | false =>
    rw [Leaf.takeDemand_false] at lock
    split at lock
    · rwa [Leaf.atLock_shut] at lock
    · next release => exact absurd lock release

/-- After a lock demand has begun the drive stands at lock unless the door is open (R84). -/
theorem Leaf.atLock_takeDemand_true {lf : Leaf} (closed : ¬(lf.takeDemand true).state.isOpen) :
    (lf.takeDemand true).state.atLock = true := by
  rw [Leaf.takeDemand_true] at closed ⊢
  split at closed
  · next either =>
    rw [if_pos either]
    exact either.resolve_left closed
  · next neither => rw [if_neg neither, Leaf.atLock_shut]

/-! ## Properties of the leaves under the posture -/

/-- A property of a position's leaf under the posture and the base that a change of posture and of the magnets keeps; a
leaf in itself, not what other blocks make of it. -/
structure PostureRule (Q : Fin 4 → Posture → Base → Leaf → Prop) : Prop where
  posture : ∀ n s oldP oldB lf, Q n oldP oldB lf →
    Q n s.control.posture s.control.base (leafUnderPosture s oldP oldB lf)
  magnet : ∀ n p b lf on, Q n p b lf →
    Q n p b (Leaf.propChecked (lockDemand p b { lf with magnet := on }) { lf with magnet := on })

/-- Each position's property holds of its leaf. -/
def EachLeaf (Q : Fin 4 → Posture → Base → Leaf → Prop) (s : State) : Prop :=
  ∀ n : Fin 4, Q n s.control.posture s.control.base (s.doors.leaves.get n)

theorem Four.forall_set {α : Type} {v : Four α} {n : Fin 4} {x : α} {P : α → Prop} (all : ∀ k, P (v.get k)) (new : P x) :
    ∀ k, P ((v.set n x).get k) := by
  intro k
  by_cases here : k = n
  · subst here
    simpa using new
  · simpa [Four.get_set_of_ne, here] using all k

namespace PostureRule

variable {Q : Fin 4 → Posture → Base → Leaf → Prop}

theorem watches (_ : PostureRule Q) : Watches [.doors, .control] fun s t => EachLeaf Q s → EachLeaf Q t where
  trans h k := k ∘ h
  outside h clear := fun held => by
    have out : ∀ b ∈ [Block.doors, .control], b ∉ _ := fun b read mem =>
      absurd read (by simpa using List.all_eq_true.1 clear b mem)
    unfold EachLeaf
    rw [h.doors_eq (out _ (by decide)), h.control_eq (out _ (by decide))]
    exact held

variable (r : PostureRule Q)
include r

/-- New leaf records that meet the property stand so after the event (R60, R101). -/
theorem setLeaves {new : Four Leaf} (s : State)
    (all : ∀ n, Q n s.control.posture s.control.base (new.get n)) : EachLeaf Q (Machine.setLeaves new s) :=
  r.watches.outside (setLeaves_outside_leaves new s) rfl all

theorem setPosture (p : Posture) (b : Base) (s : State) (held : EachLeaf Q s) :
    EachLeaf Q (Machine.setPosture p b s) := by
  have w := r.watches
  unfold Machine.setPosture
  dsimp only
  split
  · exact held
  · refine w.outside (queueBulletin_keeps _) rfl ?_
    have led : EachLeaf Q (doorsTakePosture s.control.posture s.control.base
        (s.setControl { s.control with posture := p, base := b })) :=
      r.setLeaves _ fun n => by
        rw [Four.get_map]
        exact r.posture _ _ _ _ _ (held n)
    split
    · exact led
    · exact w.outside (lampTakePosture_keeps _) rfl (w.outside (callsTakePosture_keeps _ _) rfl led)

theorem evaluateMagnets (s : State) (held : EachLeaf Q s) : EachLeaf Q (Machine.evaluateMagnets s) := by
  intro n
  simp only [Machine.evaluateMagnets, State.setDoors_doors, State.setDoors_control, Four.get_map]
  exact r.magnet _ _ _ _ _ (held n)

end PostureRule

/-- A property of a leaf under the posture and the base that every event at a leaf keeps. -/
structure LeafRule (Q : Posture → Base → Leaf → Prop) : Prop extends PostureRule fun _ => Q where
  act : ∀ s lf act, LeafAct s lf act → Q s.control.posture s.control.base lf →
    Q s.control.posture s.control.base ((act lf).propChecked (demandNow s (act lf)))
  provisional : ∀ p b lf closed thrown, lf.role = .provisional → Q p b lf →
    Q p b
      { lf with doorClosed := closed, boltThrown := thrown
                state := Leaf.provisionalState { lf with doorClosed := closed, boltThrown := thrown } }
  latch : ∀ p b lf pressed, Q p b lf → Q p b { lf with pressLatch := pressed }
  config : ∀ profile s n, Q s.control.posture s.control.base (s.doors.leaves.get n) →
    Q s.control.posture s.control.base (configureLeaf profile s n)
  older : ∀ p b lf, Q p b lf → Q p b lf.older
  fresh : ∀ p b closed thrown, Q p b (Leaf.provisional closed thrown)

/-- The property holds of every leaf of the station. -/
def EveryLeaf (Q : Posture → Base → Leaf → Prop) (s : State) : Prop :=
  ∀ n : Fin 4, Q s.control.posture s.control.base (s.doors.leaves.get n)

namespace LeafRule

variable {Q : Posture → Base → Leaf → Prop}

theorem watches (r : LeafRule Q) : Watches [.doors, .control] fun s t => EveryLeaf Q s → EveryLeaf Q t :=
  r.toPostureRule.watches

variable (r : LeafRule Q)
include r

theorem move (m : Move c s t) : EveryLeaf Q s → EveryLeaf Q t := by
  have w := r.watches
  have frame := m.outside
  intro held
  cases m with
  | alertMark => exact held
  | alertServed => exact held
  | control _ posture base =>
    intro n
    simp only [State.setControl_control, State.setControl_doors, posture, base]
    exact held n
  | hushed b =>
    change EveryLeaf Q (if s.control.hushed = b then s else decideSound (s.setControl { s.control with hushed := b }))
    split
    · exact held
    · exact w.outside (decideSound_keeps _) rfl held
  | posture p b => exact r.setPosture p b s held
  | restored => exact r.setPosture _ _ _ held
  | leaf n _ acts => exact r.setLeaves s (Four.forall_set held (r.act s _ _ acts (held n)))
  | provisional n closed thrown _ role => exact Four.forall_set held (r.provisional _ _ (s.doors.leaves.get n) closed thrown role (held n))
  | latch n pressed => exact Four.forall_set held (r.latch _ _ _ pressed (held n))
  | magnets => exact r.toPostureRule.evaluateMagnets s held
  | config reached p =>
    refine w.outside (computeRoute_keeps _) rfl fun n => ?_
    simp only [configureLeaves, State.setDoors_doors, State.setDoors_control, Four.get_tabulate]
    exact r.config p _ n (held n)
  | second =>
    intro n
    have aged : (Machine.passSecond s).doors.leaves.get n = (s.doors.leaves.get n).older := Four.get_map _ _ _
    rw [aged]
    exact r.older _ _ _ (held n)
  | _ => exact w.outside frame rfl held

theorem run (ran : Run s t) : EveryLeaf Q s → EveryLeaf Q t := ran.rel r.watches fun _ _ _ m => r.move m

theorem event (i : Instr) (s : State) (held : EveryLeaf Q s) : EveryLeaf Q (endingOf i (workOf i s)) :=
  r.watches.outside (endingOf_keeps i _) rfl (r.watches.workOf rfl (fun _ _ _ m => r.move m) i s held)

theorem resetEnd (pins : Pins) (s : State) : EveryLeaf Q (resetEndState pins s) := by
  refine r.watches.outside (settle_keeps _) rfl (r.run (resetEnd_run pins s) fun n => ?_)
  have pinsRead : (readPins pins (s.setPower .running)).doors.leaves.get n
      = Leaf.provisional (pins.doorClosed.getLsbD n.val) (pins.boltThrown.getLsbD n.val) := Four.get_tabulate _ _
  rw [pinsRead]
  exact r.fresh _ _ _ _

theorem reset (s : State) : EveryLeaf Q (resetState s) := fun n => by
  have leaf : (resetState s).doors.leaves.get n = Leaf.provisional false false := leaf_reset n
  rw [leaf]
  exact r.fresh _ _ _ _

theorem pinReset (s : State) : EveryLeaf Q (pinResetState s) := r.reset s

/-- Such a property that also the end of the supply keeps is kept by every step. -/
theorem kept (unpowered : ∀ p b lf, Q p b lf → Q p b lf.unpowered) : Kept (EveryLeaf Q) := by
  intro s t held answer
  refine step_rel r.watches (by decide) (fun _ v _ => r.reset v) (fun wire v _ => r.pinReset _)
    (fun pins v _ _ => r.resetEnd pins v) (fun v held n => ?_) (fun i v _ => r.event i v) answer held
  have dark : (losePower v).doors.leaves.get n = (v.doors.leaves.get n).unpowered := Four.get_map _ _ _
  rw [dark]
  exact unpowered _ _ _ (held n)

/-- Such a property of a running station is kept by every step. -/
theorem kept_running : Kept (fun s => s.power = .running → EveryLeaf Q s) := by
  intro s t held answer running
  obtain ⟨rest, stepped⟩ := step_cases answer
  cases stepped with
  | still => exact held running
  | powerOn | pin | loss => cases running
  | resetEnd pins => exact r.resetEnd pins _
  | event i _ was => exact r.event i _ (held was)

end LeafRule

/-! ## What each event gives a leaf's drive (R84 to R95) -/

/-- A leaf at the load: an Open one stays Open, another comes to rest by its lock demand (R103). -/
def Leaf.carried (demand : Bool) (lf : Leaf) : Leaf := if lf.state = .opened then lf else lf.shut demand

theorem Leaf.claim_carried (demand : Bool) (lf : Leaf) : (lf.carried demand).claim = lf.claim := by
  unfold Leaf.carried
  split
  · rfl
  · exact Leaf.claim_shut demand lf

/-- The leaf with the role that the profile gives the position (R80). -/
def Leaf.configured (profile : Profile) (n : Fin 4) (c : LeafConfig) (lf : Leaf) : Leaf :=
  { lf with role := .configured c (profile.exitLeaf == some n) (linksOf profile n) }

theorem configureLeaf_of_some {profile : Profile} {n : Fin 4} {c : LeafConfig} (s : State)
    (given : profile.leaves.get n = some c) :
    configureLeaf profile s n =
      Leaf.propChecked (demandNow s ((s.doors.leaves.get n).configured profile n c))
        { ((s.doors.leaves.get n).configured profile n c).carried
            (demandNow s ((s.doors.leaves.get n).configured profile n c)) with
          magnet := magnetNow s (((s.doors.leaves.get n).configured profile n c).carried
            (demandNow s ((s.doors.leaves.get n).configured profile n c))) } := by
  simp only [configureLeaf, given]
  rfl

/-- A change of state that takes the drive to lock only where the demand is true, or from lock, and that leaves it at
lock where the demand is true and the door not open (R84). -/
def LeafState.Follows (demand : Bool) (st st' : LeafState) : Prop :=
  (st'.atLock = true → demand = true ∨ st.atLock = true)
    ∧ (demand = true → (¬st.isOpen → st.atLock = true) → ¬st'.isOpen → st'.atLock = true)

theorem LeafState.Follows.refl (demand : Bool) (st : LeafState) : LeafState.Follows demand st st :=
  ⟨.inr, fun _ met => met⟩

theorem LeafState.follows_shut (demand : Bool) (st : LeafState) (lf : Leaf) :
    LeafState.Follows demand st (lf.shut demand).state := by
  unfold LeafState.Follows
  rw [Leaf.atLock_shut]
  exact ⟨.inl, fun lock _ _ => lock⟩

theorem LeafState.follows_of_open {demand : Bool} {st st' : LeafState} (opened : st'.isOpen) :
    LeafState.Follows demand st st' := by
  refine ⟨fun lock => ?_, fun _ _ shut => absurd opened shut⟩
  simp only [List.mem_cons, List.not_mem_nil, or_false] at opened
  obtain rfl | rfl | rfl := opened <;> cases lock

theorem Leaf.isOpen_open' (lf : Leaf) : lf.open'.state.isOpen := by
  unfold Leaf.open'
  cases state : lf.state <;> simp [state]

theorem Leaf.follows_takeDoor (demand closed : Bool) (lf : Leaf) :
    LeafState.Follows demand lf.state (lf.takeDoor demand closed).state := by
  unfold Leaf.takeDoor
  dsimp only
  split
  · split
    case h_4 => exact .refl demand _
    all_goals exact LeafState.follows_shut demand _ _
  · exact LeafState.follows_of_open (Leaf.isOpen_open' _)

theorem Leaf.follows_takeBolt (demand thrown : Bool) (lf : Leaf) :
    LeafState.Follows demand lf.state (lf.takeBolt demand thrown).state := by
  have stays := LeafState.Follows.refl demand lf.state
  have shut := fun lf' : Leaf => LeafState.follows_shut demand lf.state lf'
  have secured : lf.state.atLock = true → LeafState.Follows demand lf.state .secured := fun lock =>
    ⟨fun _ => .inr lock, fun _ _ _ => rfl⟩
  unfold Leaf.takeBolt
  dsimp only
  split
  case h_4 => exact shut _
  case h_5 state | h_8 state =>
    split
    · exact secured (by rw [state]; rfl)
    · exact stays
  case h_6 | h_7 | h_9 =>
    split
    · exact stays
    · exact shut _
  all_goals exact stays

theorem Leaf.follows_takeBoltTime (demand : Bool) (lf : Leaf) :
    LeafState.Follows demand lf.state lf.takeBoltTime.state := by
  unfold Leaf.takeBoltTime
  split
  · next state => exact ⟨fun _ => .inr (by rw [state]; rfl), fun _ _ _ => rfl⟩
  · next state =>
    rw [state]
    exact ⟨fun lock => (by cases lock), fun _ met _ => met (by decide)⟩
  · exact .refl demand _

theorem LeafState.passStarts_eq (st : LeafState) : st.passStarts = st.atLock := by
  cases st with
  | jammed toward => cases toward <;> rfl
  | _ => rfl

/-- A press leaves a leaf without a pass whose drive stands at release as it is, but for the latch; any other has a
pass then, and its drive is released where the demand ends by it (R94). -/
theorem Leaf.takePress_cases (s : State) (lf : Leaf) :
    (lf.pass = none ∧ lf.state.atLock = false ∧ lf.takePress (demandNow s) = { lf with pressLatch := false })
      ∨ (lf.pass.isSome = true ∧ lf.takePress (demandNow s) = { lf with pressLatch := false, pass := some 0 })
      ∨ (lf.pass = none ∧ lf.state.atLock = true
          ∧ lf.takePress (demandNow s) =
              if demandNow s lf = false then { lf with pressLatch := false, pass := some 0 }
              else Leaf.takeDemand false { lf with pressLatch := false, pass := some 0 }) := by
  have passing : demandNow s { lf with pressLatch := false, pass := some 0 } = false := lockDemand_of_passing rfl
  have same : demandNow s { lf with pressLatch := false } = demandNow s lf := lockDemand_congr rfl
  cases pass : lf.pass with
  | some k => exact .inr (.inl ⟨rfl, by simp [Leaf.takePress, pass]⟩)
  | none =>
    cases lock : lf.state.atLock with
    | false => exact .inl ⟨rfl, rfl, by simp [Leaf.takePress, pass, LeafState.passStarts_eq, lock]⟩
    | true =>
      refine .inr (.inr ⟨rfl, rfl, ?_⟩)
      simp only [Leaf.takePress, pass, LeafState.passStarts_eq, lock, Option.isSome_none, Bool.false_eq_true, if_false,
        if_true, ← same, passing]

/-- A pass that ends changes the drive only where the lock demand changes by it (R95). -/
theorem Leaf.takePassEnd_cases (s : State) (lf : Leaf) :
    (demandNow s { lf with pass := none } = demandNow s lf ∧ lf.takePassEnd (demandNow s) = { lf with pass := none })
      ∨ (demandNow s { lf with pass := none } ≠ demandNow s lf
          ∧ lf.takePassEnd (demandNow s) =
              Leaf.takeDemand (demandNow s { lf with pass := none }) { lf with pass := none }) := by
  unfold Leaf.takePassEnd
  dsimp only
  split
  · next same => exact .inl ⟨same.symm, rfl⟩
  · next other => exact .inr ⟨fun same => other same.symm, rfl⟩

/-! ## The lock drives (R83, R84) -/

/-- The drive stands at lock only where the lock demand is true (R84). -/
def Leaf.LocksOnDemand (p : Posture) (b : Base) (lf : Leaf) : Prop :=
  lf.state.atLock = true → lockDemand p b lf = true

/-- The drive stands at lock where the lock demand is true and the door is not open (R84). -/
def Leaf.MeetsDemand (p : Posture) (b : Base) (lf : Leaf) : Prop :=
  lockDemand p b lf = true → ¬lf.state.isOpen → lf.state.atLock = true

section
variable {p : Posture} {b : Base} {lf n : Leaf}

/-- The property reads the state and the lock demand of a leaf alone. -/
theorem Leaf.LocksOnDemand.congr (state : n.state = lf.state) (claim : n.claim = lf.claim)
    (held : lf.LocksOnDemand p b) : n.LocksOnDemand p b := by
  unfold Leaf.LocksOnDemand
  rw [state, lockDemand_congr claim]
  exact held

theorem Leaf.MeetsDemand.congr (state : n.state = lf.state) (claim : n.claim = lf.claim)
    (held : lf.MeetsDemand p b) : n.MeetsDemand p b := by
  unfold Leaf.MeetsDemand
  rw [state, lockDemand_congr claim]
  exact held

theorem Leaf.LocksOnDemand.follow (follows : LeafState.Follows (lockDemand p b lf) lf.state n.state)
    (claim : n.claim = lf.claim) (held : lf.LocksOnDemand p b) : n.LocksOnDemand p b := fun lock => by
  rw [lockDemand_congr claim]
  exact (follows.1 lock).elim id held

theorem Leaf.MeetsDemand.follow (follows : LeafState.Follows (lockDemand p b lf) lf.state n.state)
    (claim : n.claim = lf.claim) (held : lf.MeetsDemand p b) : n.MeetsDemand p b := fun demand => by
  rw [lockDemand_congr claim] at demand
  exact follows.2 demand (held demand)

theorem Leaf.LocksOnDemand.propChecked (d : Bool) (held : lf.LocksOnDemand p b) :
    (lf.propChecked d).LocksOnDemand p b :=
  held.congr (Leaf.state_propChecked d lf) (Leaf.claim_propChecked d lf)

theorem Leaf.MeetsDemand.propChecked (d : Bool) (held : lf.MeetsDemand p b) : (lf.propChecked d).MeetsDemand p b :=
  held.congr (Leaf.state_propChecked d lf) (Leaf.claim_propChecked d lf)

theorem Leaf.locksOnDemand_takeDemand (d : Bool) (now : lockDemand p b lf = d) :
    (lf.takeDemand d).LocksOnDemand p b := fun lock => by
  rw [lockDemand_congr (Leaf.claim_takeDemand d lf), now]
  exact Leaf.demand_of_atLock_takeDemand lock

theorem Leaf.meetsDemand_takeDemand (d : Bool) (now : lockDemand p b lf = d) : (lf.takeDemand d).MeetsDemand p b := by
  intro demand shut
  rw [lockDemand_congr (Leaf.claim_takeDemand d lf), now] at demand
  subst demand
  exact Leaf.atLock_takeDemand_true shut

theorem Leaf.locksOnDemand_of_release (release : lf.state.atLock = false) : lf.LocksOnDemand p b := fun lock => by
  rw [release] at lock
  cases lock

theorem Leaf.meetsDemand_of_none (none : lockDemand p b lf = false) : lf.MeetsDemand p b := fun demand => by
  rw [none] at demand
  cases demand

theorem Leaf.atLock_provisionalState (lf : Leaf) : lf.provisionalState.atLock = false := by
  unfold Leaf.provisionalState
  split
  · rfl
  · split <;> rfl

end

theorem locksOnDemand_rule : LeafRule Leaf.LocksOnDemand where
  act s lf act acts held := by
    refine Leaf.LocksOnDemand.propChecked _ ?_
    cases acts with
    | door closed => exact held.follow (Leaf.follows_takeDoor _ closed lf) (Leaf.claim_takeDoor _ closed lf)
    | bolt thrown => exact held.follow (Leaf.follows_takeBolt _ thrown lf) (Leaf.claim_takeBolt _ thrown lf)
    | press =>
      obtain ⟨-, -, result⟩ | ⟨passing, result⟩ | ⟨-, lock, result⟩ := lf.takePress_cases s <;> rw [result]
      · exact held.congr rfl rfl
      · intro lock
        have demand := held lock
        rw [lockDemand_of_passing passing] at demand
        cases demand
      · rw [if_neg (by simpa [demandNow] using held lock)]
        exact Leaf.locksOnDemand_takeDemand _ (lockDemand_of_passing rfl)
    | boltTime => exact held.follow (Leaf.follows_takeBoltTime _ lf) (Leaf.claim_takeBoltTime lf)
    | propped => exact Leaf.locksOnDemand_of_release rfl
    | passEnd =>
      obtain ⟨same, result⟩ | ⟨-, result⟩ := lf.takePassEnd_cases s <;> rw [result]
      · exact fun lock => same.trans (held lock)
      · exact Leaf.locksOnDemand_takeDemand _ rfl
  posture _ s oldP oldB lf held := by
    unfold leafUnderPosture
    refine Leaf.LocksOnDemand.propChecked _ ?_
    split
    · next same => exact fun lock => same.symm.trans (held lock)
    · exact Leaf.locksOnDemand_takeDemand _ rfl
  provisional p b lf closed thrown _ _ := Leaf.locksOnDemand_of_release (Leaf.atLock_provisionalState _)
  latch p b lf pressed held := held
  magnet _ p b lf on held := Leaf.LocksOnDemand.propChecked (lf := { lf with magnet := on }) _ held
  config profile s n _ := by
    cases given : profile.leaves.get n with
    | none =>
      rw [configureLeaf_of_none s given]
      exact Leaf.locksOnDemand_of_release rfl
    | some c =>
      rw [configureLeaf_of_some s given]
      refine Leaf.LocksOnDemand.propChecked _ (Leaf.LocksOnDemand.congr (lf := Leaf.carried _ _) rfl rfl fun lock => ?_)
      rw [lockDemand_congr (Leaf.claim_carried _ _)]
      unfold Leaf.carried at lock
      split at lock
      · next opened =>
        rw [opened] at lock
        cases lock
      · rwa [Leaf.atLock_shut] at lock
  older p b lf held := by
    unfold Leaf.LocksOnDemand
    rw [lockDemand_older]
    exact held
  fresh p b closed thrown := Leaf.locksOnDemand_of_release (Leaf.atLock_provisionalState _)

theorem meetsDemand_rule : LeafRule Leaf.MeetsDemand where
  act s lf act acts held := by
    refine Leaf.MeetsDemand.propChecked _ ?_
    cases acts with
    | door closed => exact held.follow (Leaf.follows_takeDoor _ closed lf) (Leaf.claim_takeDoor _ closed lf)
    | bolt thrown => exact held.follow (Leaf.follows_takeBolt _ thrown lf) (Leaf.claim_takeBolt _ thrown lf)
    | press =>
      obtain ⟨-, -, result⟩ | ⟨-, result⟩ | ⟨-, -, result⟩ := lf.takePress_cases s <;> rw [result]
      · exact held.congr rfl rfl
      · exact Leaf.meetsDemand_of_none (lockDemand_of_passing rfl)
      · split
        · exact Leaf.meetsDemand_of_none (lockDemand_of_passing rfl)
        · exact Leaf.meetsDemand_takeDemand _ (lockDemand_of_passing rfl)
    | boltTime => exact held.follow (Leaf.follows_takeBoltTime _ lf) (Leaf.claim_takeBoltTime lf)
    | propped => exact fun _ shut => absurd (by simp) shut
    | passEnd =>
      obtain ⟨same, result⟩ | ⟨-, result⟩ := lf.takePassEnd_cases s <;> rw [result]
      · exact fun demand => held (same.symm.trans demand)
      · exact Leaf.meetsDemand_takeDemand _ rfl
  posture _ s oldP oldB lf held := by
    unfold leafUnderPosture
    refine Leaf.MeetsDemand.propChecked _ ?_
    split
    · next same => exact fun demand => held (same.trans demand)
    · exact Leaf.meetsDemand_takeDemand _ rfl
  provisional p b lf closed thrown role _ := Leaf.meetsDemand_of_none (lockDemand_of_unconfigured (.inl role))
  latch p b lf pressed held := held
  magnet _ p b lf on held := Leaf.MeetsDemand.propChecked (lf := { lf with magnet := on }) _ held
  config profile s n _ := by
    cases given : profile.leaves.get n with
    | none =>
      rw [configureLeaf_of_none s given]
      exact Leaf.meetsDemand_of_none rfl
    | some c =>
      rw [configureLeaf_of_some s given]
      refine Leaf.MeetsDemand.propChecked _ (Leaf.MeetsDemand.congr (lf := Leaf.carried _ _) rfl rfl fun demand shut => ?_)
      rw [lockDemand_congr (Leaf.claim_carried _ _)] at demand
      unfold Leaf.carried at shut ⊢
      split at shut
      · next opened => exact absurd (by simp [opened]) shut
      · next closed =>
        rw [if_neg closed, Leaf.atLock_shut]
        exact demand
  older p b lf held := by
    unfold Leaf.MeetsDemand
    rw [lockDemand_older]
    exact held
  fresh p b closed thrown := Leaf.meetsDemand_of_none (lockDemand_of_unconfigured (.inl rfl))

theorem locksAgree_kept : Kept LocksAgree := locksOnDemand_rule.kept fun _ _ _ held => held

theorem locksMeetDemand_iff (s : State) : LocksMeetDemand s ↔ EveryLeaf Leaf.MeetsDemand s := by
  refine ⟨fun held n demand shut => ?_, fun held n c exitDoor links _ demand shut => held n demand shut⟩
  cases role : (s.doors.leaves.get n).role with
  | configured c exitDoor links => exact held n c exitDoor links role demand shut
  | provisional =>
    rw [lockDemand_of_unconfigured (.inl role)] at demand
    cases demand
  | dropped =>
    rw [lockDemand_of_unconfigured (.inr role)] at demand
    cases demand

theorem locksMeetDemand_kept : Kept LocksMeetDemand := fun s t held answer =>
  (locksMeetDemand_iff t).2
    (meetsDemand_rule.kept (fun _ _ _ held => held) s t ((locksMeetDemand_iff s).1 held) answer)

/-! ## Prop timers (R93) -/

/-- The prop timer runs exactly while its conditions hold (R93). -/
def Leaf.PropTimed (p : Posture) (b : Base) (lf : Leaf) : Prop := lf.prop.isSome = lf.propRuns (lockDemand p b lf)

/-- A leaf whose prop timer has just followed its conditions. -/
theorem Leaf.propTimed_propChecked {p : Posture} {b : Base} {lf : Leaf} {d : Bool} (now : lockDemand p b lf = d) :
    (lf.propChecked d).PropTimed p b := by
  rw [Leaf.PropTimed, lockDemand_congr (Leaf.claim_propChecked d lf), now]
  exact Leaf.prop_propChecked d lf

theorem Leaf.propRuns_of_unconfigured {demand : Bool} {lf : Leaf} (role : lf.role = .provisional ∨ lf.role = .dropped) :
    lf.propRuns demand = false := by
  obtain role | role := role <;> simp [Leaf.propRuns, role]

theorem propTimed_rule : LeafRule Leaf.PropTimed where
  act s lf act _ _ := Leaf.propTimed_propChecked rfl
  posture _ s oldP oldB lf _ := by
    unfold leafUnderPosture
    refine Leaf.propTimed_propChecked (lockDemand_congr ?_)
    split
    · rfl
    · exact Leaf.claim_takeDemand _ _
  provisional p b lf closed thrown role held := by
    have stopped : lf.prop.isSome = false := Eq.trans held (Leaf.propRuns_of_unconfigured (.inl role))
    refine stopped.trans (Eq.symm (Leaf.propRuns_of_unconfigured (.inl ?_)))
    exact role
  latch p b lf pressed held := held
  magnet _ p b lf on _ := Leaf.propTimed_propChecked rfl
  config profile s n _ := by
    cases given : profile.leaves.get n with
    | none =>
      rw [configureLeaf_of_none s given]
      exact (Leaf.propRuns_of_unconfigured (.inr rfl)).symm
    | some c =>
      rw [configureLeaf_of_some s given]
      exact Leaf.propTimed_propChecked (lockDemand_congr (Leaf.claim_carried _ _))
  older p b lf held := by
    rw [Leaf.PropTimed, lockDemand_older]
    exact Option.isSome_map.trans held
  fresh p b closed thrown := (Leaf.propRuns_of_unconfigured (.inl rfl)).symm

theorem propsAgree_kept : Kept PropsAgree := propTimed_rule.kept fun _ _ _ held => held

/-! ## Bolt times (R86, R88) -/

/-- The bolt time runs in travel alone, to which no unconfigured position comes (R80, R86, R88). -/
def Leaf.Timed (_ : Posture) (_ : Base) (lf : Leaf) : Prop := lf.BoltTimed

/-- The bolt time runs exactly in travel. -/
def Leaf.TravelTimed (lf : Leaf) : Prop := lf.bolt.isSome = true ↔ lf.state = .securing ∨ lf.state = .releasing

theorem Leaf.boltTimed_of_configured {lf : Leaf} (role : lf.isConfigured) (timed : lf.TravelTimed) : lf.BoltTimed :=
  ⟨timed, fun other => absurd other (by simpa [Leaf.isConfigured, not_or] using role)⟩

theorem Leaf.isConfigured_congr {lf n : Leaf} (claim : n.claim = lf.claim) (role : lf.isConfigured) :
    n.isConfigured := by
  unfold Leaf.isConfigured
  rwa [(Prod.mk.inj claim).1]

theorem Leaf.isConfigured_or (lf : Leaf) : lf.isConfigured ∨ lf.role = .provisional ∨ lf.role = .dropped := by
  unfold Leaf.isConfigured
  tauto

theorem Leaf.travelTimed_shut (demand : Bool) (lf : Leaf) : (lf.shut demand).TravelTimed := by
  unfold Leaf.shut
  split <;> split <;> simp [Leaf.TravelTimed]

theorem Leaf.travelTimed_open' {lf : Leaf} (timed : lf.TravelTimed) : lf.open'.TravelTimed := by
  unfold Leaf.open'
  split
  · simp [Leaf.TravelTimed]
  · exact timed
  · exact timed
  · exact timed
  · simp [Leaf.TravelTimed]

theorem Leaf.travelTimed_takeDemand {lf : Leaf} (demand : Bool) (timed : lf.TravelTimed) :
    (lf.takeDemand demand).TravelTimed := by
  unfold Leaf.takeDemand
  split
  case h_7 => exact timed
  all_goals exact Leaf.travelTimed_shut _ lf

theorem Leaf.travelTimed_takeDoor {lf : Leaf} (demand closed : Bool) (timed : lf.TravelTimed) :
    (lf.takeDoor demand closed).TravelTimed := by
  unfold Leaf.takeDoor
  dsimp only
  split
  · split
    case h_4 => exact timed
    all_goals exact Leaf.travelTimed_shut demand _
  · exact Leaf.travelTimed_open' (lf := { lf with doorClosed := closed }) timed

theorem Leaf.travelTimed_takeBolt {lf : Leaf} (demand thrown : Bool) (timed : lf.TravelTimed) :
    (lf.takeBolt demand thrown).TravelTimed := by
  have shut := fun lf' : Leaf => Leaf.travelTimed_shut demand lf'
  unfold Leaf.takeBolt
  dsimp only
  split
  case h_4 => exact shut _
  case h_5 | h_8 =>
    split
    · simp [Leaf.TravelTimed]
    · exact timed
  case h_6 | h_7 | h_9 =>
    split
    · exact timed
    · exact shut _
  all_goals exact timed

theorem Leaf.boltTimed_takeBoltTime {lf : Leaf} (timed : lf.BoltTimed) : lf.takeBoltTime.BoltTimed := by
  unfold Leaf.takeBoltTime
  split
  · simp [Leaf.BoltTimed]
  · simp [Leaf.BoltTimed]
  · exact timed

theorem Leaf.BoltTimed.propChecked {lf : Leaf} (demand : Bool) (timed : lf.BoltTimed) :
    (lf.propChecked demand).BoltTimed := by
  have role : (lf.propChecked demand).role = lf.role := (Prod.mk.inj (Leaf.claim_propChecked demand lf)).1
  rw [Leaf.BoltTimed, role, Leaf.state_propChecked, Leaf.bolt_propChecked]
  exact timed

/-- A change of the lock demand reaches configured leaves alone. -/
theorem Leaf.boltTimed_takeDemand {p : Posture} {b : Base} {lf : Leaf} {before : Bool}
    (changed : lockDemand p b lf ≠ before) (old : lf.role = .provisional ∨ lf.role = .dropped → before = false)
    (timed : lf.BoltTimed) : (lf.takeDemand (lockDemand p b lf)).BoltTimed := by
  obtain role | role := lf.isConfigured_or
  · exact Leaf.boltTimed_of_configured (Leaf.isConfigured_congr (Leaf.claim_takeDemand _ lf) role)
      (Leaf.travelTimed_takeDemand _ timed.1)
  · rw [lockDemand_of_unconfigured role, old role] at changed
    exact absurd rfl changed

theorem boltTimed_rule : LeafRule Leaf.Timed where
  act s lf act acts timed := by
    have timed : lf.BoltTimed := timed
    have configured : ∀ {n : Leaf}, lf.isConfigured → n.claim = lf.claim → n.TravelTimed → n.BoltTimed :=
      fun role claim => Leaf.boltTimed_of_configured (Leaf.isConfigured_congr claim role)
    refine Leaf.BoltTimed.propChecked _ ?_
    cases acts with
    | door closed role =>
      exact configured role (Leaf.claim_takeDoor _ closed lf) (Leaf.travelTimed_takeDoor _ closed timed.1)
    | bolt thrown role =>
      exact configured role (Leaf.claim_takeBolt _ thrown lf) (Leaf.travelTimed_takeBolt _ thrown timed.1)
    | press role =>
      obtain ⟨-, -, result⟩ | ⟨-, result⟩ | ⟨-, -, result⟩ := lf.takePress_cases s <;> rw [result]
      · exact timed
      · exact timed
      · split
        · exact timed
        · exact Leaf.boltTimed_of_configured
            (Leaf.isConfigured_congr (Leaf.claim_takeDemand false _) (lf := { lf with pressLatch := false, pass := some 0 }) role)
            (Leaf.travelTimed_takeDemand false (lf := { lf with pressLatch := false, pass := some 0 }) timed.1)
    | boltTime => exact Leaf.boltTimed_takeBoltTime timed
    | propped opened =>
      obtain ⟨travel, _⟩ := timed
      rw [opened] at travel
      simpa [Leaf.BoltTimed] using travel
    | passEnd =>
      obtain ⟨-, result⟩ | ⟨changed, result⟩ := lf.takePassEnd_cases s <;> rw [result]
      · exact timed
      · exact Leaf.boltTimed_takeDemand (lf := { lf with pass := none }) changed
          (fun role => lockDemand_of_unconfigured (lf := lf) role) timed
  posture _ s oldP oldB lf timed := by
    have timed : lf.BoltTimed := timed
    unfold leafUnderPosture
    refine Leaf.BoltTimed.propChecked _ ?_
    split
    · exact timed
    · next changed =>
      exact Leaf.boltTimed_takeDemand (lf := { lf with magnet := magnetNow s lf }) (fun same => changed same.symm)
        lockDemand_of_unconfigured timed
  provisional p b lf closed thrown role timed := by
    obtain ⟨travel, rest⟩ := timed
    have still := rest (.inl role)
    have stopped : ¬lf.bolt.isSome = true := fun runs => (travel.1 runs).elim still.1 still.2
    have state : ∀ x : Leaf, x.provisionalState ≠ .securing ∧ x.provisionalState ≠ .releasing := fun x => by
      unfold Leaf.provisionalState
      split
      · simp
      · split <;> simp
    exact ⟨iff_of_false stopped fun moving => moving.elim (state _).1 (state _).2, fun _ => state _⟩
  latch p b lf pressed timed := timed
  magnet _ p b lf on timed := Leaf.BoltTimed.propChecked (lf := { lf with magnet := on }) _ timed
  config profile s n timed := by
    have timed : (s.doors.leaves.get n).BoltTimed := timed
    cases given : profile.leaves.get n with
    | none =>
      rw [configureLeaf_of_none s given]
      simp [Leaf.Timed, Leaf.BoltTimed, Leaf.atReset]
    | some c =>
      rw [configureLeaf_of_some s given]
      refine Leaf.BoltTimed.propChecked _ (Leaf.boltTimed_of_configured ?_ ?_)
      · refine Leaf.isConfigured_congr (Leaf.claim_carried _ ((s.doors.leaves.get n).configured profile n c)) ?_
        exact Leaf.isConfigured_of rfl
      · unfold Leaf.carried
        split
        · exact timed.1
        · exact Leaf.travelTimed_shut _ _
  older p b lf timed := by
    have timed : lf.BoltTimed := timed
    simpa [Leaf.Timed, Leaf.BoltTimed, Leaf.older, tick] using timed
  fresh p b closed thrown := by
    simp only [Leaf.Timed, Leaf.BoltTimed, Leaf.provisional, Leaf.atReset, Leaf.provisionalState]
    cases closed <;> cases thrown <;> decide

theorem boltsTimed_kept : Kept BoltsTimed := boltTimed_rule.kept_running

/-! ## The pins (R82, R174) -/

theorem outputsOf_congr (t : State) (x : Outputs) : outputsOf (t.setOutputs x) = outputsOf t := rfl

theorem pinsAgree_showOutputs (s : State) : PinsAgree (showOutputs s) := rfl

theorem endingOf_pinsAgree (i : Instr) (s : State) : PinsAgree (endingOf i s) := by
  unfold endingOf
  split
  all_goals exact pinsAgree_showOutputs _

theorem pinsAgree_kept : Kept PinsAgree := by
  intro s t agrees answer
  obtain ⟨rest, stepped⟩ := step_cases answer
  cases stepped with
  | still => exact agrees
  | powerOn | pin => rfl
  | resetEnd | loss => exact pinsAgree_showOutputs _
  | event i => exact endingOf_pinsAgree i _

theorem relayHealthy_iff (s : State) :
    relayHealthy s = true ↔
      (s.loader.state = .loaded ∨ s.loader.state = .fallback) ∧ s.loader.station ≠ 0 ∧ s.line.fault = false
        ∧ s.front.fault = false ∧ s.loader.profileFault = false ∧ s.peers.duplicate = false := by
  simp [relayHealthy, loadComplete, strapped, and_assoc]

/-- Settles O53: each event at a leaf keeps the drive with the lock demand and the times with the state, and every
command ends by showing the pins. -/
theorem locksFollowDemandKept : Obligations.LocksFollowDemandKept := by
  refine ⟨locksAgree_kept, locksMeetDemand_kept, ?_, propsAgree_kept, boltsTimed_kept, pinsAgree_kept, ?_⟩
  · intro s n c exitDoor links agree evacuate role escape
    have none : demandNow s (s.doors.leaves.get n) = false := by
      simp [demandNow, lockDemand, role, evacuate, escape]
    by_contra lock
    rw [agree n (by simpa using lock)] at none
    cases none
  · intro s n running agree
    have shown : s.outputs =
        { locks := s.doors.leaves.map lockPin, magnets := s.doors.leaves.map magnetPin, relay := relayHealthy s
          sounder := soundPin s.lamp, display := displayOf s, indicators := indicatorsOf s } := by
      rw [agree, outputsOf, if_pos running]
    rw [shown]
    refine ⟨fun c exitDoor links role => ?_, fun role => ?_, relayHealthy_iff s⟩
    · simp only [Four.get_map, lockPin, magnetPin, role, and_true]
      cases c.failSecure <;> simp
    · simp only [Four.get_map, lockPin, magnetPin]
      obtain role | role := role <;> simp [role]

end Sys2Proof.Machine
end


section
/-! SUPPORT. What a route computation chooses (R70 to R73), what it reads, and the proofs that the route record and
the peer entries stay in form and that the record is always that of a computation on the present inputs. -/

namespace Sys2Proof.Machine

variable {c : List Block} {s t u : State}

/-! ## The first cheapest way (R70) -/

section
variable {α : Type} (f : α → Nat)

/-- A choice that keeps the first of the least elements stands where every earlier one is greater and no later one is
less. -/
theorem foldl_least_split (x : α) (l : List α) :
    ∃ before after r, x :: l = before ++ r :: after ∧ l.foldl (fun best y => if f y < f best then y else best) x = r
      ∧ (∀ y ∈ before, f r < f y) ∧ ∀ y ∈ after, f r ≤ f y := by
  induction l generalizing x with
  | nil => exact ⟨[], [], x, rfl, rfl, by simp, by simp⟩
  | cons y l ih =>
    rw [List.foldl_cons]
    split
    · next less =>
      obtain ⟨before, after, r, split, chosen, above, below⟩ := ih y
      refine ⟨x :: before, after, r, by rw [split]; rfl, chosen, ?_, below⟩
      have least : f r ≤ f y := by
        cases before with
        | nil => rw [(List.cons.inj split).1]
        | cons z before => exact (above y (by rw [(List.cons.inj split).1]; simp)).le
      intro z mem
      obtain rfl | mem := List.mem_cons.1 mem
      · omega
      · exact above z mem
    · next stays =>
      obtain ⟨before, after, r, split, chosen, above, below⟩ := ih x
      cases before with
      | nil =>
        obtain ⟨rfl, rfl⟩ := List.cons.inj split
        refine ⟨[], y :: l, x, rfl, chosen, by simp, fun z mem => ?_⟩
        obtain rfl | mem := List.mem_cons.1 mem
        · omega
        · exact below z mem
      | cons z before =>
        obtain ⟨rfl, rest⟩ := List.cons.inj split
        refine ⟨x :: y :: before, after, r, by rw [rest]; rfl, chosen, fun z mem => ?_, below⟩
        have less := above x List.mem_cons_self
        obtain rfl | mem := List.mem_cons.1 mem
        · exact less
        · obtain rfl | mem := List.mem_cons.1 mem
          · omega
          · exact above z (List.mem_cons_of_mem _ mem)

end

/-- The place of a way out in the tie order: the exit, then the entries (R70). -/
def NextHop.place : NextHop → Nat
  | .none => 9
  | .exit => 0
  | .entry j => j.val + 1

theorem NextHop.place_injective : Function.Injective NextHop.place := by
  intro a b same
  cases a <;> cases b <;> simp only [NextHop.place] at same <;>
    first | rfl | omega | exact congrArg NextHop.entry (Fin.ext (by omega))

theorem mem_ways {exit : Candidate} {entries : Eight Candidate} {w : NextHop × Candidate} :
    w ∈ ways exit entries ↔ w.1 ≠ .none ∧ w.2 = candidateVia exit entries w.1 := by
  obtain ⟨hop, way⟩ := w
  cases hop with
  | none => simp [ways]
  | exit => simp [ways, candidateVia]
  | entry j => simp [ways, candidateVia, mem_allEight, eq_comm]

theorem ways_ordered (exit : Candidate) (entries : Eight Candidate) :
    (ways exit entries).Pairwise (fun a b => a.1.place < b.1.place) := by
  simp [ways, allEight, NextHop.place]

/-- The best way is a way out, no way out is cheaper, and every earlier one in the tie order costs more (R70). -/
structure IsBest (exit : Candidate) (entries : Eight Candidate) (hop : NextHop) : Prop where
  out : hop ≠ .none
  least : ∀ h, h ≠ .none → (candidateVia exit entries hop).cost ≤ (candidateVia exit entries h).cost
  first : ∀ h, h ≠ .none → h.place < hop.place →
    (candidateVia exit entries hop).cost < (candidateVia exit entries h).cost

theorem IsBest.unique {exit : Candidate} {entries : Eight Candidate} {a b : NextHop} (h : IsBest exit entries a)
    (k : IsBest exit entries b) : a = b := by
  apply NextHop.place_injective
  by_contra other
  have below := h.least b k.out
  have above := k.least a h.out
  obtain less | less := Nat.lt_or_gt_of_ne other
  · exact absurd (k.first a h.out less) (by omega)
  · exact absurd (h.first b k.out less) (by omega)

theorem bestWay_spec (exit : Candidate) (entries : Eight Candidate) :
    (bestWay exit entries).2 = candidateVia exit entries (bestWay exit entries).1
      ∧ IsBest exit entries (bestWay exit entries).1 := by
  obtain ⟨before, after, r, split, chosen, above, below⟩ :=
    foldl_least_split (fun w : NextHop × Candidate => w.2.cost) (.exit, exit)
      (allEight.map (fun j => (NextHop.entry j, entries.get j)))
  have all : ways exit entries = before ++ r :: after := split
  have best : bestWay exit entries = r := by
    rw [← chosen, bestWay, ways, List.foldl_cons, if_neg (lt_irrefl _)]
  have ordered := ways_ordered exit entries
  rw [all, List.pairwise_append, List.pairwise_cons] at ordered
  obtain ⟨-, ⟨later, -⟩, -⟩ := ordered
  obtain ⟨out, via⟩ := mem_ways.1 (by rw [all]; simp : r ∈ ways exit entries)
  have place : ∀ h, h ≠ .none → (h, candidateVia exit entries h) ∈ before ∨ h = r.1
      ∨ (h, candidateVia exit entries h) ∈ after := fun h some => by
    have mem : (h, candidateVia exit entries h) ∈ ways exit entries := mem_ways.2 ⟨some, rfl⟩
    rw [all, List.mem_append, List.mem_cons] at mem
    exact mem.imp_right (.imp_left (congrArg Prod.fst))
  rw [best]
  refine ⟨via, out, fun h some => ?_, fun h some less => ?_⟩ <;> rw [← via]
  · obtain mem | rfl | mem := place h some
    · exact (above _ mem).le
    · rw [← via]
    · exact below _ mem
  · obtain mem | rfl | mem := place h some
    · exact above _ mem
    · exact absurd less (lt_irrefl _)
    · exact absurd (less.trans (later _ mem)) (lt_irrefl _)

/-! ## The choice (R71 to R73) -/

/-- Every candidate's cost lies within the scale. -/
def CostsBounded (exit : Candidate) (entries : Eight Candidate) : Prop :=
  exit.cost ≤ Config.noRoute ∧ ∀ j, (entries.get j).cost ≤ Config.noRoute

section
variable {exit : Candidate} {entries : Eight Candidate} {held : NextHop}

theorem CostsBounded.via (bounded : CostsBounded exit entries) (hop : NextHop) :
    (candidateVia exit entries hop).cost ≤ Config.noRoute := by
  cases hop with
  | none => exact le_rfl
  | exit => exact bounded.1
  | entry j => exact bounded.2 j

/-- The record of a computation that chooses a way out, or none (R73). -/
def recordVia (exit : Candidate) (entries : Eight Candidate) (hop : NextHop) : RouteRecord :=
  { cost := (candidateVia exit entries hop).cost, hops := (candidateVia exit entries hop).hops, next := hop
    viaExit := exit, viaEntry := entries }

/-- The way out that a computation chooses (R71, R72): the best, where no passable one is held or it is cheaper by
more than the margin; else the held one. -/
theorem chooseRoute_eq :
    chooseRoute held exit entries =
      if (candidateVia exit entries held).cost = Config.noRoute then
        if (candidateVia exit entries (bestWay exit entries).1).cost < Config.noRoute then
          recordVia exit entries (bestWay exit entries).1
        else recordVia exit entries .none
      else if (candidateVia exit entries (bestWay exit entries).1).cost + Config.switchMargin
          < (candidateVia exit entries held).cost then recordVia exit entries (bestWay exit entries).1
      else recordVia exit entries held := by
  obtain ⟨via, -⟩ := bestWay_spec exit entries
  unfold chooseRoute
  dsimp only
  rw [via]
  rfl

/-- What a computation chooses: the best way, none where no way leads out, or the held one (R71 to R73). -/
inductive Choice (held : NextHop) (exit : Candidate) (entries : Eight Candidate) : NextHop → Prop
  | fresh (hop : NextHop) (best : IsBest exit entries hop) (lost : (candidateVia exit entries held).cost = Config.noRoute)
      (leads : (candidateVia exit entries hop).cost < Config.noRoute) : Choice held exit entries hop
  | none (lost : (candidateVia exit entries held).cost = Config.noRoute)
      (shut : ∀ h, (candidateVia exit entries h).cost = Config.noRoute) : Choice held exit entries .none
  | switched (hop : NextHop) (best : IsBest exit entries hop)
      (passable : (candidateVia exit entries held).cost < Config.noRoute)
      (cheaper : (candidateVia exit entries hop).cost + Config.switchMargin < (candidateVia exit entries held).cost) :
      Choice held exit entries hop
  | kept (passable : (candidateVia exit entries held).cost < Config.noRoute)
      (near : ∀ h, h ≠ .none →
        (candidateVia exit entries held).cost ≤ (candidateVia exit entries h).cost + Config.switchMargin) :
      Choice held exit entries held

theorem chooseRoute_choice (bounded : CostsBounded exit entries) :
    ∃ hop, Choice held exit entries hop ∧ chooseRoute held exit entries = recordVia exit entries hop := by
  obtain ⟨-, best⟩ := bestWay_spec exit entries
  rw [chooseRoute_eq]
  split
  · next lost =>
    split
    · next leads => exact ⟨_, .fresh _ best lost leads, rfl⟩
    · next none =>
      refine ⟨_, .none lost fun h => ?_, rfl⟩
      by_cases out : h = .none
      · rw [out]
        rfl
      · have := best.least h out
        have := bounded.via h
        omega
  · next passable =>
    have := bounded.via held
    split
    · next cheaper => exact ⟨_, .switched _ best (by omega) cheaper, rfl⟩
    · next near =>
      refine ⟨_, .kept (by omega) fun h out => ?_, rfl⟩
      have := best.least h out
      omega

/-- A route record is in one of its two forms (R59). -/
theorem recordVia_inForm {hop : NextHop} (bounded : CostsBounded exit entries) (choice : Choice held exit entries hop) :
    (recordVia exit entries hop).InForm := by
  cases choice with
  | fresh _ best _ leads => exact .inl ⟨leads, best.out, rfl⟩
  | none => exact .inr ⟨rfl, rfl, rfl⟩
  | switched _ best _ cheaper =>
    have := bounded.via held
    exact .inl ⟨by simp only [recordVia]; omega, best.out, rfl⟩
  | kept passable =>
    refine .inl ⟨passable, ?_, rfl⟩
    rintro rfl
    exact absurd passable (lt_irrefl _)

/-- A computation on the same candidates chooses the same way again (R60, R72). -/
theorem chooseRoute_again {hop : NextHop} (bounded : CostsBounded exit entries)
    (choice : Choice held exit entries hop) : chooseRoute hop exit entries = recordVia exit entries hop := by
  obtain ⟨again, second, chosen⟩ := chooseRoute_choice (held := hop) bounded
  rw [chosen]
  suffices same : again = hop by rw [same]
  have bound := bounded.via held
  have best_stays : IsBest exit entries hop → (candidateVia exit entries hop).cost < Config.noRoute → again = hop := by
    intro best leads
    cases second with
    | fresh _ other => exact other.unique best
    | none lost => omega
    | switched _ other => exact other.unique best
    | kept => rfl
  cases choice with
  | fresh _ best _ leads => exact best_stays best leads
  | none lost shut =>
    cases second with
    | fresh _ _ _ leads => exact absurd (shut again) (by omega)
    | none => rfl
    | switched _ _ _ cheaper =>
      have := shut again
      have := shut .none
      omega
    | kept => rfl
  | switched _ best _ cheaper => exact best_stays best (by omega)
  | kept passable near =>
    cases second with
    | fresh _ _ lost => omega
    | none lost => omega
    | switched _ other _ cheaper => exact absurd (near again other.out) (by omega)
    | kept => rfl

end

/-! ## The candidates of a station (R63 to R68) -/

theorem candidateOf_cost_le (cost hops : Nat) : (candidateOf cost hops).cost ≤ Config.noRoute := by
  unfold candidateOf
  split
  · next less => exact less.le
  · exact le_rfl

theorem entryCandidate_cost_le (own : Station) (leaves : Four Leaf) (e : Entry) :
    (entryCandidate own leaves e).cost ≤ Config.noRoute := by
  unfold entryCandidate
  split
  · split
    · exact le_rfl
    · exact candidateOf_cost_le _ _
  · exact le_rfl

theorem exitCandidate_cost_le {weight : Nat} (bound : weight ≤ 15) (leaf : Option Leaf) :
    (exitCandidate weight leaf).cost ≤ Config.noRoute := by
  unfold exitCandidate
  split
  · exact le_rfl
  · split <;> simp only [noWay, Config.noRoute] <;> omega

theorem viaEntry_cost_le (s : State) (j : Fin 8) : (viaEntry s j).cost ≤ Config.noRoute := by
  unfold viaEntry
  split
  · exact entryCandidate_cost_le _ _ _
  · exact le_rfl

theorem costsBounded (weight : exitWeight s ≤ 15) : CostsBounded (viaExit s) (Eight.tabulate (viaEntry s)) :=
  ⟨exitCandidate_cost_le weight _, fun j => by
    rw [Eight.get_tabulate]
    exact viaEntry_cost_le s j⟩

theorem routeOf_inForm (weight : exitWeight s ≤ 15) : (routeOf s).InForm := by
  obtain ⟨hop, choice, chosen⟩ := chooseRoute_choice (held := s.route.next) (costsBounded weight)
  rw [routeOf, chosen]
  exact recordVia_inForm (costsBounded weight) choice

/-- A computation changes the route, and then only what follows from it (R60, R76, R77). -/
theorem computeRouteFrom_outside_route (before : Nat) (s : State) :
    SameOutside [.lamp, .line, .counters] (s.setRoute (routeOf s)) (computeRouteFrom before s) := by
  unfold computeRouteFrom
  dsimp only
  generalize s.setRoute (routeOf s) = u
  have shown : SameOutside [.lamp, .line, .counters] u
      (if (routeOf s).next = s.route.next then u else deriveLamps u) :=
    .ite (.refl _ u) ((deriveLamps_keeps u).widen (by decide))
  exact shown.trans (.ite (.refl _ _) ((queueBulletin_keeps _).widen (by decide)))

theorem computeRouteFrom_route (before : Nat) (s : State) : (computeRouteFrom before s).route = routeOf s :=
  (computeRouteFrom_outside_route before s).route_eq

/-! ## The choice keeps the margin -/

/-- An entry over which a way leads out: it is Current or Stale, shows no Fire and does not name the station (R63,
R65, R66). -/
theorem entryCandidate_passable {own : Station} {leaves : Four Leaf} {e : Entry}
    (leads : (entryCandidate own leaves e).cost < 255) :
    ∃ h, e.heard = some h ∧ (entryCandidate own leaves e).hops = h.hops + 1 ∧ h.hops ≠ 24
      ∧ (e.status = .current ∨ e.status = .stale) ∧ h.hazard ≠ .fire ∧ h.nextHop ≠ .station own := by
  have notLess : ¬noWay.cost < 255 := lt_irrefl _
  cases passable : penalty leaves e with
  | none => exact absurd leads (by rw [entryCandidate_of_penalty_none passable]; exact notLess)
  | some p =>
    obtain ⟨status, h, hazard, door, known, heard, safe, -, -⟩ := penalty_eq_some_iff.1 passable
    unfold entryCandidate at leads ⊢
    rw [passable, heard] at leads ⊢
    dsimp only at leads ⊢
    split at leads
    · exact absurd leads notLess
    · next open' =>
      rw [if_neg open']
      obtain ⟨-, unpoisoned, hops⟩ := not_or.1 open' |>.imp_right not_or.1
      refine ⟨h, rfl, ?_, hops, ?_, ?_, fun named => unpoisoned (poisoned_iff.2 named)⟩
      · unfold candidateOf at leads ⊢
        split at leads
        · next less => rw [if_pos less]
        · exact absurd leads notLess
      · cases st : e.status <;> simp_all [statusTerm]
      · rintro fire
        rw [fire] at safe
        cases safe

theorem viaEntry_passable {j : Fin 8} (bounded : HeardHopsBounded s) (leads : (viaEntry s j).cost < 255) :
    (viaEntry s j).hops ≤ 24
      ∧ ∃ e h, entryAt s j = some e ∧ e.heard = some h ∧ (e.status = .current ∨ e.status = .stale) ∧ h.hazard ≠ .fire
          ∧ h.nextHop ≠ .station s.loader.station := by
  unfold viaEntry at leads ⊢
  split at leads
  · next e found =>
    obtain ⟨h, heard, hops, below, status, safe, unnamed⟩ := entryCandidate_passable leads
    have bound : h.hops ≤ 24 := bounded e (List.mem_of_getElem? found) h heard
    exact ⟨by rw [hops]; omega, e, h, found, heard, status, safe, unnamed⟩
  · exact absurd leads (lt_irrefl _)

theorem exitCandidate_hops (weight : Nat) (leaf : Option Leaf) : (exitCandidate weight leaf).hops = 0 := by
  unfold exitCandidate
  split
  · rfl
  · split <;> rfl

/-- The way out that a computation takes is the one whose candidate its record shows, whatever the costs are. -/
theorem chooseRoute_record (held : NextHop) (exit : Candidate) (entries : Eight Candidate) :
    ∃ hop, chooseRoute held exit entries = recordVia exit entries hop := by
  obtain ⟨via, -⟩ := bestWay_spec exit entries
  unfold chooseRoute
  dsimp only
  rw [via]
  split
  · split
    · exact ⟨_, rfl⟩
    · exact ⟨.none, rfl⟩
  · split <;> exact ⟨_, rfl⟩

theorem computeRoute_leads (bounded : HeardHopsBounded s) (leads : (computeRoute s).route.cost < 255) :
    (computeRoute s).route.hops ≤ 24
      ∧ ((computeRoute s).route.next = .exit
        ∨ ∃ j e h, (computeRoute s).route.next = .entry j ∧ entryAt s j = some e ∧ e.heard = some h
            ∧ (e.status = .current ∨ e.status = .stale) ∧ h.hazard ≠ .fire
            ∧ h.nextHop ≠ .station s.loader.station) := by
  have computed : (computeRoute s).route = routeOf s := computeRouteFrom_route _ s
  obtain ⟨hop, chosen⟩ := chooseRoute_record s.route.next (viaExit s) (Eight.tabulate (viaEntry s))
  rw [computed, routeOf, chosen] at leads ⊢
  cases hop with
  | none => exact absurd leads (lt_irrefl _)
  | exit => exact ⟨(exitCandidate_hops _ _).trans_le (Nat.zero_le _), .inl rfl⟩
  | entry j =>
    simp only [recordVia, candidateVia, Eight.get_tabulate] at leads ⊢
    obtain ⟨hops, e, h, found⟩ := viaEntry_passable bounded leads
    exact ⟨hops, .inr ⟨j, e, h, rfl, found⟩⟩

section
variable {exit : Candidate} {entries : Eight Candidate} {held : NextHop}

theorem forall_hop_iff {P : NextHop → Prop} : (∀ h, h ≠ .none → P h) ↔ P .exit ∧ ∀ j, P (.entry j) := by
  refine ⟨fun all => ⟨all _ (by simp), fun j => all _ (by simp)⟩, fun ⟨exit, entry⟩ h out => ?_⟩
  cases h with
  | none => exact absurd rfl out
  | exit => exact exit
  | entry j => exact entry j

theorem isBest_exit_iff : IsBest exit entries .exit ↔ ∀ j, exit.cost ≤ (entries.get j).cost := by
  refine ⟨fun best j => best.least (.entry j) (by simp), fun least => ⟨by simp, ?_, ?_⟩⟩
  · exact forall_hop_iff.2 ⟨le_rfl, least⟩
  · exact fun h _ less => absurd less (Nat.not_lt_zero _)

theorem isBest_entry_iff {j : Fin 8} :
    IsBest exit entries (.entry j) ↔
      (entries.get j).cost < exit.cost ∧ (∀ k, k < j → (entries.get j).cost < (entries.get k).cost)
        ∧ ∀ k, (entries.get j).cost ≤ (entries.get k).cost := by
  constructor
  · intro best
    refine ⟨best.first .exit (by simp) (Nat.succ_pos _), fun k less => ?_, fun k => best.least (.entry k) (by simp)⟩
    exact best.first (.entry k) (by simp) (Nat.succ_lt_succ less)
  · rintro ⟨below, first, least⟩
    refine ⟨by simp, forall_hop_iff.2 ⟨below.le, least⟩, forall_hop_iff.2 ⟨fun _ => below, fun k less => ?_⟩⟩
    exact first k (Nat.lt_of_succ_lt_succ less)

/-- With no passable way held, the best way is taken, or none where none leads out (R71). -/
theorem chooseRoute_fresh (bounded : CostsBounded exit entries) (lost : (candidateVia exit entries held).cost = 255) :
    (∀ h, h ≠ .none → (chooseRoute held exit entries).cost ≤ (candidateVia exit entries h).cost)
      ∧ ∀ h, h ≠ .none → ((chooseRoute held exit entries).next = h ↔
          (candidateVia exit entries h).cost < 255 ∧ IsBest exit entries h) := by
  obtain ⟨hop, choice, chosen⟩ := chooseRoute_choice (held := held) bounded
  rw [chosen]
  cases choice with
  | fresh _ best _ leads =>
    refine ⟨best.least, fun h _ => ⟨?_, fun ⟨_, other⟩ => best.unique other⟩⟩
    rintro rfl
    exact ⟨leads, best⟩
  | none _ shut =>
    refine ⟨fun h _ => (shut h).ge, fun h out => ⟨fun same => absurd same.symm out, fun ⟨leads, _⟩ => ?_⟩⟩
    exact absurd (shut h) leads.ne
  | switched _ _ passable => exact absurd lost passable.ne
  | kept passable => exact absurd lost passable.ne

end

/-- Settles O28. -/
theorem routeChoiceKeepsTheMargin : Obligations.RouteChoiceKeepsTheMargin := by
  refine ⟨fun held exit entries exitBound entryBound => ⟨fun lost => ?_, fun passable => ?_⟩, fun s bounded leads =>
    computeRoute_leads bounded leads⟩
  · obtain ⟨least, next⟩ := chooseRoute_fresh (held := held) ⟨exitBound, entryBound⟩ lost
    obtain ⟨exitLeast, entryLeast⟩ := forall_hop_iff.1 least
    refine ⟨exitLeast, entryLeast, ?_, fun j => ?_⟩
    · rw [next .exit (by simp), isBest_exit_iff]
      rfl
    · rw [next (.entry j) (by simp), isBest_entry_iff]
      rfl
  · obtain ⟨hop, choice, chosen⟩ := chooseRoute_choice (held := held) ⟨exitBound, entryBound⟩
    rw [chosen]
    cases choice with
    | fresh _ _ lost => exact absurd lost passable.ne
    | none lost => exact absurd lost passable.ne
    | switched _ best _ cheaper => exact .inr ⟨cheaper, forall_hop_iff.1 best.least⟩
    | kept _ near => exact .inl ⟨rfl, rfl, rfl, forall_hop_iff.1 near⟩

end Sys2Proof.Machine
end


section
/-! SUPPORT. What the route's candidates read, and the proofs that every step keeps the route record and the peer
entries in form and the record that of a computation on the present inputs. -/

namespace Sys2Proof.Machine

variable {c : List Block} {s t u : State}

/-! ## The route record in form (R59, R68) -/

/-- The route record is in form, and the exit weight in force within its range (R59, R68). -/
def RouteInForm (s : State) : Prop := s.route.InForm ∧ exitWeight s ≤ 15

theorem routeInForm_watches : Watches [.route, .loader] fun s t => RouteInForm s → RouteInForm t where
  trans h k := k ∘ h
  outside h clear := fun held => by
    have out : ∀ b ∈ [Block.route, .loader], b ∉ _ := fun b read mem =>
      absurd read (by simpa using List.all_eq_true.1 clear b mem)
    unfold RouteInForm exitWeight
    rw [h.route_eq (out _ (by decide)), h.loader_eq (out _ (by decide))]
    exact held

theorem computeRouteFrom_inForm (before : Nat) (weight : exitWeight s ≤ 15) :
    RouteInForm (computeRouteFrom before s) := by
  refine ⟨by rw [computeRouteFrom_route]; exact routeOf_inForm weight, ?_⟩
  rw [exitWeight, (computeRouteFrom_keeps s before).loader_eq]
  exact weight

theorem setLeaves_inForm (new : Four Leaf) (s : State) (held : RouteInForm s) : RouteInForm (setLeaves new s) := by
  have w := routeInForm_watches
  unfold setLeaves
  dsimp only
  have stood : RouteInForm (allFour.foldl (fun u n => leafRequests n (s.doors.leaves.get n) (new.get n) u)
      (s.setDoors { s.doors with leaves := new })) :=
    w.foldl _ (fun u n => w.outside (leafRequests_keeps u n _ _) rfl) allFour _ held
  split
  · exact computeRouteFrom_inForm _ stood.2
  · exact stood

theorem setPosture_inForm (p : Posture) (b : Base) (s : State) (held : RouteInForm s) :
    RouteInForm (setPosture p b s) := by
  have w := routeInForm_watches
  unfold setPosture
  dsimp only
  split
  · exact held
  · refine w.outside (queueBulletin_keeps _) rfl ?_
    have led : RouteInForm (doorsTakePosture s.control.posture s.control.base
        (s.setControl { s.control with posture := p, base := b })) := setLeaves_inForm _ _ held
    split
    · exact led
    · exact w.outside (lampTakePosture_keeps _) rfl (w.outside (callsTakePosture_keeps _ _) rfl led)

theorem move_inForm (m : Move c s t) (held : RouteInForm s) : RouteInForm t := by
  have frame := m.outside
  cases m with
  | posture p b => exact setPosture_inForm p b s held
  | restored => exact setPosture_inForm _ _ _ held
  | leaf n => exact setLeaves_inForm _ s held
  | route before => exact computeRouteFrom_inForm before held.2
  | entry j => exact computeRouteFrom_inForm _ held.2
  | loadState => exact held
  | profileFault => exact held
  | config reached p _ early done judged => exact computeRouteFrom_inForm _ judged
  | _ => exact routeInForm_watches.outside frame rfl held

theorem routeInForm_kept : Kept RouteInForm := by
  intro s t held answer
  have w := routeInForm_watches
  have run : ∀ {s t}, Run s t → RouteInForm s → RouteInForm t := fun ran => ran.rel w fun _ _ _ => move_inForm
  have reset : ∀ v, RouteInForm (resetState v) := fun v => ⟨.inr ⟨rfl, rfl, rfl⟩, Nat.zero_le _⟩
  refine step_rel w (by decide) (fun _ v _ => reset v) (fun wire v _ => reset (countCut wire v)) (fun pins v _ => ?_)
    (fun v => w.outside (losePower_keeps v) rfl) (fun i v _ => ?_) answer held
  · have pinsRead : RouteInForm v → RouteInForm (readPins pins (v.setPower .running)) := id
    exact w.trans pinsRead (w.trans (run (resetEnd_run pins v)) (w.outside (settle_keeps _) rfl))
  · exact w.trans (w.workOf rfl (fun _ _ _ => move_inForm) i v) (w.outside (endingOf_keeps i _) rfl)

/-! ## The peer entries (section 3.1) -/

/-- A property of an entry that no change of an entry that is in the table breaks. -/
structure Entry.Rule (P : Entry → Prop) : Prop where
  takes : ∀ old new, Entry.Takes old new → P old → P new
  older : ∀ e, P e → P e.older
  unheard : ∀ a, P ⟨a, .unheard, none, none⟩

namespace Entry.Rule

variable {P : Entry → Prop} (r : Entry.Rule P)

/-- The property holds of every entry of the table. -/
def All (P : Entry → Prop) (s : State) : Prop := ∀ e ∈ s.peers.entries, P e

theorem watches : Watches [.peers] fun s t => All P s → All P t where
  trans h k := k ∘ h
  outside h clear := fun held => by
    unfold All
    rw [h.peers_eq fun mem => absurd (List.all_eq_true.1 clear _ mem) (by decide)]
    exact held

include r

theorem move (m : Move c s t) (held : All P s) : All P t := by
  have frame := m.outside
  have w : Watches [.peers] fun s t => All P s → All P t := watches
  cases m with
  | entry j _ found takes =>
    refine w.outside (computeRoute_keeps _) rfl fun e mem => ?_
    obtain mem | rfl := List.mem_or_eq_of_mem_set mem
    · exact held e mem
    · exact r.takes _ _ takes (held _ (List.mem_of_getElem? found))
  | duplicate => exact held
  | config reached p =>
    refine w.outside (computeRoute_keeps _) rfl fun e mem => ?_
    obtain ⟨a, -, rfl⟩ := List.mem_map.1 mem
    exact r.unheard a
  | second =>
    intro e mem
    obtain ⟨old, here, rfl⟩ := List.mem_map.1 mem
    exact r.older old (held old here)
  | _ => exact w.outside frame rfl held

theorem kept : Kept (All P) := by
  intro s t held answer
  have w : Watches [.peers] fun s t => All P s → All P t := watches
  have run : ∀ {s t}, Run s t → All P s → All P t := fun ran => ran.rel w fun _ _ _ => r.move
  have reset : ∀ v, All P (resetState v) := fun v e mem => by cases mem
  refine step_rel w (by decide) (fun _ v _ => reset v) (fun wire v _ => reset (countCut wire v)) (fun pins v _ => ?_)
    (fun v => w.outside (losePower_keeps v) rfl) (fun i v _ => ?_) answer held
  · have pinsRead : All P v → All P (readPins pins (v.setPower .running)) := id
    exact w.trans pinsRead (w.trans (run (resetEnd_run pins v)) (w.outside (settle_keeps _) rfl))
  · exact w.trans (w.workOf rfl (fun _ _ _ => r.move) i v) (w.outside (endingOf_keeps i _) rfl)

end Entry.Rule

theorem entryInForm_rule : Entry.Rule Entry.InForm where
  takes old new takes form := by
    cases takes with
    | heard b => exact .inr ⟨by simp [Entry.refreshed], rfl, rfl⟩
    | aged before after status heard known =>
      obtain ⟨unheard, -, -⟩ | ⟨-, age, fields⟩ := form
      · exact absurd (status.symm.trans unheard) heard
      · exact .inr ⟨known, age, fields⟩
  older e form := by
    refine form.imp (fun ⟨status, age, heard⟩ => ⟨status, ?_, heard⟩) (fun ⟨status, age, heard⟩ => ⟨status, ?_, heard⟩)
    · simp [Entry.older, tick, age]
    · simpa [Entry.older, tick] using age
  unheard a := .inl ⟨rfl, rfl, rfl⟩

/-- The heard hop count of an entry lies within the hop ceiling (section 3.1). -/
def Entry.HopsBounded (e : Entry) : Prop := ∀ h, e.heard = some h → h.hops ≤ Config.hopCeiling

theorem entryHopsBounded_rule : Entry.Rule Entry.HopsBounded where
  takes old new takes bounded := by
    cases takes with
    | heard b hops =>
      intro h same
      cases same
      exact hops
    | aged => exact bounded
  older e bounded := bounded
  unheard a := fun h none => by cases none

/-! ## What the candidates read (R60) -/

/-- What the route computation reads of an entry. -/
def Entry.view (e : Entry) : Adjacency × EntryStatus × Option Heard := (e.fixed, e.status, e.heard)

/-- What the route computation reads of a leaf. -/
def Leaf.view (lf : Leaf) : LeafRole × Option DoorClass := (lf.role, shownClass lf)

/-- All that the route record is about. -/
structure RouteView where
  route : RouteRecord
  config : Option Profile
  complete : Bool
  station : Station
  entries : List (Adjacency × EntryStatus × Option Heard)
  leaves : Four (LeafRole × Option DoorClass)

def routeView (s : State) : RouteView :=
  ⟨s.route, s.loader.config, loadComplete s, s.loader.station, s.peers.entries.map Entry.view, s.doors.leaves.map Leaf.view⟩

theorem leaf_view (v : routeView t = routeView s) (n : Fin 4) :
    (t.doors.leaves.get n).view = (s.doors.leaves.get n).view := by
  have leaves := congrArg (fun w => w.leaves.get n) v
  simpa [routeView] using leaves

theorem entry_view (v : routeView t = routeView s) (j : Nat) :
    (t.peers.entries[j]?).map Entry.view = (s.peers.entries[j]?).map Entry.view := by
  have entries := congrArg (fun w => w.entries[j]?) v
  simpa [routeView] using entries

/-- The leaves of a door show the same class, where the door is an own leaf. -/
def SameAt (l m : Four Leaf) (door : PassageDoor) : Prop :=
  ∀ n, door = .own n → shownClass (l.get n) = shownClass (m.get n)

theorem penalty_congr {l m : Four Leaf} {e f : Entry} (same : SameAt l m f.fixed.door) (view : e.view = f.view) :
    penalty l e = penalty m f := by
  obtain ⟨fixed, rest⟩ := Prod.mk.inj view
  obtain ⟨status, heard⟩ := Prod.mk.inj rest
  have passage : ∀ h, passageClass l f.fixed.door h = passageClass m f.fixed.door h := fun h => by
    cases door : f.fixed.door with
    | own n => exact same n door
    | _ => rfl
  unfold penalty
  simp only [fixed, status, heard, passage]

theorem entryCandidate_congr {own : Station} {l m : Four Leaf} {e f : Entry} (same : SameAt l m f.fixed.door)
    (view : e.view = f.view) : entryCandidate own l e = entryCandidate own m f := by
  obtain ⟨fixed, rest⟩ := Prod.mk.inj view
  obtain ⟨-, heard⟩ := Prod.mk.inj rest
  unfold entryCandidate
  rw [penalty_congr same view, heard, fixed]

theorem exitCandidate_congr {weight : Nat} {lf m : Option Leaf} (same : lf.bind shownClass = m.bind shownClass) :
    exitCandidate weight lf = exitCandidate weight m := by
  unfold exitCandidate
  rw [same]

/-- The candidates read the view alone. -/
theorem candidates_of_view (v : routeView t = routeView s) :
    viaExit t = viaExit s ∧ ∀ j, viaEntry t j = viaEntry s j := by
  have config : t.loader.config = s.loader.config := congrArg RouteView.config v
  have station : t.loader.station = s.loader.station := congrArg RouteView.station v
  have shown : ∀ n, shownClass (t.doors.leaves.get n) = shownClass (s.doors.leaves.get n) := fun n =>
    congrArg Prod.snd (leaf_view v n)
  constructor
  · unfold viaExit exitCandidate exitWeight exitLeaf
    rw [config]
    cases s.loader.config.bind (·.exitLeaf) with
    | none => rfl
    | some n => simp [shown]
  · intro j
    have entry := entry_view v j.val
    unfold viaEntry
    cases found : s.peers.entries[j.val]? with
    | none =>
      rw [found, Option.map_none, Option.map_eq_none_iff] at entry
      rw [entry]
    | some e =>
      rw [found] at entry
      obtain ⟨f, there, same⟩ := Option.map_eq_some_iff.1 entry
      rw [there, station]
      exact entryCandidate_congr (fun n _ => shown n) same

/-! ## The record is that of a computation on the present inputs (R60, R73) -/

/-- The route follows its inputs, which refer to one another as the load sets them (R44, R60, R61, R80). -/
def RouteCurrent (s : State) : Prop := RouteFollows s ∧ RouteInputsAgree s

theorem routeInputsAgree_of_view (v : routeView t = routeView s) (agree : RouteInputsAgree s) : RouteInputsAgree t := by
  obtain ⟨weight, early, links⟩ := agree
  have config : t.loader.config = s.loader.config := congrArg RouteView.config v
  have complete : loadComplete t = loadComplete s := congrArg RouteView.complete v
  have entries : t.peers.entries.map Entry.view = s.peers.entries.map Entry.view := congrArg RouteView.entries v
  refine ⟨by rwa [exitWeight, config], fun loading => ?_, fun n c exitDoor named role => ?_⟩
  · obtain ⟨none, empty⟩ := early (complete.symm.trans loading)
    rw [none, List.map_nil, List.map_eq_nil_iff] at entries
    exact ⟨entries, config.trans empty⟩
  · obtain ⟨roles, -⟩ := Prod.mk.inj (leaf_view v n)
    obtain ⟨exit, linked⟩ := links n c exitDoor named (roles.symm.trans role)
    refine ⟨fun here => exit ?_, fun j e entry door => ?_⟩
    · rw [exitLeaf, ← config]
      exact here
    · have same := entry_view v j.val
      rw [show t.peers.entries[j.val]? = some e from entry] at same
      obtain ⟨f, there, view⟩ := Option.map_eq_some_iff.1 same.symm
      obtain ⟨fixed, -⟩ := Prod.mk.inj view
      exact linked j f there (by rw [fixed]; exact door)

theorem routeFollows_of_view (v : routeView t = routeView s) (follows : RouteFollows s) : RouteFollows t := by
  obtain ⟨exit, entries⟩ := candidates_of_view v
  have route : t.route = s.route := congrArg RouteView.route v
  unfold RouteFollows
  simp only [route, exit, entries]
  exact follows

theorem routeCurrent_of_view (v : routeView t = routeView s) (current : RouteCurrent s) : RouteCurrent t :=
  ⟨routeFollows_of_view v current.1, routeInputsAgree_of_view v current.2⟩

/-- The blocks of which the view is made. -/
abbrev routeBlocks : List Block := [.route, .loader, .peers, .doors]

theorem routeView_of_outside (h : SameOutside c s t) (clear : c.all (· ∉ routeBlocks) = true) :
    routeView t = routeView s := by
  have out : ∀ b ∈ routeBlocks, b ∉ c := fun b read mem =>
    absurd read (by simpa using List.all_eq_true.1 clear b mem)
  unfold routeView loadComplete
  rw [h.route_eq (out _ (by decide)), h.loader_eq (out _ (by decide)), h.peers_eq (out _ (by decide)),
    h.doors_eq (out _ (by decide))]

theorem routeCurrent_watches : Watches routeBlocks fun s t => RouteCurrent s → RouteCurrent t where
  trans h k := k ∘ h
  outside h clear := routeCurrent_of_view (routeView_of_outside h clear)

/-- A computation makes the record that of the present inputs (R60, R72). -/
theorem computeRouteFrom_current (before : Nat) (agree : RouteInputsAgree s) : RouteCurrent (computeRouteFrom before s) := by
  have bounded := costsBounded agree.1
  obtain ⟨hop, choice, chosen⟩ := chooseRoute_choice (held := s.route.next) bounded
  have computed : routeOf s = recordVia (viaExit s) (Eight.tabulate (viaEntry s)) hop := chosen
  refine routeCurrent_watches.outside (computeRouteFrom_outside_route before s) rfl ⟨⟨?_, fun j => ?_, ?_⟩, agree⟩
  · rw [State.setRoute_route, computed]
    rfl
  · rw [State.setRoute_route, computed]
    exact Eight.get_tabulate _ _
  · rw [State.setRoute_route, computed]
    exact chooseRoute_again bounded choice

/-- Leaves that keep their roles leave the references among the route's inputs. -/
theorem routeInputsAgree_setLeaves {new : Four Leaf} (roles : ∀ n, (new.get n).role = (s.doors.leaves.get n).role)
    (agree : RouteInputsAgree s) : RouteInputsAgree (s.setDoors { s.doors with leaves := new }) := by
  obtain ⟨weight, early, links⟩ := agree
  exact ⟨weight, early, fun n c exitDoor named role => links n c exitDoor named ((roles n).symm.trans role)⟩

/-- A leaf whose class changes without being handed on is no exit leaf and on no passage (R99). -/
theorem routeFollows_setLeaves {new : Four Leaf} (roles : ∀ n, (new.get n).role = (s.doors.leaves.get n).role)
    (unhanded : ∀ n, classHandedOn (s.doors.leaves.get n) (new.get n) = false) (current : RouteCurrent s) :
    RouteFollows (s.setDoors { s.doors with leaves := new }) := by
  obtain ⟨⟨exit, entries, again⟩, -, -, links⟩ := current
  have shown : ∀ n, (new.get n).onRoute = true → shownClass (new.get n) = shownClass (s.doors.leaves.get n) := by
    intro n routed
    have same : (s.doors.leaves.get n).state.doorClass = (new.get n).state.doorClass := by
      simpa [classHandedOn, routed] using unhanded n
    unfold shownClass
    rw [roles n, same]
  have shown_of : ∀ n, (∀ c exitDoor named, (new.get n).role = .configured c exitDoor named →
      exitDoor = true ∨ named ≠ []) → shownClass (new.get n) = shownClass (s.doors.leaves.get n) := by
    intro n used
    cases role : (new.get n).role with
    | configured c exitDoor named =>
      refine shown n ?_
      obtain yes | some := used c exitDoor named role <;> simp_all [Leaf.onRoute]
    | _ => simp [shownClass, role, roles n ▸ role]
  have viaExit_same : viaExit (s.setDoors { s.doors with leaves := new }) = viaExit s := by
    refine exitCandidate_congr (weight := exitWeight s) ?_
    change ((exitLeaf s).map new.get).bind shownClass = ((exitLeaf s).map s.doors.leaves.get).bind shownClass
    cases here : exitLeaf s with
    | none => rfl
    | some n => exact shown_of n fun c exitDoor named role => .inl ((links n c exitDoor named (roles n ▸ role)).1 here)
  have viaEntry_same : ∀ j, viaEntry (s.setDoors { s.doors with leaves := new }) j = viaEntry s j := by
    intro j
    unfold viaEntry
    rw [State.setDoors_peers, State.setDoors_loader, State.setDoors_doors]
    cases found : s.peers.entries[j.val]? with
    | none => rfl
    | some e =>
      refine entryCandidate_congr (fun n door => shown_of n fun c exitDoor named role => .inr fun empty => ?_) rfl
      have linked := (links n c exitDoor named (roles n ▸ role)).2 j e found door
      rw [empty] at linked
      cases linked
  refine ⟨exit.trans viaExit_same.symm, fun j => (entries j).trans (viaEntry_same j).symm, again⟩

/-! ## The moves -/

theorem setLeaves_current {new : Four Leaf} (roles : ∀ n, (new.get n).role = (s.doors.leaves.get n).role)
    (current : RouteCurrent s) : RouteCurrent (setLeaves new s) := by
  have agree := routeInputsAgree_setLeaves roles current.2
  have asked : SameOutside [.calls, .line, .counters] (s.setDoors { s.doors with leaves := new })
      (allFour.foldl (fun u n => leafRequests n (s.doors.leaves.get n) (new.get n) u)
        (s.setDoors { s.doors with leaves := new })) :=
    SameOutside.foldl _ (fun u n => leafRequests_keeps u n _ _) allFour _
  have view := routeView_of_outside asked rfl
  unfold setLeaves
  dsimp only
  split
  · exact computeRouteFrom_current _ (routeInputsAgree_of_view view agree)
  · next none =>
    have unhanded : ∀ n, classHandedOn (s.doors.leaves.get n) (new.get n) = false := by
      intro n
      simp only [Bool.not_eq_true, List.any_eq_false] at none
      exact none n (mem_allFour n)
    exact routeCurrent_of_view view ⟨routeFollows_setLeaves roles unhanded current, agree⟩

theorem LeafAct.role {lf : Leaf} {act : Leaf → Leaf} (acts : LeafAct s lf act) : (act lf).role = lf.role := by
  refine congrArg Prod.fst (?_ : (act lf).hold = lf.hold)
  cases acts with
  | door closed => exact Leaf.hold_takeDoor _ closed lf
  | bolt thrown => exact Leaf.hold_takeBolt _ thrown lf
  | press => exact Leaf.hold_takePress _ lf
  | boltTime => exact Leaf.hold_takeBoltTime lf
  | propped => rfl
  | passEnd => exact Leaf.hold_takePassEnd _ lf

theorem leafEvent_current {n : Fin 4} {act : Leaf → Leaf} (acts : LeafAct s (s.doors.leaves.get n) act)
    (current : RouteCurrent s) : RouteCurrent (leafEvent n act s) := by
  refine setLeaves_current (fun i => ?_) current
  by_cases here : i = n
  · rw [here, Four.get_set_self]
    exact (congrArg Prod.fst (Leaf.hold_propChecked _ _)).trans acts.role
  · rw [Four.get_set_of_ne _ _ _ _ here]

theorem setPosture_current (p : Posture) (b : Base) (s : State) (current : RouteCurrent s) :
    RouteCurrent (setPosture p b s) := by
  have w := routeCurrent_watches
  unfold setPosture
  dsimp only
  split
  · exact current
  · refine w.outside (queueBulletin_keeps _) rfl ?_
    have led : RouteCurrent (doorsTakePosture s.control.posture s.control.base
        (s.setControl { s.control with posture := p, base := b })) :=
      setLeaves_current (fun n => by rw [Four.get_map]; exact congrArg Prod.fst (hold_leafUnderPosture _ _ _ _)) current
    split
    · exact led
    · exact w.outside (lampTakePosture_keeps _) rfl (w.outside (callsTakePosture_keeps _ _) rfl led)

/-- Leaves of the same view leave the whole view as it was. -/
theorem routeView_setLeaf {n : Fin 4} {lf : Leaf} (same : lf.view = (s.doors.leaves.get n).view) :
    routeView (s.setDoors { s.doors with leaves := s.doors.leaves.set n lf }) = routeView s := by
  have leaves : (s.doors.leaves.set n lf).map Leaf.view = s.doors.leaves.map Leaf.view := by
    refine Four.ext_get fun i => ?_
    simp only [Four.get_map]
    by_cases h : i = n
    · rw [h, Four.get_set_self, same]
    · rw [Four.get_set_of_ne _ _ _ _ h]
  exact congrArg (RouteView.mk _ _ _ _ _) leaves

theorem routeView_setLeaves {f : Leaf → Leaf} (same : ∀ lf, (f lf).view = lf.view) :
    routeView (s.setDoors { s.doors with leaves := s.doors.leaves.map f }) = routeView s := by
  have leaves : (s.doors.leaves.map f).map Leaf.view = s.doors.leaves.map Leaf.view :=
    Four.ext_get fun i => by simp only [Four.get_map, same]
  exact congrArg (RouteView.mk _ _ _ _ _) leaves

theorem Leaf.view_congr {lf n : Leaf} (role : n.role = lf.role) (state : n.state = lf.state) : n.view = lf.view := by
  simp only [Leaf.view, shownClass, role, state]

theorem Leaf.view_propChecked (demand : Bool) (lf : Leaf) : (lf.propChecked demand).view = lf.view :=
  Leaf.view_congr (congrArg Prod.fst (Leaf.hold_propChecked demand lf)) (Leaf.state_propChecked demand lf)

theorem Leaf.view_older (lf : Leaf) : lf.older.view = lf.view := rfl

theorem Entry.view_older (e : Entry) : e.older.view = e.view := rfl

theorem routeView_passSecond (s : State) : routeView (passSecond s) = routeView s := by
  have leaves : (s.doors.leaves.map Leaf.older).map Leaf.view = s.doors.leaves.map Leaf.view :=
    Four.ext_get fun i => by simp only [Four.get_map, Leaf.view_older]
  have entries : (s.peers.entries.map Entry.older).map Entry.view = s.peers.entries.map Entry.view := List.map_map
  have aged : (passSecond s).peers.entries = s.peers.entries.map Entry.older := rfl
  have leavesAged : (passSecond s).doors.leaves = s.doors.leaves.map Leaf.older := rfl
  have frame := passSecond_keeps s
  unfold routeView loadComplete
  rw [frame.route_eq (by decide), frame.loader_eq (by decide), aged, leavesAged, leaves, entries]

theorem routeInputsAgree_setEntry {j : Fin 8} {old new : Entry} (found : entryAt s j = some old)
    (fixed : new.fixed = old.fixed) (agree : RouteInputsAgree s) : RouteInputsAgree (s.setEntry j new) := by
  obtain ⟨weight, early, links⟩ := agree
  refine ⟨weight, fun loading => ?_, fun n c exitDoor named role => ⟨(links n c exitDoor named role).1, ?_⟩⟩
  · have none := (early loading).1
    rw [entryAt, none] at found
    cases found
  · intro i e entry door
    have named := (links n c exitDoor named role).2 i
    rw [entryAt, State.setEntry, State.setPeers_peers, List.getElem?_set] at entry
    split at entry
    · next same =>
      split at entry
      · obtain rfl := Option.some.inj entry
        rw [fixed] at door
        exact named old (show s.peers.entries[i.val]? = some old from same ▸ found) door
      · cases entry
    · exact named e entry door

theorem Entry.Takes.fixed {old new : Entry} (takes : old.Takes new) : new.fixed = old.fixed := by
  cases takes <;> rfl

/-- The load makes the references among the route's inputs (R44, R61, R80). -/
theorem routeInputsAgree_config {reached : LoadState} {p : Profile} (done : reached = .loaded ∨ reached = .fallback)
    (judged : p.exitWeight ≤ 15) :
    RouteInputsAgree (configureLeaves p (buildEntries p (recordLoad reached p s))) := by
  refine ⟨judged, fun loading => ?_, fun n c exitDoor named role => ?_⟩
  · obtain rfl | rfl := done <;> cases loading
  rw [configureLeaves, State.setDoors_doors, Four.get_tabulate] at role
  cases given : p.leaves.get n with
  | none =>
    rw [configureLeaf_of_none _ given] at role
    cases role
  | some config =>
    obtain ⟨old, became, hold⟩ := hold_configureLeaf (buildEntries p (recordLoad reached p s)) given
    have same := (congrArg Prod.fst hold).symm.trans role
    cases became.symm.trans same
    refine ⟨fun exit => beq_iff_eq.2 exit, fun j e entry door => mem_linksOf.2 ?_⟩
    rw [entryAt, configureLeaves, State.setDoors_peers, buildEntries, State.setPeers_peers, List.getElem?_map] at entry
    obtain ⟨a, there, rfl⟩ := Option.map_eq_some_iff.1 entry
    exact ⟨a, there, door⟩

theorem move_current (m : Move c s t) (current : RouteCurrent s) : RouteCurrent t := by
  have frame := m.outside
  have w := routeCurrent_watches
  cases m with
  | posture p b => exact setPosture_current p b s current
  | restored => exact setPosture_current _ _ _ current
  | leaf n _ acts => exact leafEvent_current acts current
  | provisional n closed thrown _ role =>
    refine routeCurrent_of_view (routeView_setLeaf ?_) current
    simp [Leaf.view, shownClass, role]
  | latch => exact routeCurrent_of_view (routeView_setLeaf rfl) current
  | magnets =>
    exact routeCurrent_of_view (routeView_setLeaves fun lf => Leaf.view_propChecked _ _) current
  | route before => exact computeRouteFrom_current before current.2
  | entry j _ found takes => exact computeRouteFrom_current _ (routeInputsAgree_setEntry found takes.fixed current.2)
  | duplicate => exact routeCurrent_of_view rfl current
  | loadState x _ early still =>
    refine routeCurrent_of_view ?_ current
    have before : loadComplete s = false := by simp [loadComplete, early]
    have after : loadComplete (s.setLoadState x) = false := by simp [loadComplete, State.setLoadState, still]
    unfold routeView
    rw [before, after]
    rfl
  | profileFault => exact routeCurrent_of_view rfl current
  | config reached p _ early done judged => exact computeRouteFrom_current _ (routeInputsAgree_config done judged)
  | second => exact routeCurrent_of_view (routeView_passSecond s) current
  | _ => exact w.outside frame rfl current

/-! ## The resets and the end of a reset -/

theorem routeCurrent_reset : RouteCurrent State.reset := route_reset.2.2

/-- A held station has no profile and no entry, so nothing leads out whatever the pins give (R177; log entry 2). -/
theorem readPins_current (pins : Pins) (held : s.power = .held) (atReset : HeldAtReset s) :
    RouteCurrent (readPins pins (s.setPower .running)) := by
  have start := atReset held
  have entries : s.peers.entries = [] := congrArg (·.peers.entries) start
  have config : s.loader.config = none := congrArg (·.loader.config) start
  have route : s.route = RouteRecord.atReset := congrArg (·.route) start
  refine ⟨⟨?_, fun j => ?_, ?_⟩, ?_, fun _ => ⟨entries, config⟩, fun n c exitDoor links role => ?_⟩
  · refine (congrArg RouteRecord.viaExit route).trans ?_
    change noWay = exitCandidate ((s.loader.config.map (·.exitWeight)).getD 0) _
    rw [config]
    rfl
  · refine (congrArg (fun r => r.viaEntry.get j) route).trans ((Eight.get_fill _ _).trans ?_)
    change noWay = match s.peers.entries[j.val]? with
      | some e => entryCandidate _ _ e
      | none => noWay
    rw [entries]
    rfl
  · change chooseRoute s.route.next s.route.viaExit s.route.viaEntry = s.route
    rw [route]
    decide
  · change (s.loader.config.map (·.exitWeight)).getD 0 ≤ 15
    rw [config]
    exact Nat.zero_le _
  · have leaf : (readPins pins (s.setPower .running)).doors.leaves.get n
        = Leaf.provisional (pins.doorClosed.getLsbD n.val) (pins.boltThrown.getLsbD n.val) := Four.get_tabulate _ _
    rw [leaf] at role
    cases role

/-- Settles O50: the record keeps its form by the choice's specification (R71 to R73), the entries theirs move by move,
and each move leaves what the candidates read or computes the route anew. -/
theorem routeFormKept : Obligations.RouteFormKept := by
  unfold Obligations.RouteFormKept
  refine ⟨routeInForm_kept, entryInForm_rule.kept, entryHopsBounded_rule.kept, ?_⟩
  have w := routeCurrent_watches
  have run : ∀ {s t}, Run s t → RouteCurrent s → RouteCurrent t := fun ran => ran.rel w fun _ _ _ => move_current
  have kept : Kept (fun s => RouteCurrent s ∧ HeldAtReset s) := by
    refine kept_from_reset (fun s rest => id) (fun s => ?_) (fun s => ?_) (fun pins s held atReset _ => ?_)
      (fun s => ?_) (fun i s _ => ?_)
    · exact routeCurrent_of_view rfl routeCurrent_reset
    · exact routeCurrent_of_view rfl routeCurrent_reset
    · exact w.outside (settle_keeps _) rfl (run (resetEnd_run pins s) (readPins_current pins held atReset))
    · exact routeCurrent_of_view (routeView_setLeaves fun _ => rfl)
    · exact w.trans (w.workOf rfl (fun _ _ _ => move_current) i s) (w.outside (endingOf_keeps i _) rfl)
  intro s t ⟨follows, agree, atReset⟩ answer
  obtain ⟨current, held⟩ := kept s t ⟨⟨follows, agree⟩, atReset⟩ answer
  exact ⟨current.1, current.2, held⟩

end Sys2Proof.Machine
end


section
/-! SUPPORT. What the lamps make of a next hop and a posture, and the proofs that every step keeps the brightness, the
sound, the aspect and the strip pattern as their rules give them. -/

namespace Sys2Proof.Machine

variable {c W : List Block} {s t u : State} {R : State → State → Prop}

/-! ## What a derivation makes of the lamps (R146 to R151) -/

/-- What no derivation of aspect and pattern touches. -/
structure Lamp.SameLight (l n : Lamp) : Prop where
  brightness : n.brightness = l.brightness
  sound : n.sound = l.sound
  test : n.test = l.test
  sign : n.sign = l.sign
  chainA : n.chainA = l.chainA
  chainB : n.chainB = l.chainB

theorem Lamp.SameLight.trans {l m n : Lamp} (h : l.SameLight m) (k : m.SameLight n) : l.SameLight n :=
  ⟨k.1.trans h.1, k.2.trans h.2, k.3.trans h.3, k.4.trans h.4, k.5.trans h.5, k.6.trans h.6⟩

/-- The pattern that a lamp shows goes on, or begins at its start (R150, R151). -/
structure Lamp.Goes (l n : Lamp) : Prop where
  chase : n.pattern = .chase →
    (l.pattern = .chase ∧ l.direction = n.direction ∧ n.position = l.position) ∨ n.position = chaseStart n.direction
  flash : n.pattern = .flash → (l.pattern = .flash ∧ n.flashOn = l.flashOn) ∨ n.flashOn = true

theorem Lamp.Goes.of_same {l n : Lamp} (pattern : n.pattern = l.pattern) (direction : n.direction = l.direction)
    (position : n.position = l.position) (flashOn : n.flashOn = l.flashOn) : l.Goes n :=
  ⟨fun chase => .inl ⟨pattern.symm.trans chase, direction.symm, position⟩,
    fun flash => .inl ⟨pattern.symm.trans flash, flashOn⟩⟩

theorem Lamp.Goes.refl (l : Lamp) : l.Goes l := .of_same rfl rfl rfl rfl

theorem Lamp.Goes.trans {l m n : Lamp} (h : l.Goes m) (k : m.Goes n) : l.Goes n where
  chase chasing := by
    obtain ⟨was, way, place⟩ | start := k.chase chasing
    · rw [← way, place]
      exact h.chase was
    · exact .inr start
  flash flashing := by
    obtain ⟨was, phase⟩ | start := k.flash flashing
    · rw [phase]
      exact h.flash was
    · exact .inr start

theorem Lamp.Goes.begins {l n : Lamp} (h : l.Goes n) : PatternsBegin l n := by
  refine ⟨fun chasing other => ?_, fun flashing other => ?_⟩
  · obtain ⟨was, way, -⟩ | start := h.chase chasing
    · obtain no | no := other
      · exact absurd was no
      · exact absurd way no
    · rw [start]
      cases n.direction <;> rfl
  · obtain ⟨was, -⟩ | start := h.flash flashing
    · exact absurd was other
    · exact start

theorem Lamp.goes_steady {l n : Lamp} (steady : n.pattern = .steady) : l.Goes n :=
  ⟨fun chasing => (by cases steady.symm.trans chasing), fun flashing => (by cases steady.symm.trans flashing)⟩

/-- A lamp with another strip pattern. -/
structure Lamp.Patterned (l n : Lamp) : Prop where
  light : l.SameLight n
  goes : l.Goes n
  aspect : n.aspect = l.aspect
  placeholder : n.placeholder = l.placeholder

theorem patterned_chase (d : Direction) (l : Lamp) : l.Patterned (chase d l) := by
  unfold chase
  split
  · exact ⟨⟨rfl, rfl, rfl, rfl, rfl, rfl⟩, .refl l, rfl, rfl⟩
  · exact ⟨⟨rfl, rfl, rfl, rfl, rfl, rfl⟩, ⟨fun _ => .inr rfl, fun none => (by cases none)⟩, rfl, rfl⟩

theorem chase_runs (d : Direction) (l : Lamp) : (chase d l).pattern = .chase ∧ (chase d l).direction = d := by
  unfold chase
  split
  · next running => exact running
  · exact ⟨rfl, rfl⟩

theorem patterned_flash (l : Lamp) : l.Patterned (flash l) := by
  unfold flash
  split
  · exact ⟨⟨rfl, rfl, rfl, rfl, rfl, rfl⟩, .refl l, rfl, rfl⟩
  · exact ⟨⟨rfl, rfl, rfl, rfl, rfl, rfl⟩, ⟨fun none => (by cases none), fun _ => .inr rfl⟩, rfl, rfl⟩

theorem flash_runs (l : Lamp) : (flash l).pattern = .flash := by
  unfold flash
  split
  · next running => exact running
  · rfl

theorem patterned_steady (l : Lamp) : l.Patterned { l with pattern := .steady } :=
  ⟨⟨rfl, rfl, rfl, rfl, rfl, rfl⟩, Lamp.goes_steady rfl, rfl, rfl⟩

theorem patterned_derivePattern (s : State) (l : Lamp) : l.Patterned (derivePattern s l) := by
  unfold derivePattern
  split
  · split
    · exact patterned_chase _ l
    · split
      · split
        · exact patterned_chase _ l
        · exact patterned_steady l
      · exact patterned_flash l
    · exact patterned_flash l
  · exact patterned_steady l

theorem deriveAspect_light (s : State) (l : Lamp) : l.SameLight (deriveAspect s l) := by
  unfold deriveAspect
  repeat' split
  all_goals exact ⟨rfl, rfl, rfl, rfl, rfl, rfl⟩

theorem deriveAspect_goes (s : State) (l : Lamp) : l.Goes (deriveAspect s l) := by
  unfold deriveAspect
  repeat' split
  all_goals exact .of_same rfl rfl rfl rfl

theorem deriveAspect_of_hop {s : State} {a : Aspect} (hop : hopAspect s = some a) (l : Lamp) :
    deriveAspect s l = { l with aspect := a, placeholder := false } := by
  rw [deriveAspect, hop]

theorem deriveAspect_of_evacuate {s : State} (hop : hopAspect s = none) (evacuate : s.control.posture = .evacuate)
    (l : Lamp) : deriveAspect s l = { l with aspect := .danger, placeholder := false } := by
  rw [deriveAspect, hop]
  exact if_pos evacuate

theorem Lamp.sameLight_turnedFrom (old l : Lamp) : l.SameLight (old.turnedFrom l) := by
  rw [Lamp.turnedFrom_eq]
  exact ⟨rfl, rfl, rfl, rfl, rfl, rfl⟩

theorem Lamp.goes_turnedFrom (old l : Lamp) : l.Goes (old.turnedFrom l) := by
  rw [Lamp.turnedFrom_eq]
  exact .of_same rfl rfl rfl rfl

theorem deriveLamps_light (s : State) : s.lamp.SameLight (deriveLamps s).lamp :=
  ((deriveAspect_light s s.lamp).trans (patterned_derivePattern s _).light).trans (Lamp.sameLight_turnedFrom _ _)

theorem deriveLamps_goes (s : State) : s.lamp.Goes (deriveLamps s).lamp :=
  ((deriveAspect_goes s s.lamp).trans (patterned_derivePattern s _).goes).trans (Lamp.goes_turnedFrom _ _)

/-- What the sign and the strip show, and not the sound or the test. -/
structure Lamp.SameSign (l n : Lamp) : Prop where
  aspect : n.aspect = l.aspect
  placeholder : n.placeholder = l.placeholder
  brightness : n.brightness = l.brightness
  pattern : n.pattern = l.pattern
  direction : n.direction = l.direction
  position : n.position = l.position
  flashOn : n.flashOn = l.flashOn

theorem Lamp.SameSign.refl (l : Lamp) : l.SameSign l := ⟨rfl, rfl, rfl, rfl, rfl, rfl, rfl⟩

theorem Lamp.SameSign.trans {l m n : Lamp} (h : l.SameSign m) (k : m.SameSign n) : l.SameSign n :=
  ⟨k.1.trans h.1, k.2.trans h.2, k.3.trans h.3, k.4.trans h.4, k.5.trans h.5, k.6.trans h.6, k.7.trans h.7⟩

theorem Lamp.SameSign.goes {l n : Lamp} (h : l.SameSign n) : l.Goes n :=
  .of_same h.pattern h.direction h.position h.flashOn

/-- A lamp with another sound. -/
def Lamp.Sounds (l n : Lamp) : Prop := ∃ sound on, n = { l with sound := sound, soundOn := on }

theorem Lamp.Sounds.refl (l : Lamp) : l.Sounds l := ⟨l.sound, l.soundOn, rfl⟩

theorem Lamp.Sounds.sign {l n : Lamp} (h : l.Sounds n) : l.SameSign n := by
  obtain ⟨sound, on, rfl⟩ := h
  exact ⟨rfl, rfl, rfl, rfl, rfl, rfl, rfl⟩

theorem decideSound_sounds (s : State) : s.lamp.Sounds (decideSound s).lamp := by
  unfold decideSound
  dsimp only
  split
  · exact .refl _
  · exact ⟨_, _, rfl⟩

theorem decideSound_sign (s : State) : s.lamp.SameSign (decideSound s).lamp := (decideSound_sounds s).sign

/-- The sound is decided by a state that differs in blocks beside the lamps. -/
theorem decideSound_sounds_of (out : SameOutside c s t) (clear : Block.lamp ∉ c) : s.lamp.Sounds (decideSound t).lamp := by
  have sounds := decideSound_sounds t
  rwa [out.lamp_eq clear] at sounds

theorem turnTest_sign (x : Option Nat) (s : State) :
    s.lamp.SameSign (decideSound (s.turnLamp { s.lamp with test := x })).lamp := by
  refine Lamp.SameSign.trans ?_ (decideSound_sign _)
  rw [State.turnLamp_lamp, Lamp.turnedFrom_eq]
  exact ⟨rfl, rfl, rfl, rfl, rfl, rfl, rfl⟩

theorem takeNotice_sounds (source : Station) (n : Notice) (s : State) : s.lamp.Sounds (takeNotice source n s).lamp := by
  unfold takeNotice
  split
  · exact .refl _
  · split
    · exact decideSound_sounds_of (setBoard_keeps s _) (by decide)
    · exact decideSound_sounds_of (boardTake_keeps s source _ n) (by decide)
    · exact .refl _

theorem removeSilent_sounds (e : BoardEntry) (s : State) : s.lamp.Sounds (removeSilent e s).lamp := by
  unfold removeSilent
  split
  · exact decideSound_sounds_of (setBoard_keeps s _) (by decide)
  · exact .refl _

/-- A computation leaves the lamps, or derives them by the new next hop (R146, R149). -/
theorem computeRouteFrom_lamp (before : Nat) (s : State) :
    ((routeOf s).next = s.route.next ∧ (computeRouteFrom before s).lamp = s.lamp)
      ∨ (computeRouteFrom before s).lamp = (deriveLamps (s.setRoute (routeOf s))).lamp := by
  unfold computeRouteFrom
  dsimp only
  have queued : ∀ u : State, (queueBulletin u).lamp = u.lamp := fun u => (queueBulletin_keeps u).lamp_eq (by decide)
  by_cases same : (routeOf s).next = s.route.next
  · simp only [same, if_true]
    split
    · exact .inl ⟨trivial, rfl⟩
    · exact .inl ⟨trivial, queued _⟩
  · simp only [same, if_false]
    split
    · exact .inr rfl
    · exact .inr (queued _)

/-! ## The moves of the lamps -/

/-- A relation that watches the lamps and that a route computation has. -/
structure LampRule (W : List Block) (R : State → State → Prop) : Prop extends Watches W R where
  clear : [Block.doors, .calls, .line, .counters].all (· ∉ W) = true
  computed : ∀ before s, R s (computeRouteFrom before s)

namespace LampRule

variable (r : LampRule W R)

include r

theorem apart {l : List Block} (part : l ⊆ [Block.doors, .calls, .line, .counters]) : l.all (· ∉ W) = true :=
  List.all_eq_true.2 fun b mem => List.all_eq_true.1 r.clear b (part mem)

theorem setLeaves (new : Four Leaf) (s : State) : R s (setLeaves new s) := by
  unfold Machine.setLeaves
  dsimp only
  have stood : R s (allFour.foldl (fun u n => leafRequests n (s.doors.leaves.get n) (new.get n) u)
      (s.setDoors { s.doors with leaves := new })) :=
    r.trans (r.outside (setDoors_keeps s _) (r.apart (by simp)))
      (r.foldl _ (fun u n => r.outside (leafRequests_keeps u n _ _) (r.apart (by simp))) allFour _)
  split
  · exact r.trans stood (r.computed _ _)
  · exact stood

theorem queued (s : State) : R s (queueBulletin s) := r.outside (queueBulletin_keeps s) (r.apart (by simp))

end LampRule

/-- A relation that watches the sign and the strip, and what every change of them or of what they follow has to keep of
it. -/
structure SignRule (W : List Block) (R : State → State → Prop) : Prop extends LampRule W R where
  loose : ∀ b ∈ W, b ∈ [Block.lamp, .control, .route, .peers, .loader]
  sign : ∀ {s t}, SameOutside [.lamp, .post, .counters] s t → s.lamp.SameSign t.lamp → R s t
  control : ∀ (s : State) {x : Control}, x.posture = s.control.posture → R s (s.setControl x)
  posture : ∀ p b s, R s (setPosture p b s)
  restored : ∀ s : State, R s (setPosture s.control.base.posture s.control.base
    (s.setControl { s.control with fireSet := [], hushed := false, provisionalBase := false }))
  entry : ∀ (j : Fin 8) (s : State) {old new : Entry}, entryAt s j = some old → new.fixed = old.fixed →
    R s (computeRoute (s.setEntry j new))
  duplicate : ∀ (d : Bool) (timer : Option Nat) (s : State),
    R s (s.setPeers { s.peers with duplicate := d, duplicateTimer := timer })
  loadState : ∀ (x : LoadState) (s : State), loadComplete s = false → loadComplete (s.setLoadState x) = false →
    R s (s.setLoadState x)
  profileFault : ∀ s : State, R s (s.setLoader { s.loader with profileFault := true })
  config : ∀ (reached : LoadState) (p : Profile) (s : State), loadComplete s = false →
    reached = .loaded ∨ reached = .fallback →
    R s (computeRoute (configureLeaves p (buildEntries p (recordLoad reached p s))))
  defaultAspect : ∀ p s, R s (showDefaultAspect p s)
  second : ∀ s, R s (passSecond s)

namespace SignRule

variable (r : SignRule W R)

include r

theorem away {l : List Block} (other : l.all (· ∉ [Block.lamp, .control, .route, .peers, .loader]) = true) :
    l.all (· ∉ W) = true :=
  List.all_eq_true.2 fun b mem => decide_eq_true fun watched =>
    of_decide_eq_true (List.all_eq_true.1 other b mem) (r.loose b watched)

theorem move (m : Move c s t) : R s t := by
  have frame := m.outside
  cases m with
  | alertMark => exact r.control s rfl
  | alertServed =>
    exact r.trans (r.control s (x := { s.control with alertPending := false }) rfl)
      (r.outside (requestAlert_keeps _) (r.away rfl))
  | control _ posture => exact r.control s posture
  | hushed b =>
    change R s (if s.control.hushed = b then s else decideSound (s.setControl { s.control with hushed := b }))
    split
    · exact r.refl s
    · exact r.trans (r.control s (x := { s.control with hushed := b }) rfl)
        (r.sign ((decideSound_keeps _).widen (by decide)) (decideSound_sign _))
  | posture p b => exact r.posture p b s
  | restored => exact r.restored s
  | leaf => exact r.setLeaves _ s
  | route before => exact r.computed before s
  | entry j _ found takes => exact r.entry j s found takes.fixed
  | duplicate d timer => exact r.duplicate d timer s
  | lamp _ same =>
    obtain ⟨aspect, placeholder, brightness, pattern, direction, position, flashOn, -, -⟩ := same
    exact r.sign (frame.widen (by decide)) ⟨aspect, placeholder, brightness, pattern, direction, position, flashOn⟩
  | test x => exact r.sign (frame.widen (by decide)) (turnTest_sign x s)
  | notified source n => exact r.sign (frame.widen (by decide)) (takeNotice_sounds source n s).sign
  | removed e => exact r.sign (frame.widen (by decide)) (removeSilent_sounds e s).sign
  | chimeEnd => exact r.sign (frame.widen (by decide)) (decideSound_sounds_of (setPost_keeps s _) (by decide)).sign
  | loadState x _ early still =>
    exact r.loadState x s (by simp [loadComplete, early]) (by simp [loadComplete, State.setLoadState, still])
  | config reached p _ early done => exact r.config reached p s early done
  | defaultAspect p => exact r.defaultAspect p s
  | profileFault => exact r.profileFault s
  | second => exact r.second s
  | _ => exact r.outside frame (r.away rfl)

end SignRule

/-! ## What a second makes of each block (R50) -/

theorem passSecond_peers (s : State) :
    (passSecond s).peers = { s.peers with entries := s.peers.entries.map Entry.older
                                          duplicateTimer := tick s.peers.duplicateTimer } := rfl

theorem passSecond_calls (s : State) :
    (passSecond s).calls = { s.calls with slots := s.calls.slots.map Slot.older } := rfl

theorem passSecond_doors (s : State) :
    (passSecond s).doors = { s.doors with leaves := s.doors.leaves.map Leaf.older } := rfl

theorem passSecond_control (s : State) :
    (passSecond s).control = { s.control with joinTimer := tick s.control.joinTimer } := rfl

theorem passSecond_post (s : State) :
    (passSecond s).post = { s.post with board := s.post.board.map BoardEntry.older
                                        returnTimer := tick s.post.returnTimer
                                        blink := s.post.blink.map Blink.older
                                        helpChime := tick s.post.helpChime } := rfl

theorem passSecond_lamp (s : State) : (passSecond s).lamp = { s.lamp with test := tick s.lamp.test } := rfl

theorem passSecond_line (s : State) : (passSecond s).line = { s.line with refresh := tick s.line.refresh } := rfl

/-! ## The brightness (R145) -/

/-- The brightness and the posture that it follows stand. -/
def SameBrightness (s t : State) : Prop :=
  t.lamp.brightness = s.lamp.brightness ∧ t.control.posture = s.control.posture

theorem sameBrightness_rule : LampRule [.lamp, .control] SameBrightness where
  trans h k := ⟨k.1.trans h.1, k.2.trans h.2⟩
  outside h clear := by
    have out : ∀ b ∈ [Block.lamp, .control], b ∉ _ := fun b read mem =>
      absurd read (by simpa using List.all_eq_true.1 clear b mem)
    exact ⟨by rw [h.lamp_eq (out _ (by decide))], by rw [h.control_eq (out _ (by decide))]⟩
  clear := rfl
  computed before s := by
    refine ⟨?_, by rw [(computeRouteFrom_keeps s before).control_eq (by decide)]⟩
    obtain ⟨-, same⟩ | derived := computeRouteFrom_lamp before s
    · rw [same]
    · rw [derived]
      exact (deriveLamps_light _).brightness

theorem SameBrightness.agrees (h : SameBrightness s t) (agrees : BrightnessAgrees s) : BrightnessAgrees t := by
  unfold BrightnessAgrees
  rw [h.1, h.2]
  exact agrees

theorem sameBrightness_decideSound (s : State) : SameBrightness s (decideSound s) := by
  unfold decideSound
  dsimp only
  split <;> exact ⟨rfl, rfl⟩

theorem brightnessAgrees_lampTakePosture (s : State) : BrightnessAgrees (lampTakePosture s) :=
  (sameBrightness_decideSound _).agrees ((deriveLamps_light _).brightness)

theorem setPosture_brightness (p : Posture) (b : Base) (s : State) (agrees : BrightnessAgrees s) :
    BrightnessAgrees (setPosture p b s) := by
  have r := sameBrightness_rule
  unfold setPosture
  dsimp only
  split
  · exact agrees
  · refine (r.queued _).agrees ?_
    split
    · next same =>
      have placed : SameBrightness s (s.setControl { s.control with posture := p, base := b }) := ⟨rfl, same.symm⟩
      exact (r.trans placed (r.setLeaves _ _)).agrees agrees
    · exact brightnessAgrees_lampTakePosture _

theorem sameBrightness_second (s : State) : SameBrightness s (passSecond s) :=
  ⟨by rw [passSecond_lamp], by rw [passSecond_control]⟩

theorem sameBrightness_built (reached : LoadState) (p : Profile) (s : State) :
    SameBrightness s (configureLeaves p (buildEntries p (recordLoad reached p s))) := ⟨rfl, rfl⟩

theorem sameBrightness_config (reached : LoadState) (p : Profile) (s : State) :
    SameBrightness s (computeRoute (configureLeaves p (buildEntries p (recordLoad reached p s)))) :=
  sameBrightness_rule.trans (sameBrightness_built reached p s) (sameBrightness_rule.computed _ _)

theorem sameBrightness_entry (j : Fin 8) (e : Entry) (s : State) : SameBrightness s (computeRoute (s.setEntry j e)) :=
  sameBrightness_rule.computed _ (s.setEntry j e)

theorem sameBrightness_defaultAspect (p : Profile) (s : State) : SameBrightness s (showDefaultAspect p s) := by
  unfold showDefaultAspect
  split <;> exact ⟨rfl, rfl⟩

theorem brightness_rule : SignRule [.lamp, .control] fun s t => BrightnessAgrees s → BrightnessAgrees t where
  trans h k := k ∘ h
  outside h clear := (sameBrightness_rule.outside h clear).agrees
  clear := rfl
  computed before s := (sameBrightness_rule.computed before s).agrees
  loose := by simp
  sign out same := SameBrightness.agrees ⟨same.brightness, congrArg Control.posture (out.control_eq (by decide))⟩
  control s x posture := SameBrightness.agrees ⟨rfl, posture⟩
  posture := setPosture_brightness
  restored s agrees := setPosture_brightness _ _
    (s.setControl { s.control with fireSet := [], hushed := false, provisionalBase := false }) agrees
  entry j s old new _ _ := (sameBrightness_entry j new s).agrees
  duplicate d timer s agrees := agrees
  loadState x s _ _ agrees := agrees
  profileFault s agrees := agrees
  config reached p s _ _ := (sameBrightness_config reached p s).agrees
  defaultAspect p s := (sameBrightness_defaultAspect p s).agrees
  second s := (sameBrightness_second s).agrees

/-- Such a property that holds at a reset's start, and that the steps of chase and flash, the reading of the pins and the
fall of the supply keep, is kept by every step. -/
theorem SignRule.kept {P : State → Prop} (r : SignRule W fun s t => P s → P t) (reset : ∀ s, P (resetState s))
    (pinReset : ∀ s, P (pinResetState s)) (chase : ∀ s, P s → P (takeChaseStep s)) (flash : ∀ s, P s → P (takeFlashPhase s))
    (pins : ∀ pins s, P s → P (readPins pins (s.setPower .running))) (loss : ∀ s, P s → P (losePower s)) : Kept P := by
  intro s t held answer
  have w := r.toWatches
  have run : ∀ {s t}, Run s t → P s → P t := fun ran => ran.rel w fun _ _ _ => r.move
  refine step_rel w (fun mem => absurd (r.loose _ mem) (by decide)) (fun _ v _ => reset v)
    (fun wire v _ => pinReset (countCut wire v)) (fun p v _ => ?_) loss (fun i v _ => ?_) answer held
  · exact w.trans (pins p v) (w.trans (run (resetEnd_run p v)) (w.outside (settle_keeps _) (r.away rfl)))
  · refine w.trans ?_ (w.outside (endingOf_keeps i _) (r.away rfl))
    by_cases chasing : i = .chaseStepExpiry
    · subst chasing
      exact chase v
    by_cases flashing : i = .flashPhaseExpiry
    · subst flashing
      exact flash v
    exact run (workOf_run i v chasing flashing)

theorem brightnessAgrees_kept : Kept BrightnessAgrees := by
  have turned : ∀ (s : State) (l : Lamp), l.brightness = s.lamp.brightness → BrightnessAgrees s →
      BrightnessAgrees (s.turnLamp l) := fun s l same agrees =>
    SameBrightness.agrees ⟨((Lamp.sameLight_turnedFrom s.lamp l).brightness).trans same, rfl⟩ agrees
  refine brightness_rule.kept (fun _ => rfl) (fun _ => rfl) (fun s => ?_) (fun s => ?_) (fun _ _ => id) fun _ => id
  · unfold takeChaseStep
    split
    · exact turned s _ rfl
    · exact id
  · unfold takeFlashPhase
    split
    · exact turned s _ rfl
    · exact id

end Sys2Proof.Machine
end


section
/-! SUPPORT. The proofs that the sign and the strip follow posture and next hop, that the sound is R156's, and that Chase
and Flash begin at their start. -/

namespace Sys2Proof.Machine

variable {c W : List Block} {s t u : State}

/-! ## Before the load nothing leads out (R61) -/

/-- Before the load there are no entries, no exit and no next hop (R61). -/
def EarlyNone (s : State) : Prop :=
  loadComplete s = false → s.route.next = .none ∧ s.peers.entries = [] ∧ s.loader.config = none

theorem chooseRoute_noWay (held : NextHop) : (chooseRoute held noWay (Eight.fill noWay)).next = .none := by
  have now : candidateVia noWay (Eight.fill noWay) held = noWay := by
    cases held with
    | entry j => exact Eight.get_fill noWay j
    | _ => rfl
  unfold chooseRoute
  rw [now]
  rfl

/-- With no entries and no profile no way leads out. -/
theorem routeOf_early (entries : s.peers.entries = []) (config : s.loader.config = none) : (routeOf s).next = .none := by
  have exit : viaExit s = noWay := by simp [viaExit, exitWeight, config, exitCandidate]
  have all : Eight.tabulate (viaEntry s) = Eight.fill noWay :=
    Eight.ext_get fun j => by simp [viaEntry, entries]
  rw [routeOf, exit, all]
  exact chooseRoute_noWay _

theorem earlyNone_watches : Watches [.route, .peers, .loader] fun s t => EarlyNone s → EarlyNone t where
  trans h k := k ∘ h
  outside h clear := fun early => by
    have out : ∀ b ∈ [Block.route, .peers, .loader], b ∉ _ := fun b read mem =>
      absurd read (by simpa using List.all_eq_true.1 clear b mem)
    unfold EarlyNone loadComplete
    rw [h.route_eq (out _ (by decide)), h.peers_eq (out _ (by decide)), h.loader_eq (out _ (by decide))]
    exact early

theorem earlyNone_rule : LampRule [.route, .peers, .loader] fun s t => EarlyNone s → EarlyNone t where
  toWatches := earlyNone_watches
  clear := rfl
  computed before s early := by
    have keeps := computeRouteFrom_keeps s before
    unfold EarlyNone loadComplete
    rw [keeps.peers_eq (by decide), keeps.loader_eq (by decide), computeRouteFrom_route]
    intro loading
    obtain ⟨-, entries, config⟩ := early loading
    exact ⟨routeOf_early entries config, entries, config⟩

/-! ## The sign and the strip follow posture and next hop (R146, R147, R149) -/

theorem hopEntry_of_entry {j : Fin 8} {e : Entry} (next : s.route.next = .entry j) (found : entryAt s j = some e) :
    hopEntry s = some e.fixed := by
  have here : s.peers.entries[j.val]? = some e := found
  simp [hopEntry, next, here]

theorem hopAspect_of_entry {j : Fin 8} {e : Entry} (next : s.route.next = .entry j) (found : entryAt s j = some e) :
    hopAspect s = some e.fixed.aspect := by
  simp [hopAspect, next, hopEntry_of_entry next found]

theorem hopAspect_of_exit (next : s.route.next = .exit) : hopAspect s = some .exit := by simp [hopAspect, next]

theorem hopAspect_of_none (next : s.route.next = .none) : hopAspect s = none := by simp [hopAspect, hopEntry, next]

theorem derivePattern_of_exit (evacuate : s.control.posture = .evacuate) (next : s.route.next = .exit) (l : Lamp) :
    derivePattern s l = chase .forward l := by simp [derivePattern, evacuate, next]

theorem derivePattern_of_none (evacuate : s.control.posture = .evacuate) (next : s.route.next = .none) (l : Lamp) :
    derivePattern s l = flash l := by simp [derivePattern, evacuate, next]

theorem derivePattern_of_way {j : Fin 8} {e : Entry} {d : Direction} (evacuate : s.control.posture = .evacuate)
    (next : s.route.next = .entry j) (found : entryAt s j = some e) (strip : e.fixed.strip = some d) (l : Lamp) :
    derivePattern s l = chase d l := by
  simp [derivePattern, evacuate, next, hopEntry_of_entry next found, strip]

theorem derivePattern_of_noStrip {j : Fin 8} {e : Entry} (evacuate : s.control.posture = .evacuate)
    (next : s.route.next = .entry j) (found : entryAt s j = some e) (strip : e.fixed.strip = none) (l : Lamp) :
    derivePattern s l = { l with pattern := .steady } := by
  simp [derivePattern, evacuate, next, hopEntry_of_entry next found, strip]

theorem derivePattern_of_calm (calm : s.control.posture ≠ .evacuate) (l : Lamp) :
    derivePattern s l = { l with pattern := .steady } := if_neg calm

/-- What the derivation shows: the aspect's part, then the pattern's. -/
theorem deriveLamps_lamp (s : State) :
    (deriveLamps s).lamp.aspect = (deriveAspect s s.lamp).aspect
      ∧ (deriveLamps s).lamp.placeholder = (deriveAspect s s.lamp).placeholder
      ∧ (deriveLamps s).lamp.pattern = (derivePattern s (deriveAspect s s.lamp)).pattern
      ∧ (deriveLamps s).lamp.direction = (derivePattern s (deriveAspect s s.lamp)).direction := by
  have patterned := patterned_derivePattern s (deriveAspect s s.lamp)
  unfold deriveLamps
  rw [State.turnLamp_lamp, Lamp.turnedFrom_eq]
  exact ⟨patterned.aspect, patterned.placeholder, rfl, rfl⟩

/-- A derivation makes sign and strip follow posture and next hop. -/
theorem lampFollows_deriveLamps (early : EarlyNone s) : LampFollows (deriveLamps s) := by
  obtain ⟨aspect, placeholder, pattern, direction⟩ := deriveLamps_lamp s
  have shown : ∀ a, hopAspect s = some a → (deriveLamps s).lamp.aspect = a ∧ (deriveLamps s).lamp.placeholder = false := by
    intro a hop
    rw [aspect, placeholder, deriveAspect_of_hop hop]
    exact ⟨rfl, rfl⟩
  unfold LampFollows
  refine ⟨fun evacuate => ⟨?_, fun next => ⟨?_, ?_⟩, fun next => ⟨?_, ?_⟩, fun j e next found => ⟨?_, ?_, ?_⟩⟩,
    fun calm => ⟨?_, fun next => ?_, fun j e next found => ?_⟩, early⟩
  · cases hop : hopAspect s with
    | some a => exact (shown a hop).2
    | none => rw [placeholder, deriveAspect_of_evacuate hop evacuate]
  · rw [aspect, deriveAspect_of_evacuate (s := s) (hopAspect_of_none next) evacuate]
  · rw [pattern, derivePattern_of_none (s := s) evacuate next]
    exact flash_runs _
  · exact (shown _ (hopAspect_of_exit next)).1
  · rw [pattern, direction, derivePattern_of_exit (s := s) evacuate next]
    exact chase_runs _ _
  · exact (shown _ (hopAspect_of_entry next found)).1
  · intro strip
    rw [pattern, derivePattern_of_noStrip (s := s) evacuate next found strip]
  · intro d strip
    rw [pattern, direction, derivePattern_of_way (s := s) evacuate next found strip]
    exact chase_runs _ _
  · rw [pattern, derivePattern_of_calm (s := s) calm]
  · exact shown _ (hopAspect_of_exit next)
  · exact shown _ (hopAspect_of_entry next found)

/-- What sign and strip show of posture and next hop. -/
structure Lamp.SameFace (l n : Lamp) : Prop where
  aspect : n.aspect = l.aspect
  placeholder : n.placeholder = l.placeholder
  pattern : n.pattern = l.pattern
  direction : n.direction = l.direction

theorem Lamp.SameSign.face {l n : Lamp} (h : l.SameSign n) : l.SameFace n :=
  ⟨h.aspect, h.placeholder, h.pattern, h.direction⟩

/-- The entry that the next hop names is of the same fixed fields. -/
def SameHop (s t : State) : Prop :=
  t.route.next = s.route.next ∧
    ∀ j e, s.route.next = .entry j → entryAt t j = some e → ∃ f, entryAt s j = some f ∧ f.fixed = e.fixed

theorem SameHop.refl_of (route : t.route = s.route) (peers : t.peers.entries = s.peers.entries) : SameHop s t :=
  ⟨congrArg RouteRecord.next route, fun j e _ found => ⟨e, by rwa [entryAt, ← peers], rfl⟩⟩

theorem LampFollows.congr (follows : LampFollows s) (face : s.lamp.SameFace t.lamp)
    (posture : t.control.posture = s.control.posture) (hop : SameHop s t) (early : EarlyNone t) : LampFollows t := by
  obtain ⟨leading, calm, -⟩ := follows
  obtain ⟨next, fixed⟩ := hop
  unfold LampFollows
  rw [face.aspect, face.placeholder, face.pattern, face.direction, posture, next]
  refine ⟨fun evacuate => ?_, fun here => ?_, fun loading => ?_⟩
  · obtain ⟨placeholder, none, exit, entry⟩ := leading evacuate
    refine ⟨placeholder, none, exit, fun j e named found => ?_⟩
    obtain ⟨f, there, same⟩ := fixed j e named found
    rw [← same]
    exact entry j f named there
  · obtain ⟨steady, exit, entry⟩ := calm here
    refine ⟨steady, exit, fun j e named found => ?_⟩
    obtain ⟨f, there, same⟩ := fixed j e named found
    rw [← same]
    exact entry j f named there
  · exact next ▸ early loading

theorem LampFollows.early (follows : LampFollows s) : EarlyNone s := follows.2.2

theorem lampFollows_watches :
    Watches [.lamp, .control, .route, .peers, .loader] fun s t => LampFollows s → LampFollows t where
  trans h k := k ∘ h
  outside h clear := fun follows => by
    have out : ∀ b ∈ [Block.lamp, .control, .route, .peers, .loader], b ∉ _ := fun b read mem =>
      absurd read (by simpa using List.all_eq_true.1 clear b mem)
    refine follows.congr ?_ ?_ (.refl_of (h.route_eq (out _ (by decide))) ?_) ?_
    · rw [h.lamp_eq (out _ (by decide))]
      exact ⟨rfl, rfl, rfl, rfl⟩
    · rw [h.control_eq (out _ (by decide))]
    · rw [h.peers_eq (out _ (by decide))]
    · refine earlyNone_watches.outside h (List.all_eq_true.2 fun b mem => decide_eq_true fun read => ?_) follows.early
      exact out b (by simp only [List.mem_cons, List.not_mem_nil, or_false] at read ⊢; tauto) mem

theorem computeRouteFrom_lampFollows (before : Nat) (s : State) (follows : LampFollows s) :
    LampFollows (computeRouteFrom before s) := by
  have keeps := computeRouteFrom_keeps s before
  have early := earlyNone_rule.computed before s follows.early
  have peers := keeps.peers_eq (by decide)
  have control := keeps.control_eq (by decide)
  obtain ⟨next, same⟩ | derived := computeRouteFrom_lamp before s
  · refine follows.congr (by rw [same]; exact ⟨rfl, rfl, rfl, rfl⟩) (by rw [control])
      ⟨by rw [computeRouteFrom_route]; exact next, fun j e _ found => ⟨e, ?_, rfl⟩⟩ early
    rwa [entryAt, peers] at found
  · have routed : EarlyNone (s.setRoute (routeOf s)) := fun loading => by
      have none := early (by rwa [loadComplete, keeps.loader_eq (by decide)])
      rw [peers, keeps.loader_eq (by decide), computeRouteFrom_route] at none
      exact none
    refine (lampFollows_deriveLamps routed).congr (by rw [derived]; exact ⟨rfl, rfl, rfl, rfl⟩)
      (by rw [control]; rfl) ⟨computeRouteFrom_route before s ▸ rfl, fun j e _ found => ⟨e, ?_, rfl⟩⟩ early
    rwa [entryAt, peers] at found

theorem lampFollows_lampRule :
    LampRule [.lamp, .control, .route, .peers, .loader] fun s t => LampFollows s → LampFollows t where
  toWatches := lampFollows_watches
  clear := rfl
  computed := computeRouteFrom_lampFollows

theorem lampTakePosture_lampFollows (early : EarlyNone s) : LampFollows (lampTakePosture s) := by
  have derived := lampFollows_deriveLamps (s := s.setLamp { s.lamp with brightness := brightnessOf s.control.posture }) early
  have sounded := decideSound_keeps (deriveLamps (s.setLamp { s.lamp with brightness := brightnessOf s.control.posture }))
  exact derived.congr (decideSound_sign _).face (congrArg Control.posture (sounded.control_eq (by decide)))
    (.refl_of (sounded.route_eq (by decide)) (congrArg PeerTable.entries (sounded.peers_eq (by decide))))
    (earlyNone_watches.outside sounded rfl early)

theorem setPosture_lampFollows (p : Posture) (b : Base) (s : State) (follows : LampFollows s) :
    LampFollows (setPosture p b s) := by
  have r := lampFollows_lampRule
  have e := earlyNone_rule
  unfold setPosture
  dsimp only
  split
  · exact follows
  · refine r.queued _ ?_
    split
    · next same =>
      refine r.setLeaves _ _ (follows.congr (t := s.setControl { s.control with posture := p, base := b })
        ⟨rfl, rfl, rfl, rfl⟩ same.symm (.refl_of rfl rfl) follows.early)
    · exact lampTakePosture_lampFollows (e.outside (callsTakePosture_keeps _ s.control.posture) rfl
        (e.setLeaves _ (s.setControl { s.control with posture := p, base := b }) follows.early))

theorem lampFollows_rule :
    SignRule [.lamp, .control, .route, .peers, .loader] fun s t => LampFollows s → LampFollows t where
  toLampRule := lampFollows_lampRule
  loose := by simp
  sign out same follows := by
    refine follows.congr same.face (by rw [out.control_eq (by decide)])
      (.refl_of (out.route_eq (by decide)) (by rw [out.peers_eq (by decide)])) ?_
    exact earlyNone_watches.outside out rfl follows.early
  control s x posture follows := follows.congr ⟨rfl, rfl, rfl, rfl⟩ posture (.refl_of rfl rfl) follows.early
  posture := setPosture_lampFollows
  restored s follows := setPosture_lampFollows _ _ _
    (follows.congr (t := s.setControl { s.control with fireSet := [], hushed := false, provisionalBase := false })
      ⟨rfl, rfl, rfl, rfl⟩ rfl (.refl_of rfl rfl) follows.early)
  entry j s old new found fixed follows := by
    refine computeRouteFrom_lampFollows _ _ (follows.congr (t := s.setEntry j new) ⟨rfl, rfl, rfl, rfl⟩ rfl
      ⟨rfl, fun i e _ here => ?_⟩ fun loading => ?_)
    · rw [entryAt, State.setEntry, State.setPeers_peers, List.getElem?_set] at here
      split at here
      · next same =>
        split at here
        · obtain rfl := Option.some.inj here
          exact ⟨old, (show s.peers.entries[i.val]? = some old from same ▸ found), fixed.symm⟩
        · cases here
      · exact ⟨e, here, rfl⟩
    · have none := (follows.early loading).2.1
      rw [entryAt, none] at found
      cases found
  duplicate d timer s follows := follows.congr ⟨rfl, rfl, rfl, rfl⟩ rfl (.refl_of rfl rfl) follows.early
  loadState x s before after follows :=
    follows.congr ⟨rfl, rfl, rfl, rfl⟩ rfl (.refl_of rfl rfl) fun _ => follows.early before
  profileFault s follows := follows.congr ⟨rfl, rfl, rfl, rfl⟩ rfl (.refl_of rfl rfl) follows.early
  config reached p s before done follows := by
    refine computeRouteFrom_lampFollows _ _
      (follows.congr (t := configureLeaves p (buildEntries p (recordLoad reached p s))) ⟨rfl, rfl, rfl, rfl⟩ rfl
        ⟨rfl, fun j e named _ => ?_⟩ fun loading => ?_)
    · cases (follows.early before).1.symm.trans named
    · obtain rfl | rfl := done <;> cases loading
  defaultAspect p s follows := by
    unfold showDefaultAspect
    split
    · next calm =>
      obtain ⟨calm, none, -⟩ := calm
      obtain ⟨-, steady, early⟩ := follows
      refine ⟨fun evacuate => absurd evacuate calm, fun _ => ⟨(steady calm).1, fun exit => ?_, fun j e named _ => ?_⟩, early⟩
      · cases none.symm.trans exit
      · cases none.symm.trans named
    · exact follows
  second s follows := by
    refine follows.congr ⟨rfl, rfl, rfl, rfl⟩ rfl ⟨rfl, fun j e _ found => ?_⟩ fun loading => ?_
    · have aged : (s.peers.entries.map Entry.older)[j.val]? = some e := found
      rw [List.getElem?_map] at aged
      obtain ⟨f, there, rfl⟩ := Option.map_eq_some_iff.1 aged
      exact ⟨f, there, rfl⟩
    · have frame := passSecond_keeps s
      rw [loadComplete, frame.loader_eq (by decide)] at loading
      rw [frame.route_eq (by decide), frame.loader_eq (by decide)]
      obtain ⟨none, entries, config⟩ := follows.early loading
      have aged : (passSecond s).peers.entries = s.peers.entries.map Entry.older := rfl
      rw [aged, entries]
      exact ⟨none, rfl, config⟩

theorem turnLamp_lampFollows {l : Lamp} (face : s.lamp.SameFace l) (follows : LampFollows s) :
    LampFollows (s.turnLamp l) := by
  refine follows.congr ?_ rfl (.refl_of rfl rfl) follows.early
  rw [State.turnLamp_lamp, Lamp.turnedFrom_eq]
  exact ⟨face.aspect, face.placeholder, face.pattern, face.direction⟩

theorem lampFollows_kept : Kept (fun s => LampFollows s ∧ HeldAtReset s) := by
  have w := lampFollows_watches
  have r := lampFollows_rule
  have run : ∀ {s t}, Run s t → LampFollows s → LampFollows t := fun ran => ran.rel w fun _ _ _ => r.move
  refine kept_from_reset (fun _ _ => id) (fun _ => lamp_reset.2.2) (fun _ => lamp_reset.2.2)
    (fun pins s held atReset _ => ?_) (fun _ => id) (fun i s _ => ?_)
  · refine w.outside (settle_keeps _) rfl (run (resetEnd_run pins s) ?_)
    have follows : LampFollows s := by
      rw [atReset held]
      exact lamp_reset.2.2
    exact follows.congr ⟨rfl, rfl, rfl, rfl⟩ rfl (.refl_of rfl rfl) fun _ => by
      rw [atReset held]
      exact ⟨rfl, rfl, rfl⟩
  · refine w.trans ?_ (w.outside (endingOf_keeps i _) rfl)
    by_cases chasing : i = .chaseStepExpiry
    · subst chasing
      exact w.ite (turnLamp_lampFollows ⟨rfl, rfl, rfl, rfl⟩) id
    by_cases flashing : i = .flashPhaseExpiry
    · subst flashing
      exact w.ite (turnLamp_lampFollows ⟨rfl, rfl, rfl, rfl⟩) id
    exact run (workOf_run i s chasing flashing)

/-! ## Chase and Flash begin at their start (R150, R151) -/

theorem goes_watches : Watches [.lamp] fun s t => s.lamp.Goes t.lamp where
  trans := .trans
  outside h clear := by
    have out : Block.lamp ∉ _ := fun mem => absurd (List.all_eq_true.1 clear _ mem) (by decide)
    rw [h.lamp_eq out]
    exact .refl _

theorem goes_lampRule : LampRule [.lamp] fun s t => s.lamp.Goes t.lamp where
  toWatches := goes_watches
  clear := rfl
  computed before s := by
    obtain ⟨-, same⟩ | derived := computeRouteFrom_lamp before s
    · rw [same]
      exact .refl _
    · rw [derived]
      exact deriveLamps_goes (s.setRoute (routeOf s))

theorem lampTakePosture_goes (s : State) : s.lamp.Goes (lampTakePosture s).lamp :=
  have bright : s.lamp.Goes (s.setLamp { s.lamp with brightness := brightnessOf s.control.posture }).lamp :=
    .of_same rfl rfl rfl rfl
  (bright.trans (deriveLamps_goes _)).trans (decideSound_sign _).goes

theorem setPosture_goes (p : Posture) (b : Base) (s : State) : s.lamp.Goes (setPosture p b s).lamp := by
  have r := goes_lampRule
  unfold setPosture
  dsimp only
  split
  · exact .refl _
  · refine Lamp.Goes.trans ?_ (r.queued _)
    have led : s.lamp.Goes (doorsTakePosture s.control.posture s.control.base
        (s.setControl { s.control with posture := p, base := b })).lamp :=
      r.setLeaves _ (s.setControl { s.control with posture := p, base := b })
    split
    · exact led
    · refine led.trans ?_
      rw [← (callsTakePosture_keeps _ s.control.posture).lamp_eq (by decide)]
      exact lampTakePosture_goes _

theorem goes_rule : SignRule [.lamp] fun s t => s.lamp.Goes t.lamp where
  toLampRule := goes_lampRule
  loose := by simp
  sign _ same := same.goes
  control s _ _ := .refl s.lamp
  posture := setPosture_goes
  restored s := setPosture_goes _ _
    (s.setControl { s.control with fireSet := [], hushed := false, provisionalBase := false })
  entry j s _ new _ _ := goes_lampRule.computed _ (s.setEntry j new)
  duplicate _ _ s := .refl s.lamp
  loadState _ s _ _ := .refl s.lamp
  profileFault s := .refl s.lamp
  config reached p s _ _ := goes_lampRule.computed _ (configureLeaves p (buildEntries p (recordLoad reached p s)))
  defaultAspect p s := by
    unfold showDefaultAspect
    split
    · exact .of_same rfl rfl rfl rfl
    · exact .refl _
  second s := .of_same rfl rfl rfl rfl

theorem patternsBegin_of_same {l n : Lamp} (pattern : n.pattern = l.pattern) (direction : n.direction = l.direction) :
    PatternsBegin l n :=
  ⟨fun chasing other => other.elim (absurd (pattern.symm.trans chasing)) (absurd direction.symm),
    fun flashing other => absurd (pattern.symm.trans flashing) other⟩

theorem patternsBegin_of_steady {l n : Lamp} (steady : n.pattern = .steady) : PatternsBegin l n :=
  (Lamp.goes_steady steady).begins

theorem turnLamp_begins {l : Lamp} (face : s.lamp.SameFace l) : PatternsBegin s.lamp (s.turnLamp l).lamp := by
  rw [State.turnLamp_lamp, Lamp.turnedFrom_eq]
  exact patternsBegin_of_same face.pattern face.direction

theorem step_patternsBegin (answer : step s = .next t) : PatternsBegin s.lamp t.lamp := by
  have r := goes_rule
  have w := goes_watches
  obtain ⟨rest, stepped⟩ := step_cases answer
  cases stepped with
  | still => exact (Lamp.Goes.refl s.lamp).begins
  | powerOn | pin => exact patternsBegin_of_steady rfl
  | resetEnd pins =>
    have run : Lamp.Goes _ _ := (resetEnd_run pins (s.setPending rest)).rel w fun _ _ _ => r.move
    exact (Lamp.Goes.trans run (w.outside (settle_keeps _) rfl)).begins
  | loss => exact patternsBegin_of_same rfl rfl
  | event i =>
    have ends := (endingOf_keeps i (workOf i (s.setPending rest))).lamp_eq (by cases i <;> decide)
    rw [ends]
    by_cases chasing : i = .chaseStepExpiry
    · subst chasing
      change PatternsBegin s.lamp (takeChaseStep (s.setPending rest)).lamp
      unfold takeChaseStep
      split
      · exact turnLamp_begins (s := s.setPending rest) ⟨rfl, rfl, rfl, rfl⟩
      · exact patternsBegin_of_same rfl rfl
    by_cases flashing : i = .flashPhaseExpiry
    · subst flashing
      change PatternsBegin s.lamp (takeFlashPhase (s.setPending rest)).lamp
      unfold takeFlashPhase
      split
      · exact turnLamp_begins (s := s.setPending rest) ⟨rfl, rfl, rfl, rfl⟩
      · exact patternsBegin_of_same rfl rfl
    have run : Lamp.Goes _ _ := (workOf_run i (s.setPending rest) chasing flashing).rel w fun _ _ _ => r.move
    exact run.begins

/-! ## The sound (R156) -/

/-- What the sound is decided by, and the sound. -/
structure SoundView where
  sound : Sound
  test : Bool
  tone : Bool
  continuous : Bool
  help : Bool

/-- The Evacuate tone is due (R156). -/
def toneDue (s : State) : Bool := decide (s.control.posture = .evacuate ∧ s.control.hushed = false)

def soundView (s : State) : SoundView :=
  ⟨s.lamp.sound, s.lamp.test.isSome, toneDue s, continuousChime s.post, s.post.helpChime.isSome⟩

theorem soundAgrees_of_view (v : soundView t = soundView s) (agrees : SoundAgrees s) : SoundAgrees t := by
  have sound : t.lamp.sound = s.lamp.sound := congrArg SoundView.sound v
  have test : t.lamp.test.isSome = s.lamp.test.isSome := congrArg SoundView.test v
  have tone : (t.control.posture = .evacuate ∧ t.control.hushed = false)
      ↔ (s.control.posture = .evacuate ∧ s.control.hushed = false) := decide_eq_decide.1 (congrArg SoundView.tone v)
  have continuous : continuousChime t.post = continuousChime s.post := congrArg SoundView.continuous v
  have help : t.post.helpChime.isSome = s.post.helpChime.isSome := congrArg SoundView.help v
  unfold SoundAgrees soundOf at agrees ⊢
  simp only [sound, test, tone, continuous, help]
  exact agrees

theorem soundAgrees_watches : Watches [.lamp, .control, .post] fun s t => SoundAgrees s → SoundAgrees t where
  trans h k := k ∘ h
  outside h clear := soundAgrees_of_view (by
    have out : ∀ b ∈ [Block.lamp, .control, .post], b ∉ _ := fun b read mem =>
      absurd read (by simpa using List.all_eq_true.1 clear b mem)
    unfold soundView toneDue
    rw [h.lamp_eq (out _ (by decide)), h.control_eq (out _ (by decide)), h.post_eq (out _ (by decide))])

/-- Deciding makes the sound R156's, whatever it was. -/
theorem soundAgrees_decideSound (s : State) : SoundAgrees (decideSound s) := by
  unfold decideSound
  dsimp only
  split
  · assumption
  · rfl

/-- A lamp of the same sound and the same test. -/
theorem soundAgrees_setLamp {l : Lamp} (sound : l.sound = s.lamp.sound) (test : l.test.isSome = s.lamp.test.isSome) :
    SoundAgrees s → SoundAgrees (s.setLamp l) := by
  refine soundAgrees_of_view ?_
  unfold soundView toneDue
  rw [State.setLamp_lamp, sound, test]
  rfl

theorem computeRouteFrom_sound (before : Nat) (s : State) (agrees : SoundAgrees s) :
    SoundAgrees (computeRouteFrom before s) := by
  have keeps := computeRouteFrom_keeps s before
  have light : (computeRouteFrom before s).lamp.sound = s.lamp.sound
      ∧ (computeRouteFrom before s).lamp.test = s.lamp.test := by
    obtain ⟨-, same⟩ | derived := computeRouteFrom_lamp before s
    · rw [same]
      exact ⟨rfl, rfl⟩
    · rw [derived]
      exact ⟨(deriveLamps_light _).sound, (deriveLamps_light _).test⟩
  refine soundAgrees_of_view ?_ agrees
  unfold soundView toneDue
  rw [light.1, light.2, keeps.control_eq (by decide), keeps.post_eq (by decide)]

theorem soundAgrees_lampRule : LampRule [.lamp, .control, .post] fun s t => SoundAgrees s → SoundAgrees t where
  toWatches := soundAgrees_watches
  clear := rfl
  computed := computeRouteFrom_sound

/-- A change of posture decides the sound; a change of base leaves what it is decided by. -/
theorem setPosture_sound (p : Posture) (b : Base) (s : State) (agrees : s.control.posture = p → SoundAgrees s) :
    SoundAgrees (setPosture p b s) := by
  have r := soundAgrees_lampRule
  unfold setPosture
  dsimp only
  split
  · next same => exact agrees same.1
  · refine r.queued _ ?_
    split
    · next same =>
      refine r.setLeaves _ (s.setControl { s.control with posture := p, base := b }) (soundAgrees_of_view ?_ (agrees same))
      unfold soundView toneDue
      rw [← same]
      rfl
    · exact soundAgrees_decideSound _

theorem Base.posture_ne_evacuate (b : Base) : b.posture ≠ .evacuate := by cases b <;> decide

/-- Taking a notice decides the sound, or leaves the post as it was. -/
theorem takeNotice_sound (source : Station) (n : Notice) (s : State) (agrees : SoundAgrees s) :
    SoundAgrees (takeNotice source n s) := by
  unfold takeNotice
  split
  · exact agrees
  · split
    · exact soundAgrees_decideSound _
    · exact soundAgrees_decideSound _
    · exact agrees

theorem move_sound (m : Move c s t) (agrees : SoundAgrees s) : SoundAgrees t := by
  have frame := m.outside
  have w := soundAgrees_watches
  have r := soundAgrees_lampRule
  cases m with
  | alertMark => exact agrees
  | alertServed => exact w.outside (requestAlert_keeps _) rfl agrees
  | @control _ x posture _ _ hushed =>
    refine soundAgrees_of_view ?_ agrees
    have tone : toneDue (s.setControl x) = toneDue s := by
      unfold toneDue
      rw [State.setControl_control, posture]
      obtain same | calm := hushed
      · rw [same]
      · simp [calm]
    unfold soundView
    rw [tone]
    rfl
  | hushed b =>
    change SoundAgrees (if s.control.hushed = b then s else decideSound (s.setControl { s.control with hushed := b }))
    split
    · exact agrees
    · exact soundAgrees_decideSound _
  | posture p b => exact setPosture_sound p b s fun _ => agrees
  | restored _ was =>
    refine setPosture_sound _ _ _ fun same => ?_
    rw [State.setControl_control] at same
    exact absurd (same.symm.trans was) (Base.posture_ne_evacuate _)
  | leaf => exact r.setLeaves _ s agrees
  | route before => exact r.computed before s agrees
  | entry j _ => exact r.computed _ (s.setEntry j _) agrees
  | lamp _ same =>
    obtain ⟨-, -, -, -, -, -, -, sound, test⟩ := same
    exact soundAgrees_setLamp sound (congrArg _ test) agrees
  | test x => exact soundAgrees_decideSound _
  | notified source n => exact takeNotice_sound source n s agrees
  | removed e =>
    change SoundAgrees (if e.silentMark then
      decideSound (setBoard (s.post.board.filter (fun x => !x.isFor e.station e.slot)) s) else s)
    split
    · exact soundAgrees_decideSound _
    · exact agrees
  | chimeEnd => exact soundAgrees_decideSound _
  | post _ chime board =>
    refine soundAgrees_of_view ?_ agrees
    unfold soundView
    rw [State.setPost_post, chime, board]
    rfl
  | config reached p =>
    exact r.computed _ (configureLeaves p (buildEntries p (recordLoad reached p s))) agrees
  | defaultAspect p =>
    unfold showDefaultAspect
    split
    · exact soundAgrees_setLamp rfl rfl agrees
    · exact agrees
  | second =>
    refine soundAgrees_of_view ?_ agrees
    unfold soundView toneDue continuousChime
    rw [passSecond_lamp, passSecond_control, passSecond_post]
    simp only [anyRaised_map (f := BoardEntry.older) (fun _ => rfl) (fun _ => rfl), tick, Option.isSome_map]
  | _ => exact w.outside frame rfl agrees

theorem soundAgrees_kept : Kept SoundAgrees := by
  intro s t held answer
  have w := soundAgrees_watches
  have run : ∀ {s t}, Run s t → SoundAgrees s → SoundAgrees t := fun ran => ran.rel w fun _ _ _ => move_sound
  have turned : ∀ (s : State) (l : Lamp), l.sound = s.lamp.sound → l.test = s.lamp.test → SoundAgrees s →
      SoundAgrees (s.turnLamp l) := fun s l sound test =>
    have light := Lamp.sameLight_turnedFrom s.lamp l
    soundAgrees_setLamp (light.sound.trans sound) (congrArg _ (light.test.trans test))
  refine step_rel w (by decide) (fun _ v _ => rfl) (fun wire v _ => rfl) (fun p v _ => ?_) (fun _ => id)
    (fun i v _ => ?_) answer held
  · have pinsRead : SoundAgrees v → SoundAgrees (readPins p (v.setPower .running)) := id
    exact w.trans pinsRead (w.trans (run (resetEnd_run p v)) (w.outside (settle_keeps _) rfl))
  · refine w.trans ?_ (w.outside (endingOf_keeps i _) rfl)
    by_cases chasing : i = .chaseStepExpiry
    · subst chasing
      exact w.ite (turned v _ rfl rfl) id
    by_cases flashing : i = .flashPhaseExpiry
    · subst flashing
      exact w.ite (turned v _ rfl rfl) id
    exact run (workOf_run i v chasing flashing)

theorem anyRaised_eq_true {board : List BoardEntry} {k : CallKind} :
    anyRaised board k = true ↔ ∃ e ∈ board, e.kind = k ∧ e.state = .raised := by
  simp [anyRaised]

/-- R156 in the manual's words. -/
theorem soundIsR156_of_agrees (agrees : SoundAgrees s) : SoundIsR156 s := by
  have chime : continuousChime s.post = true ↔
      ∃ e ∈ s.post.board, e.state = .raised ∧ (e.kind = .fire ∨ e.kind = .intrusion) := by
    rw [continuousChime, Bool.or_eq_true, anyRaised_eq_true, anyRaised_eq_true]
    constructor
    · rintro (⟨e, mem, kind, raised⟩ | ⟨e, mem, kind, raised⟩)
      · exact ⟨e, mem, raised, .inl kind⟩
      · exact ⟨e, mem, raised, .inr kind⟩
    · rintro ⟨e, mem, raised, kind | kind⟩
      · exact .inl ⟨e, mem, kind, raised⟩
      · exact .inr ⟨e, mem, kind, raised⟩
  unfold SoundAgrees soundOf at agrees
  refine ⟨fun test => by rw [agrees, if_pos test], fun none => ?_⟩
  have untested : ¬s.lamp.test.isSome = true := by simp [none]
  rw [if_neg untested] at agrees
  refine ⟨fun evacuate loud => by rw [agrees, if_pos ⟨evacuate, loud⟩], fun quiet => ?_⟩
  have toneless : ¬(s.control.posture = .evacuate ∧ s.control.hushed = false) := by
    rintro ⟨evacuate, loud⟩
    obtain calm | hushed := quiet
    · exact calm evacuate
    · cases loud.symm.trans hushed
  rw [if_neg toneless] at agrees
  refine ⟨fun raised => by rw [agrees, if_pos (chime.2 raised)], fun still => ?_⟩
  have chimeless : ¬continuousChime s.post = true := fun on => by
    obtain ⟨e, mem, raised, kind⟩ := chime.1 on
    obtain ⟨noFire, noIntrusion⟩ := still e mem raised
    exact kind.elim noFire noIntrusion
  rw [agrees, if_neg chimeless]

end Sys2Proof.Machine
end


section
/-! SUPPORT. What every step makes of the zone hazard and the Blind flag, and the proofs that they stay R20's and
R21's. -/

namespace Sys2Proof.Machine

variable {c : List Block} {s t u : State} {R : State → State → Prop}

/-! ## The works that change the hazard, the front end, the posture controller or the loader -/

/-- A relation that reads no more than these four blocks, and that each of the works that change them has. -/
structure HazardRule (W : List Block) (R : State → State → Prop) : Prop extends Watches W R where
  loose : ∀ b ∈ W, b ∈ [Block.hazard, .front, .control, .loader]
  front : ∀ (s : State) {x : FrontEnd}, x.fault = s.front.fault → R s (s.setFront x)
  loader : ∀ (s : State) {x : Loader}, x.station = s.loader.station → R s (s.setLoader x)
  timer : ∀ (x : Option Nat) (s : State), R s (s.setControl { s.control with joinTimer := x })
  served : ∀ s : State, R s (s.setControl { s.control with alertPending := false })
  changed : ∀ new s, R s (changeHeads new s)
  invalid : ∀ s, R s (takeInvalidScan s)
  valid : ∀ r s, R s (takeValidScan r s)
  pressed : ∀ s : State, R s (recomputeZone (s.setHazard { s.hazard with manualFire := true }))
  order : ∀ o s, R s (takeOrder o s)
  joins : ∀ s, R s (takeJoinExpiry s)
  alert : ∀ s, R s (takeAlert s)
  hush : ∀ s, R s (takeHush s)
  bulletin : ∀ source b s, R s (handBulletin source b s)

namespace HazardRule

variable {W : List Block} (r : HazardRule W R)

include r

theorem beyond (h : SameOutside c s t) (other : c.all (· ∉ [Block.hazard, .front, .control, .loader]) = true) : R s t :=
  r.outside h (List.all_eq_true.2 fun b mem => decide_eq_true fun watched =>
    of_decide_eq_true (List.all_eq_true.1 other b mem) (r.loose b watched))

theorem takeFirePress (i : Fin 6) (s : State) : R s (takeFirePress i s) := by
  unfold Machine.takeFirePress
  dsimp only
  refine r.ite ?_ (r.refl s)
  have cleared : R s (s.setInput i { s.calls.inputs.get i with pressed := false }) := r.beyond (setCalls_keeps s _) rfl
  exact r.trans (r.trans cleared (r.pressed _)) (r.beyond (requestCall_keeps _ _) rfl)

theorem startScan (warmUp : Bool) (present : BitVec 4) (s : State) : R s (startScan warmUp present s) := by
  unfold Machine.startScan
  dsimp only
  have begun : R s (beginScan warmUp s) :=
    r.trans (r.front s (x := { s.front with
      scan := some { warmUp := warmUp, void := false }, scanHeld := false, interval := true }) rfl)
      (r.beyond (setLamp_keeps _ _) rfl)
  exact r.ite (r.trans begun (r.changed _ _)) begun

theorem takeScan (readings : ScanReadings) (present : BitVec 4) (s : State) : R s (takeScan readings present s) := by
  unfold Machine.takeScan
  split
  · next scan _ =>
    have judged : R s (takeResult scan readings (s.setFront { s.front with scan := none, scanHeld := false })) := by
      refine r.trans (r.front s (x := { s.front with scan := none, scanHeld := false }) rfl) ?_
      exact r.ite (r.refl _) (r.ite (r.valid _ _) (r.invalid _))
    exact r.ite (r.trans judged (r.startScan _ _ _)) judged
  · exact r.refl s

theorem takeInterval (present : BitVec 4) (s : State) : R s (takeInterval present s) :=
  r.ite (r.front s (x := { s.front with scanHeld := true }) rfl) (r.startScan _ _ _)

theorem configureHeads (p : Profile) (s : State) : R s (configureHeads p s) :=
  r.ite (r.trans (r.front s (x := { s.front with scan := s.front.scan.map (fun sc => { sc with void := true }) }) rfl)
    (r.changed _ _)) (r.refl s)

theorem raiseProfileFault (s : State) : R s (raiseProfileFault s) := by
  unfold Machine.raiseProfileFault
  refine r.ite (r.refl s) (r.trans (r.loader s (x := { s.loader with profileFault := true }) rfl) ?_)
  exact r.trans (r.beyond (requestCall_keeps _ _) rfl) (r.beyond (queueBulletin_keeps _) rfl)

theorem takeWaiting (s : State) : R s (takeWaiting s) := by
  refine r.trans (r.foldl takeWaitingPress (fun u i => ?_) allSix s) (r.beyond (requestMotion_keeps _) rfl)
  unfold takeWaitingPress
  split
  · exact r.beyond (takeHelpPress_keeps u i) rfl
  · exact r.takeFirePress i u
  · exact r.beyond (setCalls_keeps u _) rfl
  · exact r.beyond (setCalls_keeps u _) rfl

theorem serveAlert (s : State) : R s (serveAlert s) :=
  r.ite (r.trans (r.served s) (r.beyond (requestAlert_keeps _) rfl)) (r.refl s)

theorem startJoin (s : State) : R s (startJoin s) := r.ite (r.timer (some 0) s) (r.refl s)

theorem completeLoad (reached : LoadState) (p : Profile) (s : State) : R s (completeLoad reached p s) := by
  unfold Machine.completeLoad
  refine r.trans (r.trans ?_ (r.serveAlert _)) (r.beyond (startRefresh_keeps _) rfl)
  refine r.trans (r.trans ?_ (r.beyond (beginRoleIf_keeps _ p) rfl)) (r.startJoin _)
  refine r.trans (r.trans ?_ (r.raiseProfileFault _)) (r.takeWaiting _)
  refine r.trans (r.trans ?_ (r.configureHeads p _)) (r.beyond (showDefaultAspect_keeps _ p) rfl)
  refine r.trans (r.trans ?_ (r.beyond (setDoors_keeps _ _) rfl)) (r.beyond (computeRoute_keeps _) rfl)
  have recorded : R s (recordLoad reached p s) := r.loader s rfl
  exact r.trans recorded (r.beyond (setPeers_keeps _ _) rfl)

theorem setLoadState (x : LoadState) (s : State) : R s (s.setLoadState x) := r.loader s rfl

theorem takeRead (block : List Byte) (s : State) : R s (takeRead block s) := by
  unfold Machine.takeRead
  split
  · split
    · exact r.completeLoad _ _ s
    · exact r.setLoadState _ s
  · split
    · exact r.completeLoad _ _ s
    · exact r.completeLoad _ _ s
  all_goals exact r.refl s

theorem handCompletion (f : Frame) (s : State) : R s (handCompletion f s) := by
  cases f with
  | bulletin => exact r.beyond (setLine_keeps s _) rfl
  | order o => exact r.order o s
  | take target slot seq => exact r.beyond (handTake_keeps s _ target slot seq) rfl
  | cancel target slot seq => exact r.beyond (handCancel_keeps s _ target slot seq) rfl
  | notice count n => exact r.beyond (takeNotice_keeps s _ n) rfl
  | request | answer => exact r.refl s

theorem takeCode {hand : State → State} (handed : ∀ u, R u (hand u)) (s : State) : R s (takeCode hand s) :=
  r.ite (r.trans (r.beyond (setReceiver_keeps s _) rfl) (handed _)) (r.refl s)

theorem takeDriven (s : State) : R s (takeDriven s) := by
  unfold Machine.takeDriven
  dsimp only
  split
  · exact r.beyond (setLine_keeps s _) rfl
  · exact r.trans (r.beyond (setLine_keeps s _) rfl) (r.hush _)
  · exact r.refl s

theorem passSecond (s : State) : R s (passSecond s) := by
  have aged := ((setPeers_keeps s { s.peers with
      entries := s.peers.entries.map Entry.older, duplicateTimer := tick s.peers.duplicateTimer }).then
    (setCalls_keeps _ { s.calls with slots := s.calls.slots.map Slot.older })).then
    (setDoors_keeps _ { s.doors with leaves := s.doors.leaves.map Leaf.older })
  refine r.trans (r.trans (r.beyond aged rfl) (r.timer (tick s.control.joinTimer) _)) ?_
  exact r.beyond (((setPost_keeps _ _).then (setLamp_keeps _ _)).then (setLine_keeps _ _)) rfl

/-- The work of every event has it. -/
theorem event (i : Instr) (s : State) : R s (workOf i s) := by
  have frame := workOf_keeps i s
  have ended : ∀ corrected, R s (endFrame corrected s) := fun corrected => r.beyond (endFrame_keeps s corrected) rfl
  have order : ∀ o wire, R s (receive wire (wantOrder o) s) := fun o wire =>
    r.receive wire s ended fun corrected source f hand _ wanted => by
      obtain ⟨rfl, rfl⟩ := wantOrder_eq_some wanted
      exact r.order o _
  have bulletin : ∀ asFire wire, R s (receive wire (wantBulletin asFire) s) := fun asFire wire =>
    r.receive wire s ended fun corrected source f hand _ wanted => by
      obtain ⟨_, b, rfl, rfl⟩ := wantBulletin_eq_some wanted
      exact r.bulletin source b _
  cases i with
  | profileReadDone block => exact r.takeRead block s
  | loadWaitExpiry => exact r.ite (r.setLoadState _ s) (r.refl s)
  | scanIntervalExpiry present => exact r.takeInterval present s
  | scanResult readings present => exact r.takeScan readings present s
  | joinTimerExpiry => exact r.joins s
  | firePointPress input => exact r.takeFirePress input s
  | frameComplete =>
    change R s (takeCompletion s)
    unfold takeCompletion
    split
    · exact r.trans (r.beyond (setLine_keeps s _) rfl) (r.handCompletion _ _)
    · exact r.refl s
  | triggerDriven => exact r.takeDriven s
  | alertTrigger => exact r.takeCode r.alert s
  | hushTrigger => exact r.takeCode r.hush s
  | bulletin wire | fireBulletin wire => exact bulletin _ wire
  | postureOrderDay wire | postureOrderNight wire | postureOrderRestore wire => exact order _ wire
  | ageAdvance => exact r.passSecond s
  | _ => exact r.beyond frame rfl

end HazardRule

/-- Such a property that holds after a reset is kept by every step. -/
theorem HazardRule.kept {W : List Block} {P : State → Prop} (r : HazardRule W fun s t => P s → P t)
    (reset : ∀ s, P (resetState s)) (pinReset : ∀ s, P (pinResetState s))
    (read : ∀ pins s, P s → P (readPins pins (s.setPower .running))) (loss : ∀ s, P s → P (losePower s)) : Kept P := by
  intro s t held answer
  have w := r.toWatches
  refine step_rel w (fun mem => absurd (r.loose _ mem) (by decide)) (fun _ v _ => reset v)
    (fun wire v _ => pinReset (countCut wire v)) (fun pins v _ => ?_) loss (fun i v _ => ?_) answer held
  · exact w.trans (read pins v) (w.trans (r.startScan _ _ _) (r.beyond (settle_keeps _) rfl))
  · exact w.trans (r.event i v) (r.beyond (endingOf_keeps i _) rfl)

/-- A relation that reads the hazard evaluator and the front end alone has only their works to consider. -/
theorem HazardRule.of_hazard (w : Watches [.hazard, .front] R)
    (front : ∀ (s : State) {x : FrontEnd}, x.fault = s.front.fault → R s (s.setFront x))
    (changed : ∀ new s, R s (changeHeads new s)) (invalid : ∀ s, R s (takeInvalidScan s))
    (valid : ∀ r s, R s (takeValidScan r s))
    (pressed : ∀ s : State, R s (recomputeZone (s.setHazard { s.hazard with manualFire := true })))
    (restored : ∀ s, R s (restoreHazard s)) : HazardRule [.hazard, .front] R where
  toWatches := w
  loose := by simp
  front := front
  loader s x _ := w.outside (setLoader_keeps s x) rfl
  timer x s := w.outside (setControl_keeps s _) rfl
  served s := w.outside (setControl_keeps s _) rfl
  changed := changed
  invalid := invalid
  valid := valid
  pressed := pressed
  order o s := by
    cases o with
    | day | night => exact w.outside (takeBaseOrder_keeps s _) rfl
    | restore =>
      change R s (takeRestore s)
      unfold takeRestore acceptRestore refuseRestore
      refine w.ite (w.ite ?_ (w.ite (w.outside (queueBulletin_keeps s) rfl) (w.refl s))) (w.refl s)
      refine w.trans (w.trans (restored s) (w.outside (closeFireCalls_keeps _) rfl)) ?_
      exact w.trans (w.outside (setControl_keeps _ _) rfl) (w.outside (setPosture_keeps _ _ _) rfl)
  joins s := w.outside (takeJoinExpiry_keeps s) rfl
  alert s := w.outside (takeAlert_keeps s) rfl
  hush s := w.outside (takeHush_keeps s) rfl
  bulletin source b s := w.outside (handBulletin_keeps s source b) rfl

/-! ## The zone hazard (R20) -/

/-- What follows a change of the zone hazard leaves the hazard evaluator alone. -/
theorem recomputeZone_hazard (s : State) : (recomputeZone s).hazard = { s.hazard with zone := zoneOf s.hazard } := by
  unfold recomputeZone
  dsimp only
  split
  · next same => rw [same]
  · rw [(evaluateMagnets_keeps _).hazard_eq (by decide), (computeRouteFrom_keeps _ _).hazard_eq (by decide)]
    split
    · rw [(takeOwnFire_keeps _).hazard_eq (by decide), (queueBulletin_keeps _).hazard_eq (by decide)]
      rfl
    · rw [(queueBulletin_keeps _).hazard_eq (by decide)]
      rfl

theorem recomputeZone_front (s : State) : (recomputeZone s).front = s.front :=
  (recomputeZone_keeps s).front_eq (by decide)

theorem zoneAgrees_of_hazard (same : t.hazard = s.hazard) : ZoneAgrees s → ZoneAgrees t := by
  unfold ZoneAgrees
  rw [same]
  exact id

theorem zoneAgrees_recomputeZone (s : State) : ZoneAgrees (recomputeZone s) := by
  unfold ZoneAgrees
  rw [recomputeZone_hazard]
  rfl

theorem evaluateBlind_hazard (s : State) :
    (evaluateBlind s).hazard = { s.hazard with blind := blindOf s.front.fault s.hazard.heads } := by
  unfold evaluateBlind
  dsimp only
  split
  · next same => rw [same]
  · rw [(queueBulletin_keeps _).hazard_eq (by decide)]
    rfl

theorem evaluateBlind_front (s : State) : (evaluateBlind s).front = s.front :=
  (evaluateBlind_keeps s).front_eq (by decide)

theorem zoneAgrees_evaluateBlind (agrees : ZoneAgrees s) : ZoneAgrees (evaluateBlind s) := by
  unfold ZoneAgrees
  rw [evaluateBlind_hazard]
  exact agrees

theorem zone_watches : Watches [.hazard, .front] fun s t => ZoneAgrees s → ZoneAgrees t where
  trans h k := k ∘ h
  outside h clear := zoneAgrees_of_hazard
    (h.hazard_eq fun mem => absurd (List.all_eq_true.1 clear _ mem) (by decide))

theorem zoneAgrees_rule : HazardRule [.hazard, .front] fun s t => ZoneAgrees s → ZoneAgrees t := by
  refine .of_hazard zone_watches (fun s x _ => id) (fun new s _ => ?_) (fun s agrees => ?_) (fun r s _ => ?_)
    (fun s _ => zoneAgrees_recomputeZone _) (fun s _ => zoneAgrees_recomputeZone _)
  · exact zoneAgrees_evaluateBlind (zoneAgrees_recomputeZone _)
  · unfold takeInvalidScan
    dsimp only
    split
    · exact zoneAgrees_recomputeZone _
    · exact agrees
  · exact zone_watches.outside (takeChains_keeps _ _ _) rfl (zoneAgrees_evaluateBlind (zoneAgrees_recomputeZone _))

theorem zoneAgrees_kept : Kept ZoneAgrees :=
  zoneAgrees_rule.kept (fun _ => rfl) (fun _ => rfl) (fun _ _ => id) fun _ => id

/-! ## The Blind flag (R21) -/

theorem Four.any_iff {α : Type} {v : Four α} {p : α → Bool} : v.toList.any p = true ↔ ∃ k, p (v.get k) = true := by
  simp [Four.toList_eq]

theorem Four.all_iff {α : Type} {v : Four α} {p : α → Bool} : v.toList.all p = true ↔ ∀ k, p (v.get k) = true := by
  simp [Four.toList_eq]

theorem blindOf_eq_true {fault : Bool} {heads : Four (Option Head)} :
    blindOf fault heads = true ↔ fault = true ∨ ((∃ k : Fin 4, (heads.get k).isSome = true)
      ∧ ∀ (k : Fin 4) (h : Head), heads.get k = some h → h.fault = true) := by
  rw [blindOf, Bool.or_eq_true, Bool.and_eq_true, Four.any_iff, Four.all_iff]
  refine or_congr_right (and_congr_right fun _ => forall_congr' fun k => ?_)
  cases heads.get k <;> simp

/-- The Blind flag is what the heads and the front end give. -/
theorem blindAgrees_iff : BlindAgrees s ↔ s.hazard.blind = blindOf s.front.fault s.hazard.heads := by
  have spec := blindOf_eq_true (fault := s.front.fault) (heads := s.hazard.heads)
  exact ⟨fun agrees => Bool.eq_iff_iff.2 (Iff.trans agrees spec.symm), fun same => (Bool.eq_iff_iff.1 same).trans spec⟩

theorem blindAgrees_evaluateBlind (s : State) : BlindAgrees (evaluateBlind s) := by
  rw [blindAgrees_iff, evaluateBlind_hazard, evaluateBlind_front]

theorem blindOf_map {f : Head → Head} (fault : ∀ h, (f h).fault = h.fault) (front : Bool) (heads : Four (Option Head)) :
    blindOf front (heads.map (Option.map f)) = blindOf front heads := by
  rw [Bool.eq_iff_iff, blindOf_eq_true, blindOf_eq_true]
  simp only [Four.get_map, Option.isSome_map, Option.map_eq_some_iff, forall_exists_index, and_imp]
  refine or_congr_right (and_congr_right fun _ => forall_congr' fun k => ⟨fun all h here => ?_, fun all h old here same => ?_⟩)
  · rw [← fault h]
    exact all _ h here rfl
  · rw [← same, fault]
    exact all old here

theorem blind_watches : Watches [.hazard, .front] fun s t => BlindAgrees s → BlindAgrees t where
  trans h k := k ∘ h
  outside h clear := by
    have out : ∀ b ∈ [Block.hazard, .front], b ∉ _ := fun b read mem =>
      absurd read (by simpa using List.all_eq_true.1 clear b mem)
    rw [blindAgrees_iff, blindAgrees_iff, h.hazard_eq (out _ (by decide)), h.front_eq (out _ (by decide))]
    exact id

theorem blindAgrees_recomputeZone (agrees : BlindAgrees s) : BlindAgrees (recomputeZone s) := by
  rw [blindAgrees_iff, recomputeZone_hazard, recomputeZone_front]
  exact blindAgrees_iff.1 agrees

theorem Head.restored_fault (front : Bool) (h : Head) : (h.restored front).fault = h.fault := by
  unfold Head.restored
  dsimp only
  repeat' split
  all_goals rfl

theorem takeInvalidScan_blind (s : State) (agrees : BlindAgrees s) : BlindAgrees (takeInvalidScan s) := by
  unfold takeInvalidScan
  dsimp only
  split
  · unfold setFrontEndFault
    dsimp only
    refine blindAgrees_recomputeZone (blind_watches.outside ((requestCall_keeps _ _).then (queueBulletin_keeps _)) rfl ?_)
    rw [blindAgrees_iff]
    rfl
  · exact agrees

theorem restoreHazard_blind (s : State) (agrees : BlindAgrees s) : BlindAgrees (restoreHazard s) := by
  unfold restoreHazard
  refine blindAgrees_recomputeZone ?_
  rw [blindAgrees_iff] at agrees ⊢
  rw [State.setHazard_hazard, State.setHazard_front, blindOf_map (Head.restored_fault s.front.fault)]
  exact agrees

theorem blindAgrees_rule : HazardRule [.hazard, .front] fun s t => BlindAgrees s → BlindAgrees t := by
  refine .of_hazard blind_watches (fun s x fault agrees => ?_) (fun new s _ => blindAgrees_evaluateBlind _)
    takeInvalidScan_blind (fun r s _ => ?_) (fun s agrees => blindAgrees_recomputeZone agrees) restoreHazard_blind
  · rw [blindAgrees_iff] at agrees ⊢
    rw [State.setFront_front, fault]
    exact agrees
  · exact blind_watches.outside (takeChains_keeps _ _ _) rfl (blindAgrees_evaluateBlind _)

theorem blindAgrees_kept : Kept BlindAgrees :=
  blindAgrees_rule.kept (fun _ => blindAgrees_iff.2 rfl) (fun _ => blindAgrees_iff.2 rfl) (fun _ _ => id) fun _ => id

/-! ## R20 in the manual's words -/

/-- A level raised to a head's. -/
def Level.raisedTo (z : Level) (o : Option Head) : Level :=
  match o with
  | some r => z.higher r.level
  | none => z

theorem zoneOf_eq (h : Hazard) :
    zoneOf h = if h.manualFire then .fire else h.heads.toList.foldl Level.raisedTo .clear := rfl

theorem Level.le_higher (a b : Level) : a.code ≤ (a.higher b).code ∧ b.code ≤ (a.higher b).code := by
  unfold Level.higher
  split <;> omega

theorem Level.higher_eq (a b : Level) : a.higher b = a ∨ a.higher b = b := by
  unfold Level.higher
  split
  · exact .inr rfl
  · exact .inl rfl

/-- The level that a list of heads raises a level to is above it and them, and is one of them. -/
theorem foldl_raisedTo_spec (l : List (Option Head)) (z : Level) :
    z.code ≤ (l.foldl Level.raisedTo z).code ∧ (∀ r, some r ∈ l → r.level.code ≤ (l.foldl Level.raisedTo z).code)
      ∧ (l.foldl Level.raisedTo z = z ∨ ∃ r, some r ∈ l ∧ r.level = l.foldl Level.raisedTo z) := by
  induction l generalizing z with
  | nil => simp
  | cons o rest ih =>
    obtain ⟨above, bounds, attained⟩ := ih (z.raisedTo o)
    rw [List.foldl_cons]
    cases o with
    | none =>
      refine ⟨above, fun r mem => bounds r (by simpa using mem), attained.imp_right fun ⟨r, mem, same⟩ => ⟨r, ?_, same⟩⟩
      exact List.mem_cons_of_mem _ mem
    | some head =>
      have raised : z.raisedTo (some head) = z.higher head.level := rfl
      have ⟨low, high⟩ := Level.le_higher z head.level
      rw [← raised] at low high
      refine ⟨low.trans above, fun r mem => ?_, ?_⟩
      · obtain same | mem := List.mem_cons.1 mem
        · cases same
          exact high.trans above
        · exact bounds r mem
      · obtain still | ⟨r, mem, same⟩ := attained
        · obtain same | same := Level.higher_eq z head.level
          · exact .inl (still.trans (raised.trans same))
          · exact .inr ⟨head, List.mem_cons_self, (still.trans (raised.trans same)).symm⟩
        · exact .inr ⟨r, List.mem_cons_of_mem _ mem, same⟩

theorem Four.mem_toList {α : Type} {v : Four α} {x : α} : x ∈ v.toList ↔ ∃ k, v.get k = x := by
  simp [Four.toList_eq]

/-- Without the latch the zone hazard is the highest level of the heads (R20). -/
theorem zoneOf_spec {h : Hazard} (manual : h.manualFire = false) :
    (∀ (k : Fin 4) (r : Head), h.heads.get k = some r → r.level.code ≤ (zoneOf h).code)
      ∧ (zoneOf h = .clear ∨ ∃ (k : Fin 4) (r : Head), h.heads.get k = some r ∧ r.level = zoneOf h) := by
  obtain ⟨-, bounds, attained⟩ := foldl_raisedTo_spec h.heads.toList .clear
  rw [zoneOf_eq, manual, if_neg Bool.false_ne_true]
  refine ⟨fun k r here => bounds r (Four.mem_toList.2 ⟨k, here⟩), attained.imp_right fun ⟨r, mem, same⟩ => ?_⟩
  obtain ⟨k, here⟩ := Four.mem_toList.1 mem
  exact ⟨k, r, here, same⟩

theorem zoneOf_of_manual {h : Hazard} (manual : h.manualFire = true) : zoneOf h = .fire := by
  rw [zoneOf_eq, if_pos manual]

theorem zoneIsR20_of_agrees (agrees : ZoneAgrees s) : ZoneIsR20 s.hazard := by
  unfold ZoneIsR20
  rw [ZoneAgrees] at agrees
  rw [agrees]
  refine ⟨zoneOf_of_manual, fun k r here => ?_, fun manual raised => ?_⟩
  · cases manual : s.hazard.manualFire with
    | true =>
      rw [zoneOf_of_manual manual]
      cases r.level <;> decide
    | false => exact (zoneOf_spec manual).1 k r here
  · exact (zoneOf_spec manual).2.resolve_left raised

end Sys2Proof.Machine
end


section
/-! SUPPORT. What each event makes of the zone hazard, the posture, the base and the fire set (chapter 2), and the proofs
that Fire brings Evacuate and that the base agrees with the posture. -/

namespace Sys2Proof.Machine

variable {c : List Block} {s t u : State}

/-! ## The posture controller after each change -/

theorem setPosture_control (p : Posture) (b : Base) (s : State) :
    (setPosture p b s).control = { s.control with posture := p, base := b } := by
  unfold setPosture
  dsimp only
  split
  · next same => rw [← same.1, ← same.2]
  · have led := (doorsTakePosture_keeps (s.setControl { s.control with posture := p, base := b }) s.control.posture
      s.control.base).control_eq (by decide)
    rw [(queueBulletin_keeps _).control_eq (by decide)]
    split
    · exact led
    · rw [(lampTakePosture_keeps _).control_eq (by decide), (callsTakePosture_keeps _ _).control_eq (by decide)]
      exact led

theorem enterEvacuate_control (b : Base) (s : State) :
    (enterEvacuate b s).control = { s.control with posture := .evacuate, base := b, hushed := false, joinTimer := none } :=
  setPosture_control _ _ _

/-- The base is provisional after an entry from Startup that no bulletin led (R29, R31). -/
def unledMark (c : Control) : Bool := decide (c.posture = .startup) || c.provisionalBase

theorem enterEvacuateUnled_control (s : State) :
    (enterEvacuateUnled s).control =
      { s.control with
        posture := .evacuate, hushed := false, joinTimer := none, provisionalBase := unledMark s.control } := by
  unfold enterEvacuateUnled unledMark
  split
  · next startup => simp [enterEvacuate_control, startup]
  · next led => simp [enterEvacuate_control, led]

theorem setHushed_control (b : Bool) (s : State) : (setHushed b s).control = { s.control with hushed := b } := by
  unfold setHushed
  split
  · next same => rw [← same]
  · exact (decideSound_keeps _).control_eq (by decide)

/-- A request before the load leaves the mark; after it none is needed (R33). -/
theorem makeAlertRequest_control (s : State) :
    (makeAlertRequest s).control =
      { s.control with alertPending := s.control.alertPending || (strapped s && !loadComplete s) } := by
  unfold makeAlertRequest
  cases strapped s <;> cases loadComplete s <;> simp [(requestAlert_keeps s).control_eq]

/-- The own fire: the own number joins, and the station is in Evacuate (R32). -/
theorem takeOwnFire_control (s : State) :
    (takeOwnFire s).control =
      if s.control.posture = .evacuate then
        { s.control with
          fireSet := joinFireSet s.loader.station s.control.fireSet, hushed := false
          alertPending := s.control.alertPending || (strapped s && !loadComplete s) }
      else
        { s.control with
          posture := .evacuate, fireSet := joinFireSet s.loader.station s.control.fireSet, hushed := false
          joinTimer := none, provisionalBase := unledMark s.control
          alertPending := s.control.alertPending || (strapped s && !loadComplete s) } := by
  unfold takeOwnFire
  dsimp only
  have hushed : (setHushed false (s.setControl
      { s.control with fireSet := joinFireSet s.loader.station s.control.fireSet })).control
        = { s.control with fireSet := joinFireSet s.loader.station s.control.fireSet, hushed := false } :=
    setHushed_control _ _
  have loader : (setHushed false (s.setControl
      { s.control with fireSet := joinFireSet s.loader.station s.control.fireSet })).loader = s.loader :=
    (setHushed_keeps _ false).loader_eq (by decide)
  generalize setHushed false _ = u at hushed loader
  rw [makeAlertRequest_control, show u.control.posture = s.control.posture by rw [hushed]]
  split
  · simp only [hushed, strapped, loadComplete, loader]
  · have entered := enterEvacuateUnled_control u
    have still := (enterEvacuateUnled_keeps u).loader_eq (by decide)
    rw [hushed] at entered
    simp only [entered, strapped, loadComplete, still, loader]
    rfl

/-! ## The alarm state and what changes it -/

/-- What Fire, Evacuate and the base posture are about. -/
structure Alarm where
  zone : Level
  posture : Posture
  base : Base
  fireSet : List Station
  provisional : Bool
  station : Station

def alarmOf (s : State) : Alarm :=
  ⟨s.hazard.zone, s.control.posture, s.control.base, s.control.fireSet, s.control.provisionalBase, s.loader.station⟩

/-- What an event makes of the alarm state. -/
inductive Alarm.Step (a : Alarm) : Alarm → Prop
  | eases (z : Level) (below : z ≠ .fire) : Alarm.Step a { a with zone := z }
  | fires (provisional : Bool) :
      Alarm.Step a
        { a with
          zone := .fire, posture := .evacuate, fireSet := joinFireSet a.station a.fireSet, provisional := provisional }
  | enters (b : Base) (provisional : Bool) :
      Alarm.Step a { a with posture := .evacuate, base := b, provisional := provisional }
  | joins (n : Station) (b : Base) (provisional : Bool) :
      Alarm.Step a
        { a with posture := .evacuate, fireSet := joinFireSet n a.fireSet, base := b, provisional := provisional }
  | leaves (n : Station) (other : n ≠ a.station) : Alarm.Step a { a with fireSet := leaveFireSet n a.fireSet }
  | calm (b : Base) (was : a.posture ≠ .evacuate) : Alarm.Step a { a with posture := b.posture, base := b }
  | based (b : Base) (was : a.posture = .evacuate ∨ a.provisional = true) : Alarm.Step a { a with base := b, provisional := false }
  | restored (below : a.zone ≠ .fire) :
      Alarm.Step a { a with posture := a.base.posture, fireSet := [], provisional := false }

/-- The alarm state goes by such steps. -/
def Alarms (s t : State) : Prop := Relation.ReflTransGen Alarm.Step (alarmOf s) (alarmOf t)

theorem Alarms.of_same (same : alarmOf t = alarmOf s) : Alarms s t := by
  rw [Alarms, same]

theorem Alarms.refl (s : State) : Alarms s s := .of_same rfl

theorem Alarms.trans (h : Alarms s t) (k : Alarms t u) : Alarms s u := Relation.ReflTransGen.trans h k

theorem Alarms.of_step (step : Alarm.Step (alarmOf s) (alarmOf t)) : Alarms s t := Relation.ReflTransGen.single step

theorem alarms_watches : Watches [.hazard, .control, .loader] Alarms where
  trans := .trans
  outside h clear := by
    have out : ∀ b ∈ [Block.hazard, .control, .loader], b ∉ _ := fun b read mem =>
      absurd read (by simpa using List.all_eq_true.1 clear b mem)
    refine .of_same ?_
    unfold alarmOf
    rw [h.hazard_eq (out _ (by decide)), h.control_eq (out _ (by decide)), h.loader_eq (out _ (by decide))]

/-- A work that leaves the hazard evaluator and the loader alone is judged by what it makes of the posture controller. -/
theorem alarmOf_of_control (keeps : SameOutside c s t) (clear : [Block.hazard, .loader].all (· ∉ c) = true) :
    alarmOf t = ⟨s.hazard.zone, t.control.posture, t.control.base, t.control.fireSet, t.control.provisionalBase,
      s.loader.station⟩ := by
  have out : ∀ b ∈ [Block.hazard, .loader], b ∉ c := fun b mem => of_decide_eq_true (List.all_eq_true.1 clear b mem)
  rw [alarmOf, keeps.hazard_eq (out _ (by decide)), keeps.loader_eq (out _ (by decide))]

theorem alarmOf_setPosture (p : Posture) (b : Base) (s : State) :
    alarmOf (setPosture p b s) = { alarmOf s with posture := p, base := b } := by
  rw [alarmOf_of_control (setPosture_keeps s p b) rfl, setPosture_control]
  rfl

theorem enterEvacuate_alarms (b : Base) (s : State) : Alarms s (enterEvacuate b s) := by
  refine .of_step ?_
  rw [alarmOf_of_control (enterEvacuate_keeps s b) rfl, enterEvacuate_control]
  exact .enters (a := alarmOf s) b s.control.provisionalBase

theorem enterEvacuateUnled_alarms (s : State) : Alarms s (enterEvacuateUnled s) := by
  refine .of_step ?_
  rw [alarmOf_of_control (enterEvacuateUnled_keeps s) rfl, enterEvacuateUnled_control]
  exact .enters (a := alarmOf s) s.control.base _

theorem setHushed_alarms (b : Bool) (s : State) : Alarms s (setHushed b s) := by
  refine .of_same ?_
  rw [alarmOf_of_control (setHushed_keeps s b) rfl, setHushed_control]
  rfl

theorem takeAlert_alarms (s : State) : Alarms s (takeAlert s) :=
  alarms_watches.ite (.refl s) (enterEvacuateUnled_alarms s)

theorem takeHush_alarms (s : State) : Alarms s (takeHush s) := alarms_watches.ite (setHushed_alarms true s) (.refl s)

theorem takeOwnFire_alarm (s : State) :
    ∃ provisional, alarmOf (takeOwnFire s) =
      { alarmOf s with
        posture := .evacuate, fireSet := joinFireSet s.loader.station s.control.fireSet, provisional := provisional } := by
  rw [alarmOf_of_control (takeOwnFire_keeps s) rfl, takeOwnFire_control]
  split
  · next evacuate => exact ⟨s.control.provisionalBase, by simp [alarmOf, evacuate]⟩
  · exact ⟨unledMark s.control, rfl⟩

theorem alarmOf_queueBulletin (s : State) : alarmOf (queueBulletin s) = alarmOf s := by
  rw [alarmOf_of_control (queueBulletin_keeps s) rfl, (queueBulletin_keeps s).control_eq (by decide)]
  rfl

/-- A zone that becomes Fire brings Evacuate and the own number; another change only eases the zone (R20, R32). -/
theorem recomputeZone_alarms (s : State) : Alarms s (recomputeZone s) := by
  have w := alarms_watches
  unfold recomputeZone
  dsimp only
  split
  · exact .refl s
  · refine .trans ?_ (w.outside ((computeRouteFrom_keeps _ _).then (evaluateMagnets_keeps _)) rfl)
    split
    · next fire =>
      obtain ⟨provisional, became⟩ := takeOwnFire_alarm (queueBulletin (s.setHazard { s.hazard with zone := zoneOf s.hazard }))
      refine .of_step ?_
      rw [became, alarmOf_queueBulletin, (queueBulletin_keeps _).loader_eq (by decide),
        (queueBulletin_keeps _).control_eq (by decide), fire]
      exact .fires (a := alarmOf s) provisional
    · next below =>
      refine .of_step ?_
      rw [alarmOf_queueBulletin]
      exact .eases (a := alarmOf s) _ below

theorem setHazard_alarms {x : Hazard} (zone : x.zone = s.hazard.zone) : Alarms s (s.setHazard x) :=
  .of_same (by simp [alarmOf, zone])

/-! ## A Restore (R22, R23, R40, R41) -/

theorem restoreHazard_alarms (s : State) : Alarms s (restoreHazard s) := by
  have restored : Alarms s (s.setHazard
      { s.hazard with
        heads := s.hazard.heads.map (fun o => o.map (Head.restored s.front.fault)), manualFire := false }) := .of_same rfl
  exact restored.trans (recomputeZone_alarms _)

/-- No head of an acceptable Restore is at Fire afterwards (R22, R23). -/
theorem entryLevel_below (k : HeadKind) (t : Thresholds) (excess temperature rise : Nat) :
    entryLevel k t false excess temperature rise ≠ .fire := by
  unfold entryLevel
  rw [if_neg Bool.false_ne_true]
  cases k <;> dsimp only <;> split_ifs <;> decide

theorem Head.restored_below {front : Bool} {h : Head} (allows : headAllowsRestore front h = true) :
    (h.restored front).level ≠ .fire := by
  unfold headAllowsRestore at allows
  unfold Head.restored
  dsimp only
  split
  · next frozen => simpa [frozen] using allows
  · split
    · exact entryLevel_below _ _ _ _ _
    · simp

theorem restoreAcceptable_head {k : Fin 4} {h : Head} (acceptable : restoreAcceptable s = true)
    (here : s.hazard.heads.get k = some h) : headAllowsRestore s.front.fault h = true := by
  have heads := (Bool.and_eq_true_iff.1 acceptable).1
  have allowed := Four.all_iff.1 heads k
  rw [here] at allowed
  exact allowed

theorem restoreHazard_below (acceptable : restoreAcceptable s = true) : (restoreHazard s).hazard.zone ≠ .fire := by
  unfold restoreHazard
  rw [recomputeZone_hazard]
  intro fire
  obtain clear | ⟨k, r, here, level⟩ := (zoneOf_spec (h := (s.setHazard
    { s.hazard with
      heads := s.hazard.heads.map (fun o => o.map (Head.restored s.front.fault)), manualFire := false }).hazard) rfl).2
  · cases clear.symm.trans fire
  · rw [State.setHazard_hazard, Four.get_map] at here
    obtain ⟨old, there, rfl⟩ := Option.map_eq_some_iff.1 here
    exact Head.restored_below (restoreAcceptable_head acceptable there) (level.trans fire)

theorem acceptRestore_alarms (acceptable : restoreAcceptable s = true) : Alarms s (acceptRestore s) := by
  have w := alarms_watches
  unfold acceptRestore
  dsimp only
  have closed := closeFireCalls_keeps (restoreHazard s)
  have below : (closeFireCalls (restoreHazard s)).hazard.zone ≠ .fire := by
    rw [closed.hazard_eq (by decide)]
    exact restoreHazard_below acceptable
  have eased : Alarms s (closeFireCalls (restoreHazard s)) := (restoreHazard_alarms s).trans (w.outside closed rfl)
  generalize closeFireCalls (restoreHazard s) = u at below eased
  refine eased.trans (.of_step ?_)
  rw [alarmOf_setPosture]
  exact .restored (a := alarmOf u) below

theorem takeRestore_alarms (s : State) : Alarms s (takeRestore s) := by
  have w := alarms_watches
  unfold takeRestore
  split
  · split
    · next acceptable => exact acceptRestore_alarms acceptable
    · exact w.ite (w.outside (queueBulletin_keeps s) rfl) (.refl s)
  · exact .refl s

/-! ## Orders, expiries and bulletins -/

theorem takeBaseOrder_alarms (b : Base) (s : State) : Alarms s (takeBaseOrder b s) := by
  unfold takeBaseOrder
  split
  · next evacuate =>
    refine .of_step ?_
    rw [alarmOf_setPosture]
    have kept : alarmOf (s.setControl { s.control with provisionalBase := false })
        = { alarmOf s with posture := .evacuate, provisional := false } := by simp [alarmOf, evacuate]
    rw [kept, ← show (alarmOf s).posture = .evacuate from evacuate]
    exact .based (a := alarmOf s) b (.inl evacuate)
  · next calm =>
    refine .of_step ?_
    rw [alarmOf_setPosture]
    exact .calm (a := alarmOf s) b calm

theorem takeOrder_alarms (o : Order) (s : State) : Alarms s (takeOrder o s) := by
  cases o with
  | day | night => exact takeBaseOrder_alarms _ s
  | restore => exact takeRestore_alarms s

theorem takeJoinExpiry_alarms (s : State) : Alarms s (takeJoinExpiry s) := by
  unfold takeJoinExpiry
  split
  · next dueNow =>
    have startup : s.control.posture = .startup := by simp_all
    refine .of_step ?_
    rw [alarmOf_setPosture]
    exact .calm (a := alarmOf s) .night (by simp [alarmOf, startup])
  · exact .refl s

theorem takeBase_alarms (b : Bulletin) (s : State) : Alarms s (takeBase b s) := by
  unfold takeBase
  split
  · next base _ =>
    split
    · next provisional =>
      refine .of_step ?_
      rw [alarmOf_setPosture]
      exact .based (a := alarmOf s) base (.inr provisional)
    · exact .refl s
  · exact .refl s

theorem enterFromFireBulletin_enters (b : Bulletin) (s : State) :
    ∃ base provisional, alarmOf (enterFromFireBulletin b s) =
      { alarmOf s with posture := .evacuate, base := base, provisional := provisional } := by
  unfold enterFromFireBulletin
  split
  · next base _ =>
    refine ⟨base, s.control.provisionalBase, ?_⟩
    rw [alarmOf_of_control (enterEvacuate_keeps s _) rfl, enterEvacuate_control]
    rfl
  · refine ⟨s.control.base, unledMark s.control, ?_⟩
    rw [alarmOf_of_control (enterEvacuateUnled_keeps s) rfl, enterEvacuateUnled_control]
    rfl

/-- The source of a fire bulletin is in the fire set: it was, or it joins (R34). -/
def joinedBy (source : Station) (s : State) : State :=
  if s.control.fireSet.contains source then s
  else setHushed false (s.setControl { s.control with fireSet := joinFireSet source s.control.fireSet })

theorem takeFireBulletin_eq (source : Station) (b : Bulletin) (s : State) :
    takeFireBulletin source b s =
      if (joinedBy source s).control.posture = .evacuate then takeBase b (joinedBy source s)
      else if (joinedBy source s).control.posture = .startup then enterFromFireBulletin b (joinedBy source s)
      else enterEvacuate (joinedBy source s).control.base (joinedBy source s) := by
  change (match (joinedBy source s).control.posture with
    | .evacuate => takeBase b (joinedBy source s)
    | .startup => enterFromFireBulletin b (joinedBy source s)
    | _ => enterEvacuate (joinedBy source s).control.base (joinedBy source s)) = _
  cases (joinedBy source s).control.posture <;> rfl

theorem joinedBy_keeps (source : Station) (s : State) : SameOutside [.control, .lamp] s (joinedBy source s) :=
  .ite (.refl _ s) (((setControl_keeps s _).widen (by decide)).trans (setHushed_keeps _ false))

/-- The source was in the fire set, or has joined it. -/
theorem alarmOf_joinedBy (source : Station) (s : State) :
    alarmOf (joinedBy source s) = alarmOf s
      ∨ alarmOf (joinedBy source s) = { alarmOf s with fireSet := joinFireSet source s.control.fireSet } := by
  unfold joinedBy
  split
  · exact .inl rfl
  · refine .inr ?_
    rw [alarmOf_of_control (setHushed_keeps _ false) rfl, setHushed_control]
    rfl

/-- An entry after the source has joined is one step. -/
theorem alarms_joined {source : Station} {base : Base} {provisional : Bool}
    (entered : alarmOf t =
      { alarmOf (joinedBy source s) with posture := .evacuate, base := base, provisional := provisional }) :
    Alarms s t := by
  refine .of_step ?_
  obtain same | joined := alarmOf_joinedBy source s
  · rw [entered, same]
    exact .enters base provisional
  · rw [entered, joined]
    exact .joins (a := alarmOf s) source base provisional

theorem takeFireBulletin_alarms (source : Station) (b : Bulletin) (s : State) :
    Alarms s (takeFireBulletin source b s) := by
  rw [takeFireBulletin_eq]
  split
  · next evacuate =>
    refine .trans (t := joinedBy source s) (alarms_joined (source := source) (base := (joinedBy source s).control.base)
      (provisional := (joinedBy source s).control.provisionalBase) ?_) (takeBase_alarms b _)
    rw [← evacuate]
    rfl
  · split
    · obtain ⟨base, provisional, entered⟩ := enterFromFireBulletin_enters b (joinedBy source s)
      exact alarms_joined entered
    · refine alarms_joined (source := source) (base := (joinedBy source s).control.base)
        (provisional := (joinedBy source s).control.provisionalBase) ?_
      rw [alarmOf_of_control (enterEvacuate_keeps _ _) rfl, enterEvacuate_control]
      rfl

theorem adopt_alarms (b : Bulletin) (s : State) (startup : s.control.posture = .startup) : Alarms s (adopt b s) := by
  have calm : s.control.posture ≠ .evacuate := by simp [startup]
  unfold adopt
  split
  · exact .refl s
  · refine .of_step ?_
    rw [alarmOf_setPosture]
    exact .calm (a := alarmOf s) .day calm
  · refine .of_step ?_
    rw [alarmOf_setPosture]
    exact .calm (a := alarmOf s) .night calm
  · exact enterEvacuate_alarms _ s

theorem takeOrdinaryBulletin_alarms (source : Station) (b : Bulletin) (s : State) (other : source ≠ s.loader.station) :
    Alarms s (takeOrdinaryBulletin source b s) := by
  have left : Alarms s (s.setControl { s.control with fireSet := leaveFireSet source s.control.fireSet }) :=
    .of_step (.leaves (a := alarmOf s) source other)
  unfold takeOrdinaryBulletin
  dsimp only
  split
  · next startup => exact left.trans (adopt_alarms b _ startup)
  · exact left.trans (takeBase_alarms b _)

theorem handBulletin_alarms (source : Station) (b : Bulletin) (s : State) : Alarms s (handBulletin source b s) := by
  have w := alarms_watches
  have peers := peersTakeBulletin_keeps s source b
  refine .trans (w.outside peers rfl) ?_
  unfold handBulletin controlTakeBulletin
  split
  · exact .refl _
  · next known =>
    split
    · exact takeFireBulletin_alarms source b _
    · exact takeOrdinaryBulletin_alarms source b _ fun own => known (.inr own)

/-! ## Every event -/

theorem evaluateBlind_alarms (s : State) : Alarms s (evaluateBlind s) := by
  unfold evaluateBlind
  dsimp only
  split
  · exact .refl s
  · exact (setHazard_alarms rfl).trans (.of_same (alarmOf_queueBulletin _))

theorem changeHeads_alarms (new : Four (Option Head)) (s : State) : Alarms s (changeHeads new s) := by
  have w := alarms_watches
  unfold changeHeads
  dsimp only
  refine .trans ?_ ((recomputeZone_alarms _).trans (evaluateBlind_alarms _))
  refine w.ite (setHazard_alarms rfl) ((setHazard_alarms rfl).trans (.of_same (alarmOf_queueBulletin _)))

theorem setFrontEndFault_alarms (s : State) : Alarms s (setFrontEndFault s) := by
  have w := alarms_watches
  unfold setFrontEndFault
  dsimp only
  have blind : Alarms s ((s.setFront { s.front with fault := true }).setHazard { s.hazard with blind := true }) := .of_same rfl
  refine .trans (blind.trans (w.outside (requestCall_keeps _ .frontEnd) rfl)) ?_
  exact .trans (.of_same (alarmOf_queueBulletin _)) (recomputeZone_alarms _)

theorem takeInvalidScan_alarms (s : State) : Alarms s (takeInvalidScan s) := by
  have w := alarms_watches
  unfold takeInvalidScan
  dsimp only
  have counted : Alarms s (countInvalidScan
      (s.setFront { s.front with invalidRun := min (s.front.invalidRun + 1) Config.invalidLimit })) :=
    Alarms.trans (t := s.setFront { s.front with invalidRun := min (s.front.invalidRun + 1) Config.invalidLimit })
      (.of_same rfl) (w.outside (countInvalidScan_keeps _) rfl)
  exact w.ite (counted.trans (setFrontEndFault_alarms _)) counted

theorem stepHead_alarms (readings : Four HeadReading) (s : State) (k : Fin 4) : Alarms s (stepHead readings s k) := by
  unfold stepHead
  split
  · next h _ =>
    have stepped : ∀ new, Alarms s (s.setHead k new) := fun new => .of_same rfl
    exact (stepped _).trans (alarms_watches.outside (headRequests_keeps _ k h _) rfl)
  · exact .refl s

theorem clearFrontEndFault_alarms (s : State) : Alarms s (clearFrontEndFault s) := by
  unfold clearFrontEndFault
  dsimp only
  split
  · have cleared : Alarms s ((s.setFront { s.front with fault := false }).setHazard
        { s.hazard with blind := blindOf false s.hazard.heads }) := .of_same rfl
    exact cleared.trans (.of_same (alarmOf_queueBulletin _))
  · exact .refl s

theorem takeValidScan_alarms (r : ScanReadings) (s : State) : Alarms s (takeValidScan r s) := by
  have w := alarms_watches
  unfold takeValidScan
  have fault : Alarms s (clearFrontEndFault (s.setFront { s.front with invalidRun := 0 })) :=
    Alarms.trans (t := s.setFront { s.front with invalidRun := 0 }) (.of_same rfl) (clearFrontEndFault_alarms _)
  refine .trans ?_ (w.outside (takeChains_keeps _ _ _) rfl)
  refine .trans ?_ ((recomputeZone_alarms _).trans (evaluateBlind_alarms _))
  exact .trans (fault.trans (w.outside (setFront_keeps _ _) rfl)) (w.foldl _ (stepHead_alarms r.heads) allFour _)

theorem alarms_rule : HazardRule [.hazard, .control, .loader] Alarms where
  toWatches := alarms_watches
  loose := by simp
  front s x _ := .refl s
  loader s x station := .of_same (by simp [alarmOf, station])
  timer x s := .refl s
  served s := .refl s
  changed := changeHeads_alarms
  invalid := takeInvalidScan_alarms
  valid := takeValidScan_alarms
  pressed s :=
    have latched : Alarms s (s.setHazard { s.hazard with manualFire := true }) := .of_same rfl
    latched.trans (recomputeZone_alarms _)
  order := takeOrder_alarms
  joins := takeJoinExpiry_alarms
  alert := takeAlert_alarms
  hush := takeHush_alarms
  bulletin := handBulletin_alarms

theorem event_alarms (i : Instr) (s : State) : Alarms s (endingOf i (workOf i s)) :=
  (alarms_rule.event i s).trans (alarms_watches.outside (endingOf_keeps i _) rfl)

/-! ## Fire brings Evacuate, and the base agrees with the posture -/

/-- Fire means Evacuate and the own number in the fire set, and a fire set that is not empty means Evacuate. -/
structure Alarm.Fired (a : Alarm) : Prop where
  fire : a.zone = .fire → a.posture = .evacuate ∧ a.station ∈ a.fireSet
  set : a.fireSet ≠ [] → a.posture = .evacuate

theorem mem_joinFireSet (n m : Station) (set : List Station) : m ∈ joinFireSet n set ↔ m = n ∨ m ∈ set := by
  induction set with
  | nil => simp [joinFireSet]
  | cons k rest ih =>
    unfold joinFireSet
    split
    · simp
    · split
      · next same => simp [same]
      · rw [List.mem_cons, ih, List.mem_cons]
        tauto

theorem Alarm.Fired.step {a b : Alarm} (held : a.Fired) (step : a.Step b) : b.Fired := by
  obtain ⟨fire, set⟩ := held
  cases step with
  | eases z below => exact ⟨fun here => absurd here below, set⟩
  | fires => exact ⟨fun _ => ⟨rfl, (mem_joinFireSet _ _ _).2 (.inl rfl)⟩, fun _ => rfl⟩
  | enters => exact ⟨fun here => ⟨rfl, (fire here).2⟩, fun _ => rfl⟩
  | joins n => exact ⟨fun here => ⟨rfl, (mem_joinFireSet _ _ _).2 (.inr (fire here).2)⟩, fun _ => rfl⟩
  | leaves n other =>
    refine ⟨fun here => ⟨(fire here).1, ?_⟩, fun some => set fun none => some ?_⟩
    · simp [leaveFireSet, (fire here).2, Ne.symm other]
    · simp [leaveFireSet, none]
  | calm b was =>
    exact ⟨fun here => absurd (fire here).1 was, fun some => absurd (set some) was⟩
  | based => exact ⟨fire, set⟩
  | restored below => exact ⟨fun here => absurd here below, fun some => absurd rfl some⟩

/-- In Day and Night the base is the posture, and it is provisional only in Evacuate. -/
structure Alarm.Based (a : Alarm) : Prop where
  day : a.posture = .day → a.base = .day
  night : a.posture = .night → a.base = .night
  provisional : a.provisional = true → a.posture = .evacuate

theorem Alarm.Based.step {a b : Alarm} (held : a.Based) (step : a.Step b) : b.Based := by
  obtain ⟨day, night, provisional⟩ := held
  have calm : ∀ base : Base, (base.posture = .day → base = .day) ∧ (base.posture = .night → base = .night) := fun base => by
    cases base <;> simp [Base.posture]
  cases step with
  | eases | leaves => exact ⟨day, night, provisional⟩
  | fires | enters | joins => exact ⟨fun no => (by cases no), fun no => (by cases no), fun _ => rfl⟩
  | calm b was => exact ⟨(calm b).1, (calm b).2, fun mark => absurd (provisional mark) was⟩
  | based b was =>
    have evacuate : a.posture = .evacuate := was.elim id provisional
    refine ⟨fun no => ?_, fun no => ?_, fun no => (by cases no)⟩
    · cases evacuate.symm.trans no
    · cases evacuate.symm.trans no
  | restored => exact ⟨(calm _).1, (calm _).2, fun no => (by cases no)⟩

theorem Alarms.keeps {P : Alarm → Prop} (step : ∀ a b, P a → a.Step b → P b) (alarms : Alarms s t) (held : P (alarmOf s)) :
    P (alarmOf t) :=
  Relation.ReflTransGen.head_induction_on (motive := fun a _ => P a → P (alarmOf t)) alarms id
    (fun moved _ ih here => ih (step _ _ here moved)) held

/-- What every step of the alarm state keeps is a rule for the works. -/
theorem Alarms.rule {P : Alarm → Prop} (step : ∀ a b, P a → a.Step b → P b) :
    HazardRule [.hazard, .control, .loader] fun s t => P (alarmOf s) → P (alarmOf t) := by
  have keeps : ∀ {s t}, Alarms s t → P (alarmOf s) → P (alarmOf t) := fun alarms => alarms.keeps step
  have r := alarms_rule
  exact
    { trans := fun h k => k ∘ h
      outside := fun h clear => keeps (r.outside h clear)
      loose := r.loose
      front := fun s _ fault => keeps (r.front s fault)
      loader := fun s _ station => keeps (r.loader s station)
      timer := fun x s => keeps (r.timer x s)
      served := fun s => keeps (r.served s)
      changed := fun new s => keeps (r.changed new s)
      invalid := fun s => keeps (r.invalid s)
      valid := fun x s => keeps (r.valid x s)
      pressed := fun s => keeps (r.pressed s)
      order := fun o s => keeps (r.order o s)
      joins := fun s => keeps (r.joins s)
      alert := fun s => keeps (r.alert s)
      hush := fun s => keeps (r.hush s)
      bulletin := fun source b s => keeps (r.bulletin source b s) }

theorem based_iff : (alarmOf s).Based ↔ s.control.BaseAgrees :=
  ⟨fun ⟨day, night, provisional⟩ => ⟨day, night, provisional⟩, fun ⟨day, night, provisional⟩ => ⟨day, night, provisional⟩⟩

theorem fired_iff : (alarmOf s).Fired ↔ FireInEvacuate s ∧ s.control.FireSetInEvacuate :=
  ⟨fun ⟨fire, set⟩ => ⟨fire, set⟩, fun ⟨fire, set⟩ => ⟨fire, set⟩⟩

theorem based_reset : (alarmOf State.reset).Based :=
  ⟨fun no => (by cases no), fun no => (by cases no), fun no => (by cases no)⟩

theorem fired_reset : (alarmOf State.reset).Fired := ⟨fun no => (by cases no), fun no => absurd rfl no⟩

theorem baseAgrees_kept : Kept fun s => s.control.BaseAgrees := by
  have kept := (Alarms.rule fun _ _ => Alarm.Based.step).kept (P := fun s => (alarmOf s).Based) (fun _ => based_reset)
    (fun _ => based_reset) (fun _ _ ⟨day, night, provisional⟩ => ⟨day, night, provisional⟩) (fun _ => id)
  intro s t held answer
  exact based_iff.1 (kept s t (based_iff.2 held) answer)

theorem fired_kept : Kept fun s => (alarmOf s).Fired ∧ HeldAtReset s := by
  have r := Alarms.rule fun _ _ => Alarm.Fired.step
  refine kept_from_reset (fun _ _ => id) (fun _ => fired_reset) (fun _ => fired_reset) (fun pins s held atReset _ => ?_)
    (fun _ => id) (fun i s _ => (event_alarms i s).keeps fun _ _ => Alarm.Fired.step)
  refine r.beyond (settle_keeps _) rfl (r.startScan _ _ _ ?_)
  have zone : s.hazard.zone = .clear := congrArg (·.hazard.zone) (atReset held)
  have set : s.control.fireSet = [] := congrArg (·.control.fireSet) (atReset held)
  refine ⟨fun fire => ?_, fun some => absurd set some⟩
  cases zone.symm.trans fire

/-- Settles O52: the alarm state goes by steps that each bring Evacuate with Fire; every change of the heads and the latch
ends in R20's and R21's computation, and every change of posture or next hop in the lamps' derivation. -/
theorem fireMeansEvacuateKept : Obligations.FireMeansEvacuateKept := by
  unfold Obligations.FireMeansEvacuateKept
  refine ⟨fun s t ⟨fire, set, atReset⟩ answer => ?_, zoneAgrees_kept, baseAgrees_kept, brightnessAgrees_kept,
    soundAgrees_kept, blindAgrees_kept, lampFollows_kept, fun s t => step_patternsBegin, fun s => zoneIsR20_of_agrees,
    fun s => soundIsR156_of_agrees⟩
  obtain ⟨fired, held⟩ := fired_kept s t ⟨fired_iff.2 ⟨fire, set⟩, atReset⟩ answer
  obtain ⟨fire, set⟩ := fired_iff.1 fired
  exact ⟨fire, set, held⟩

end Sys2Proof.Machine
end


section
/-! SUPPORT. How many bulletins each event captures at most, and the proof that a change which is due one captures one. -/

namespace Sys2Proof.Machine

variable {c : List Block} {s t u : State} {m n : Nat}

/-! ## The bulletins captured (R5, R20, R25, R76, R166, R173) -/

/-- The bulletin count of the line port stands, and its fault does not end. -/
structure Calm (s t : State) : Prop where
  bulletins : t.line.bulletins = s.line.bulletins
  fault : s.line.fault = true → t.line.fault = true

theorem calm_watches : Watches [.line] Calm where
  trans h k := ⟨k.bulletins.trans h.bulletins, k.fault ∘ h.fault⟩
  outside h clear := by
    have line := h.line_eq fun mem => absurd (List.all_eq_true.1 clear _ mem) (by decide)
    exact ⟨by rw [line], by rw [line]; exact id⟩

theorem calm_queueNotice (count : Byte) (n : Notice) (s : State) : Calm s (queueNotice count n s) := by
  obtain ⟨-, -, -, -, -, -, bulletins, fault⟩ := queueReplacing_line_eqs (s := s) (Frame.isNoticeOf n.slot) (.notice count n)
  exact ⟨bulletins, fun set => fault.trans set⟩

theorem calm_notices : NoticeRule [.line] Calm := ⟨calm_watches, rfl, calm_queueNotice⟩

theorem calm_offerFrame (f : Frame) (s : State) : Calm s (offerFrame f s) := by
  unfold offerFrame placeNew countRefused
  split <;> exact ⟨rfl, id⟩

theorem calm_endingOf (i : Instr) (s : State) : Calm s (endingOf i s) := by
  have shown := fun u : State => calm_watches.outside (showOutputs_keeps u) rfl
  have started : Calm s (settle s) := by
    obtain ⟨-, -, -, bulletins, fault, -⟩ := startSending_line_eqs (s := s)
    exact calm_watches.trans ⟨bulletins, fun set => fault.trans set⟩ (shown _)
  have idle : Calm s (settleAtIdle s) := by
    obtain ⟨-, -, -, bulletins, fault, -⟩ := startAtIdle_line_eqs (s := s)
    exact calm_watches.trans ⟨bulletins, fun set => fault.trans set⟩ (shown _)
  unfold endingOf
  split
  · exact idle
  all_goals first | exact started | exact shown s

/-- What a bulletin on change is due for (R5, R6, R11, R20, R21, R25, R55, R56, R76, R154, R155, R181). -/
structure Shown where
  zone : Level
  blind : Bool
  frontEnd : Bool
  dirty : Four Bool
  posture : Posture
  base : Base
  duplicate : Bool
  profileFault : Bool
  chains : Bool × Bool × Bool
  route : Nat × Nat × NextHop

def shownOf (s : State) : Shown :=
  { zone := s.hazard.zone, blind := s.hazard.blind, frontEnd := s.front.fault, dirty := dirtyHeads s.hazard
    posture := s.control.posture, base := s.control.base, duplicate := s.peers.duplicate
    profileFault := s.loader.profileFault
    chains := (s.lamp.sign.fault, s.lamp.chainA.fault, s.lamp.chainB.fault)
    route := (s.route.cost, s.route.hops, s.route.next) }

/-- At most `n` bulletins are captured, and where none is, nothing changes that is due one. -/
def Captures (n : Nat) (s t : State) : Prop :=
  ∃ k ≤ n, t.line.bulletins = s.line.bulletins + BitVec.ofNat 8 k
    ∧ (k = 0 → shownOf t = shownOf s ∧ (s.line.fault = true → t.line.fault = true))

theorem Captures.of_same (calm : Calm s t) (shown : shownOf t = shownOf s) : Captures n s t :=
  ⟨0, Nat.zero_le n, by simp [calm.bulletins], fun _ => ⟨shown, calm.fault⟩⟩

theorem Captures.refl (n : Nat) (s : State) : Captures n s s := .of_same ⟨rfl, id⟩ rfl

theorem Captures.mono (le : m ≤ n) (h : Captures m s t) : Captures n s t := by
  obtain ⟨k, few, count, still⟩ := h
  exact ⟨k, few.trans le, count, still⟩

theorem Captures.trans (h : Captures m s t) (k : Captures n t u) : Captures (m + n) s u := by
  obtain ⟨a, fewA, countA, stillA⟩ := h
  obtain ⟨b, fewB, countB, stillB⟩ := k
  refine ⟨a + b, by omega, ?_, fun none => ?_⟩
  · rw [countB, countA, BitVec.add_assoc, ← BitVec.ofNat_add]
  · obtain ⟨shownA, faultA⟩ := stillA (by omega)
    obtain ⟨shownB, faultB⟩ := stillB (by omega)
    exact ⟨shownB.trans shownA, faultB ∘ faultA⟩

/-- What captures nothing comes first. -/
theorem Captures.first (h : Captures 0 s t) (k : Captures n t u) : Captures n s u := (h.trans k).mono (by omega)

/-- What captures nothing follows. -/
theorem Captures.last (h : Captures n s t) (k : Captures 0 t u) : Captures n s u := h.trans k

theorem Captures.ite {p : Prop} [Decidable p] (h : Captures n s t) (k : Captures n s u) :
    Captures n s (if p then t else u) := by
  split <;> assumption

theorem Captures.foldl {α : Type} (f : State → α → State) (h : ∀ s x, Captures n s (f s x)) (l : List α) (s : State) :
    Captures (l.length * n) s (l.foldl f s) := by
  induction l generalizing s with
  | nil => exact .refl _ s
  | cons x rest ih =>
    have both := (h s x).trans (ih (f s x))
    rw [List.length_cons, Nat.add_mul, Nat.one_mul, Nat.add_comm]
    exact both

/-- A bulletin captured after a change, and after what followed the change. -/
theorem Captures.queued (changed : t.line.bulletins = s.line.bulletins) (h : Captures n t u) :
    Captures (n + 1) s (queueBulletin u) := by
  obtain ⟨k, few, count, -⟩ := h
  have one : (queueBulletin u).line.bulletins = u.line.bulletins + 1 :=
    (queueReplacing_line_eqs (s := u.setLine { u.line with bulletins := u.line.bulletins + 1 }) Frame.isBulletin _).2.2.2.2.2.2.1
  refine ⟨k + 1, by omega, ?_, fun none => by omega⟩
  rw [one, count, changed, BitVec.ofNat_add, BitVec.add_assoc]
  rfl

theorem captures_queueBulletin (s : State) : Captures 1 s (queueBulletin s) := .queued (t := s) rfl (.refl 0 s)

/-- The blocks that `shownOf` reads. -/
abbrev shownBlocks : List Block := [.hazard, .front, .control, .peers, .loader, .lamp, .route]

theorem shownOf_of_outside (h : SameOutside c s t) (clear : c.all (· ∉ shownBlocks) = true) : shownOf t = shownOf s := by
  have out : ∀ b ∈ shownBlocks, b ∉ c := fun b read mem =>
    absurd read (by simpa using List.all_eq_true.1 clear b mem)
  unfold shownOf
  rw [h.hazard_eq (out _ (by decide)), h.front_eq (out _ (by decide)), h.control_eq (out _ (by decide)),
    h.peers_eq (out _ (by decide)), h.loader_eq (out _ (by decide)), h.lamp_eq (out _ (by decide)),
    h.route_eq (out _ (by decide))]

theorem Captures.of_calm (calm : Calm s t) (h : SameOutside c s t) (clear : c.all (· ∉ shownBlocks) = true) :
    Captures n s t :=
  .of_same calm (shownOf_of_outside h clear)

theorem Captures.of_outside (h : SameOutside c s t) (clear : c.all (· ∉ Block.line :: shownBlocks) = true) :
    Captures n s t :=
  .of_calm (calm_watches.outside h (List.all_eq_true.2 fun b mem => decide_eq_true fun watched =>
      of_decide_eq_true (List.all_eq_true.1 clear b mem) (List.mem_cons.2 (.inl (List.mem_singleton.1 watched)))))
    h (List.all_eq_true.2 fun b mem => decide_eq_true fun watched =>
      of_decide_eq_true (List.all_eq_true.1 clear b mem) (List.mem_cons_of_mem _ watched))

theorem requestCall_captures (src : Source) (s : State) : Captures n s (requestCall src s) :=
  .of_calm (calm_notices.requestCall src s) (requestCall_keeps s src) rfl

/-! ## The lamps (R146 to R157) -/

/-- A change of the lamps beside the chains' faults. -/
theorem Captures.of_lamp (h : SameOutside [.lamp, .post, .counters] s t)
    (sign : t.lamp.sign = s.lamp.sign) (a : t.lamp.chainA = s.lamp.chainA) (b : t.lamp.chainB = s.lamp.chainB) :
    Captures n s t := by
  refine .of_same (calm_watches.outside h rfl) ?_
  unfold shownOf
  rw [h.hazard_eq (by decide), h.front_eq (by decide), h.control_eq (by decide), h.peers_eq (by decide),
    h.loader_eq (by decide), h.route_eq (by decide), sign, a, b]

theorem Lamp.Sounds.captures (h : SameOutside [.lamp, .post, .counters] s t) (sounds : s.lamp.Sounds t.lamp) :
    Captures n s t := by
  obtain ⟨sound, on, same⟩ := sounds
  exact .of_lamp h (by rw [same]) (by rw [same]) (by rw [same])

theorem decideSound_captures (s : State) : Captures n s (decideSound s) :=
  (decideSound_sounds s).captures ((decideSound_keeps s).widen (by decide))

theorem deriveLamps_captures (s : State) : Captures n s (deriveLamps s) := by
  have light := deriveLamps_light s
  exact .of_lamp ((deriveLamps_keeps s).widen (by decide)) light.sign light.chainA light.chainB

theorem lampTakePosture_captures (s : State) : Captures n s (lampTakePosture s) := by
  have bright : Captures 0 s (s.setLamp { s.lamp with brightness := brightnessOf s.control.posture }) :=
    .of_same ⟨rfl, id⟩ rfl
  exact (bright.first ((deriveLamps_captures _).last (decideSound_captures _)))

theorem takeNotice_captures (source : Station) (x : Notice) (s : State) : Captures n s (takeNotice source x s) :=
  (takeNotice_sounds source x s).captures ((takeNotice_keeps s source x).widen (by decide))

theorem removeSilent_captures (e : BoardEntry) (s : State) : Captures n s (removeSilent e s) :=
  (removeSilent_sounds e s).captures ((removeSilent_keeps s e).widen (by decide))

theorem turnTest_captures (x : Option Nat) (s : State) :
    Captures n s (decideSound (s.turnLamp { s.lamp with test := x })) := by
  have turned : Captures 0 s (s.turnLamp { s.lamp with test := x }) := by
    refine .of_lamp ((setLamp_keeps s _).widen (by decide)) ?_ ?_ ?_ <;> rw [State.turnLamp_lamp, Lamp.turnedFrom_eq]
  exact turned.first (decideSound_captures _)

/-! ## The route, the leaves and the posture -/

theorem computeRouteFrom_captures (before : Nat) (s : State) : Captures 1 s (computeRouteFrom before s) := by
  have derived : Captures 0 (s.setRoute (routeOf s)) (if (routeOf s).next = s.route.next then s.setRoute (routeOf s)
      else deriveLamps (s.setRoute (routeOf s))) := .ite (.refl 0 _) (deriveLamps_captures _)
  unfold computeRouteFrom
  dsimp only
  generalize (if (routeOf s).next = s.route.next then s.setRoute (routeOf s)
    else deriveLamps (s.setRoute (routeOf s))) = u at derived
  split
  · next same =>
    obtain ⟨cost, hops, next, -⟩ := same
    have routed : Captures 0 s (s.setRoute (routeOf s)) := by
      refine .of_same ⟨rfl, id⟩ ?_
      unfold shownOf
      rw [State.setRoute_route, cost, hops, next]
      rfl
    exact (routed.first derived).mono (Nat.zero_le 1)
  · exact .queued (t := s.setRoute (routeOf s)) rfl derived

theorem computeRoute_captures (s : State) : Captures 1 s (computeRoute s) := computeRouteFrom_captures _ s

theorem leafRequests_captures (i : Fin 4) (old new : Leaf) (s : State) : Captures n s (leafRequests i old new s) := by
  refine .of_calm ?_ (leafRequests_keeps s i old new) rfl
  unfold leafRequests
  have w := calm_watches
  have r := calm_notices
  exact w.trans (w.ite (r.requestCall _ s) (w.refl s)) (w.ite (r.requestCall _ _) (w.refl _))

theorem setLeaves_captures (new : Four Leaf) (s : State) : Captures 1 s (setLeaves new s) := by
  unfold setLeaves
  dsimp only
  have placed : Captures 0 s (s.setDoors { s.doors with leaves := new }) := .of_outside (setDoors_keeps s _) rfl
  have asked := Captures.foldl (n := 0) (fun u i => leafRequests i (s.doors.leaves.get i) (new.get i) u)
    (fun u i => leafRequests_captures i _ _ u) allFour (s.setDoors { s.doors with leaves := new })
  have stood := placed.trans asked
  split
  · exact stood.trans (computeRouteFrom_captures _ _)
  · exact stood.mono (by decide)

theorem callsTakePosture_captures (oldP : Posture) (s : State) : Captures n s (callsTakePosture oldP s) :=
  .ite (.of_calm (calm_notices.requestMotion s) (requestMotion_keeps s) rfl) (.refl n s)

theorem setPosture_captures (p : Posture) (b : Base) (s : State) : Captures 2 s (setPosture p b s) := by
  unfold setPosture
  dsimp only
  split
  · exact .refl 2 s
  · refine .queued (t := s.setControl { s.control with posture := p, base := b }) rfl ?_
    have led := setLeaves_captures ((s.setControl { s.control with posture := p, base := b }).doors.leaves.map
      (leafUnderPosture (s.setControl { s.control with posture := p, base := b }) s.control.posture s.control.base))
      (s.setControl { s.control with posture := p, base := b })
    exact .ite led ((led.trans (callsTakePosture_captures (n := 0) _ _)).trans (lampTakePosture_captures (n := 0) _))

/-- A change of the posture controller beside posture and base. -/
theorem setControl_captures {x : Control} (posture : x.posture = s.control.posture) (base : x.base = s.control.base) :
    Captures n s (s.setControl x) := by
  refine .of_same ⟨rfl, id⟩ ?_
  unfold shownOf
  rw [State.setControl_control, posture, base]
  rfl

/-- A posture set after such a change. -/
theorem setPosture_captures_of {x : Control} (p : Posture) (b : Base) (posture : x.posture = s.control.posture)
    (base : x.base = s.control.base) : Captures 2 s (setPosture p b (s.setControl x)) :=
  ((setControl_captures (n := 0) posture base).trans (setPosture_captures p b _)).mono (by decide)

theorem enterEvacuate_captures (b : Base) (s : State) : Captures 2 s (enterEvacuate b s) :=
  setPosture_captures_of _ b rfl rfl

theorem enterEvacuateUnled_captures (s : State) : Captures 2 s (enterEvacuateUnled s) := by
  have marked : Captures 0 s (s.setControl { s.control with provisionalBase := true }) := setControl_captures rfl rfl
  exact .ite (marked.first (enterEvacuate_captures _ _)) (enterEvacuate_captures _ s)

theorem takeAlert_captures (s : State) : Captures 2 s (takeAlert s) := .ite (.refl 2 s) (enterEvacuateUnled_captures s)

theorem setHushed_captures (b : Bool) (s : State) : Captures n s (setHushed b s) := by
  have told : Captures 0 s (s.setControl { s.control with hushed := b }) := setControl_captures rfl rfl
  exact .ite (.refl n s) (told.first (decideSound_captures _))

theorem takeHush_captures (s : State) : Captures n s (takeHush s) := .ite (setHushed_captures true s) (.refl n s)

theorem requestAlert_captures (s : State) : Captures n s (requestAlert s) :=
  .of_calm ⟨rfl, id⟩ (requestAlert_keeps s) rfl

theorem makeAlertRequest_captures (s : State) : Captures n s (makeAlertRequest s) :=
  .ite (.refl n s) (.ite (requestAlert_captures s) (setControl_captures rfl rfl))

theorem takeOwnFire_captures (s : State) : Captures 2 s (takeOwnFire s) := by
  have joined : Captures 0 s (s.setControl
      { s.control with fireSet := joinFireSet s.loader.station s.control.fireSet }) := setControl_captures rfl rfl
  have hushed := joined.trans (setHushed_captures (n := 0) false _)
  unfold takeOwnFire
  dsimp only
  refine Captures.trans (m := 2) (n := 0) ?_ (makeAlertRequest_captures _)
  exact .ite (hushed.mono (by decide)) (hushed.first (enterEvacuateUnled_captures _))

/-! ## The zone hazard and the heads -/

theorem recomputeZone_captures (s : State) : Captures 4 s (recomputeZone s) := by
  unfold recomputeZone
  dsimp only
  split
  · exact .refl 4 s
  · have told : Captures 1 s (queueBulletin (s.setHazard { s.hazard with zone := zoneOf s.hazard })) :=
      .queued (t := s.setHazard { s.hazard with zone := zoneOf s.hazard }) rfl (.refl 0 _)
    have fired : Captures 3 s (if zoneOf s.hazard = .fire then
        takeOwnFire (queueBulletin (s.setHazard { s.hazard with zone := zoneOf s.hazard }))
      else queueBulletin (s.setHazard { s.hazard with zone := zoneOf s.hazard })) :=
      .ite (told.trans (takeOwnFire_captures _)) (told.mono (by decide))
    exact (fired.trans (computeRouteFrom_captures _ _)).trans (.of_outside (n := 0) (evaluateMagnets_keeps _) rfl)

theorem evaluateBlind_captures (s : State) : Captures 1 s (evaluateBlind s) :=
  .ite (.refl 1 s) (.queued (t := s.setHazard { s.hazard with blind := blindOf s.front.fault s.hazard.heads }) rfl
    (.refl 0 _))

/-- Heads or a latch that change and leave the zone, Blind and the Dirty marks. -/
theorem setHazard_captures {x : Hazard} (zone : x.zone = s.hazard.zone) (blind : x.blind = s.hazard.blind)
    (dirty : dirtyHeads x = dirtyHeads s.hazard) : Captures n s (s.setHazard x) := by
  refine .of_same ⟨rfl, id⟩ ?_
  unfold shownOf
  rw [State.setHazard_hazard, zone, blind, dirty]
  rfl

theorem changeHeads_captures (new : Four (Option Head)) (s : State) : Captures 6 s (changeHeads new s) := by
  unfold changeHeads
  dsimp only
  refine Captures.trans (m := 1) (n := 5) ?_ ((recomputeZone_captures _).trans (evaluateBlind_captures _))
  split
  · next same => exact setHazard_captures rfl rfl same
  · exact .queued (t := s.setHazard
      { s.hazard with heads := new, manualFire := s.hazard.manualFire || fireRemoved s.hazard.heads new }) rfl (.refl 0 _)

theorem Head.restored_dirty (front : Bool) (h : Head) : (h.restored front).dirty = h.dirty := by
  unfold Head.restored
  dsimp only
  repeat' split
  all_goals rfl

theorem dirtyHeads_restored (front : Bool) (x : Hazard) (heads : x.heads = t.hazard.heads.map (Option.map (Head.restored front))) :
    dirtyHeads x = dirtyHeads t.hazard := by
  refine Four.ext_get fun k => ?_
  unfold dirtyHeads
  simp only [heads, Four.get_map]
  cases t.hazard.heads.get k with
  | none => rfl
  | some h => exact Head.restored_dirty front h

theorem restoreHazard_captures (s : State) : Captures 4 s (restoreHazard s) := by
  have eased : Captures 0 s (s.setHazard
      { s.hazard with
        heads := s.hazard.heads.map (fun o => o.map (Head.restored s.front.fault)), manualFire := false }) :=
    setHazard_captures rfl rfl (dirtyHeads_restored s.front.fault _ rfl)
  exact eased.first (recomputeZone_captures _)

/-! ## Restores, orders and bulletins -/

theorem closeFireCalls_captures (s : State) : Captures n s (closeFireCalls s) :=
  .of_calm (calm_notices.closeGroup _ _ s) (closeFireCalls_keeps s) rfl

theorem acceptRestore_captures (s : State) : Captures 6 s (acceptRestore s) := by
  have eased : Captures 4 s (closeFireCalls (restoreHazard s)) :=
    (restoreHazard_captures s).last (closeFireCalls_captures _)
  unfold acceptRestore
  dsimp only
  generalize closeFireCalls (restoreHazard s) = u at eased
  exact eased.trans (setPosture_captures_of _ _ (by rfl) (by rfl))

theorem takeRestore_captures (s : State) : Captures 6 s (takeRestore s) :=
  .ite (.ite (acceptRestore_captures s) (.ite ((captures_queueBulletin s).mono (by decide)) (.refl 6 s))) (.refl 6 s)

theorem takeOrder_captures (o : Order) (s : State) : Captures 6 s (takeOrder o s) := by
  have based : ∀ b, Captures 6 s (takeBaseOrder b s) := fun b =>
    .ite ((setPosture_captures_of _ _ (by rfl) (by rfl)).mono (by decide)) ((setPosture_captures_of _ _ (by rfl) (by rfl)).mono (by decide))
  cases o with
  | day | night => exact based _
  | restore => exact takeRestore_captures s

theorem takeBase_captures (b : Bulletin) (s : State) : Captures 2 s (takeBase b s) := by
  unfold takeBase
  split
  · exact .ite (setPosture_captures_of _ _ (by rfl) (by rfl)) (.refl 2 s)
  · exact .refl 2 s

theorem enterFromFireBulletin_captures (b : Bulletin) (s : State) : Captures 2 s (enterFromFireBulletin b s) := by
  unfold enterFromFireBulletin
  split
  · exact enterEvacuate_captures _ s
  · exact enterEvacuateUnled_captures s

theorem joinedBy_captures (source : Station) (s : State) : Captures n s (joinedBy source s) := by
  have joined : Captures 0 s (s.setControl { s.control with fireSet := joinFireSet source s.control.fireSet }) :=
    setControl_captures rfl rfl
  exact .ite (.refl n s) (joined.first (setHushed_captures false _))

theorem takeFireBulletin_captures (source : Station) (b : Bulletin) (s : State) :
    Captures 2 s (takeFireBulletin source b s) := by
  rw [takeFireBulletin_eq]
  have joined := joinedBy_captures (n := 0) source s
  refine .ite ?_ (.ite ?_ ?_)
  · exact joined.first (takeBase_captures b _)
  · exact joined.first (enterFromFireBulletin_captures b _)
  · exact joined.first (enterEvacuate_captures _ _)

theorem adopt_captures (b : Bulletin) (s : State) : Captures 2 s (adopt b s) := by
  unfold adopt
  split
  · exact .refl 2 s
  · exact setPosture_captures_of _ _ (by rfl) (by rfl)
  · exact setPosture_captures_of _ _ (by rfl) (by rfl)
  · exact enterEvacuate_captures _ s

theorem takeOrdinaryBulletin_captures (source : Station) (b : Bulletin) (s : State) :
    Captures 2 s (takeOrdinaryBulletin source b s) := by
  have left : Captures 0 s (s.setControl { s.control with fireSet := leaveFireSet source s.control.fireSet }) :=
    setControl_captures rfl rfl
  unfold takeOrdinaryBulletin
  dsimp only
  split
  · exact left.first (adopt_captures b _)
  · exact left.first (takeBase_captures b _)

/-- A change of the peer table beside the Duplicate fault. -/
theorem setPeers_captures {x : PeerTable} (duplicate : x.duplicate = s.peers.duplicate) : Captures n s (s.setPeers x) := by
  refine .of_same ⟨rfl, id⟩ ?_
  unfold shownOf
  rw [State.setPeers_peers, duplicate]
  rfl

theorem setEntry_captures (j : Fin 8) (e : Entry) (s : State) : Captures 1 s (computeRoute (s.setEntry j e)) :=
  ((setPeers_captures (n := 0) rfl).trans (computeRouteFrom_captures _ (s.setEntry j e))).mono (by decide)

theorem takeForeign_captures (s : State) : Captures 1 s (takeForeign s) := by
  unfold takeForeign
  dsimp only
  split
  · next was =>
    refine Captures.trans (m := 1) (n := 0) (setPeers_captures was.symm) (.of_outside (countDuplicate_keeps _) rfl)
  · have counted := Captures.of_outside (n := 0)
      (countDuplicate_keeps (s.setPeers { s.peers with duplicate := true, duplicateTimer := some 0 })) rfl
    exact .queued (t := s.setPeers { s.peers with duplicate := true, duplicateTimer := some 0 }) rfl
      (counted.last (requestCall_captures .duplicate _))

theorem peersTakeBulletin_captures (source : Station) (b : Bulletin) (s : State) :
    Captures 1 s (peersTakeBulletin source b s) := by
  unfold peersTakeBulletin
  refine .ite (.refl 1 s) (.ite (takeForeign_captures s) ?_)
  split
  · split
    · next j _ _ e _ =>
      unfold updateEntry
      dsimp only
      have taken := setEntry_captures j (e.refreshed b) s
      exact .ite (taken.trans (.of_outside (n := 0) (evaluateMagnets_keeps _) rfl)) taken
    · exact .refl 1 s
  · exact .refl 1 s

theorem handBulletin_captures (source : Station) (b : Bulletin) (s : State) : Captures 3 s (handBulletin source b s) :=
  (peersTakeBulletin_captures source b s).trans
    (.ite (.refl 2 _) (.ite (takeFireBulletin_captures source b _) (takeOrdinaryBulletin_captures source b _)))

/-! ## The scans (R1 to R6, R15, R154, R155) -/

theorem takeFirePress_captures (i : Fin 6) (s : State) : Captures 4 s (takeFirePress i s) := by
  unfold takeFirePress
  dsimp only
  refine .ite ?_ (.refl 4 s)
  have cleared : Captures 0 s (s.setInput i { s.calls.inputs.get i with pressed := false }) :=
    .of_outside (setCalls_keeps s _) rfl
  generalize s.setInput i { s.calls.inputs.get i with pressed := false } = u at cleared
  have latched : Captures 0 u (u.setHazard { u.hazard with manualFire := true }) := setHazard_captures rfl rfl rfl
  exact ((cleared.first latched).first (recomputeZone_captures _)).last (requestCall_captures _ _)

/-- A change of the front end beside its fault. -/
theorem setFront_captures {x : FrontEnd} (fault : x.fault = s.front.fault) : Captures n s (s.setFront x) := by
  refine .of_same ⟨rfl, id⟩ ?_
  unfold shownOf
  rw [State.setFront_front, fault]
  rfl

theorem beginScan_captures (warmUp : Bool) (s : State) : Captures n s (beginScan warmUp s) := .of_same ⟨rfl, id⟩ rfl

theorem startScan_captures (warmUp : Bool) (present : BitVec 4) (s : State) :
    Captures 6 s (startScan warmUp present s) :=
  .ite ((beginScan_captures warmUp s).first (changeHeads_captures _ _)) (beginScan_captures warmUp s)

theorem headRequests_captures {k : Fin 4} {old new : Head} (here : s.hazard.heads.get k = some old) :
    Captures 1 s (headRequests k old new (s.setHead k new)) := by
  have calls := calm_notices
  have asked : ∀ (p : Prop) [Decidable p] src u, Captures 0 u (if p then requestCall src u else u) := fun p _ src u =>
    .ite (requestCall_captures src u) (.refl 0 u)
  unfold headRequests
  dsimp only
  have three := ((asked (new.fault && !old.fault) (.headFault k) (s.setHead k new)).trans
    (asked (new.level == .fire && old.level != .fire) (.head k) _)).trans (asked (new.dirty && !old.dirty) (.headDirty k) _)
  split
  · exact .queued (t := s.setHead k new) rfl three
  · next same =>
    have dirty : new.dirty = old.dirty := by simpa using same
    have stepped : Captures 0 s (s.setHead k new) := by
      refine setHazard_captures rfl rfl (Four.ext_get fun i => ?_)
      unfold dirtyHeads
      simp only [Four.get_map]
      by_cases own : i = k
      · subst own
        rw [Four.get_set_self, here]
        exact dirty
      · rw [Four.get_set_of_ne _ _ _ _ own]
    exact (stepped.first three).mono (Nat.zero_le 1)

theorem stepHead_captures (readings : Four HeadReading) (s : State) (k : Fin 4) :
    Captures 1 s (stepHead readings s k) := by
  unfold stepHead
  split
  · next here => exact headRequests_captures here
  · exact .refl 1 s

theorem clearFrontEndFault_captures (s : State) : Captures 1 s (clearFrontEndFault s) := by
  unfold clearFrontEndFault
  dsimp only
  refine .ite ?_ (.refl 1 s)
  exact .queued (t := (s.setFront { s.front with fault := false }).setHazard
    { s.hazard with blind := blindOf false s.hazard.heads }) rfl (.refl 0 _)

theorem takeInvalidScan_captures (s : State) : Captures 5 s (takeInvalidScan s) := by
  have counted : Captures 0 s (countInvalidScan
      (s.setFront { s.front with invalidRun := min (s.front.invalidRun + 1) Config.invalidLimit })) :=
    Captures.last (t := s.setFront { s.front with invalidRun := min (s.front.invalidRun + 1) Config.invalidLimit })
      (setFront_captures rfl) (.of_outside (countInvalidScan_keeps _) rfl)
  have failed : ∀ u, Captures 5 u (setFrontEndFault u) := fun u =>
    (Captures.queued (s := u) (t := (u.setFront { u.front with fault := true }).setHazard { u.hazard with blind := true }) rfl
      (requestCall_captures (n := 0) .frontEnd _)).trans (recomputeZone_captures _)
  exact .ite (counted.first (failed _)) (counted.mono (Nat.zero_le 5))

/-- A chain that takes its reading: what it asks follows the change. -/
theorem chain_captures {src : Source} {old new : Chain} (changed : t.line.bulletins = s.line.bulletins)
    (same : new.fault = old.fault → Captures 0 s t) : Captures 1 s (chainRequests src old new t) := by
  have asked : Captures 0 t (if new.fault && !old.fault then requestCall src t else t) :=
    .ite (requestCall_captures src t) (.refl 0 t)
  unfold chainRequests
  dsimp only
  split
  · exact .queued changed asked
  · next still => exact ((same (by simpa using still)).first asked).mono (Nat.zero_le 1)

/-- A change of the lamps that leaves each chain's fault. -/
theorem setLamp_captures {l : Lamp} (sign : l.sign.fault = s.lamp.sign.fault) (a : l.chainA.fault = s.lamp.chainA.fault)
    (b : l.chainB.fault = s.lamp.chainB.fault) : Captures n s (s.setLamp l) := by
  refine .of_same ⟨rfl, id⟩ ?_
  unfold shownOf
  rw [State.setLamp_lamp, sign, a, b]
  rfl

theorem takeChains_captures (shown : Lamp) (r : ScanReadings) (s : State) : Captures 3 s (takeChains shown r s) := by
  have lamp : ∀ src old new (u : State), (chainRequests src old new u).lamp = u.lamp := fun src old new u =>
    (chainRequests_keeps u src old new).lamp_eq (by decide)
  unfold takeChains
  dsimp only
  generalize fst : chainRequests .chainSign _ _ _ = u
  have onSign : Captures 1 s u := fst ▸ chain_captures (by rfl) fun same => setLamp_captures same rfl rfl
  have lampSign : u.lamp.chainA = s.lamp.chainA ∧ u.lamp.chainB = s.lamp.chainB := by
    rw [← fst, lamp]
    exact ⟨rfl, rfl⟩
  generalize snd : chainRequests .chainA _ _ _ = v
  have onA : Captures 1 u v := snd ▸ chain_captures (by rfl) fun same =>
    setLamp_captures rfl (same.trans (by rw [lampSign.1])) rfl
  have lampA : v.lamp.chainB = s.lamp.chainB := by
    rw [← snd, lamp]
    exact lampSign.2
  refine (onSign.trans onA).trans (chain_captures (by rfl) fun same => ?_)
  exact setLamp_captures rfl rfl (same.trans (by rw [lampA]))

theorem takeValidScan_captures (r : ScanReadings) (s : State) : Captures 13 s (takeValidScan r s) := by
  unfold takeValidScan
  have started : Captures 1 s (clearFrontEndFault (s.setFront { s.front with invalidRun := 0 })) :=
    Captures.first (t := s.setFront { s.front with invalidRun := 0 }) (setFront_captures rfl)
      (clearFrontEndFault_captures _)
  have stored := started.last (setFront_captures (n := 0) (x := (storeRaw r
    (clearFrontEndFault (s.setFront { s.front with invalidRun := 0 }))).front) rfl)
  have stepped := stored.trans (Captures.foldl _ (stepHead_captures r.heads) allFour _)
  exact ((stepped.trans (recomputeZone_captures _)).trans (evaluateBlind_captures _)).trans (takeChains_captures _ _ _)

theorem takeScan_captures (r : ScanReadings) (present : BitVec 4) (s : State) : Captures 19 s (takeScan r present s) := by
  unfold takeScan
  split
  · next scan _ =>
    have judged : Captures 13 s (takeResult scan r (s.setFront { s.front with scan := none, scanHeld := false })) := by
      refine Captures.first (t := s.setFront { s.front with scan := none, scanHeld := false }) (setFront_captures rfl) ?_
      exact .ite (.refl 13 _) (.ite (takeValidScan_captures r _) ((takeInvalidScan_captures _).mono (by decide)))
    exact .ite (judged.trans (startScan_captures _ _ _)) (judged.mono (by decide))
  · exact .refl 19 s

/-! ## The load (R180) -/

theorem setLoader_captures {x : Loader} (fault : x.profileFault = s.loader.profileFault) :
    Captures n s (s.setLoader x) := by
  refine .of_same ⟨rfl, id⟩ ?_
  unfold shownOf
  rw [State.setLoader_loader, fault]
  rfl

theorem configureHeads_captures (p : Profile) (s : State) : Captures 6 s (configureHeads p s) := by
  have voided : Captures 0 s (s.setFront
      { s.front with scan := s.front.scan.map (fun sc => { sc with void := true }) }) := setFront_captures rfl
  exact .ite (voided.first (changeHeads_captures _ _)) (.refl 6 s)

theorem showDefaultAspect_captures (p : Profile) (s : State) : Captures n s (showDefaultAspect p s) :=
  .ite (setLamp_captures rfl rfl rfl) (.refl n s)

theorem raiseProfileFault_captures (s : State) : Captures 1 s (raiseProfileFault s) :=
  .ite (.refl 1 s) (.queued (t := s.setLoader { s.loader with profileFault := true }) rfl
    (requestCall_captures (n := 0) .profile _))

theorem takeWaiting_captures (s : State) : Captures 24 s (takeWaiting s) := by
  have pressed : ∀ u i, Captures 4 u (takeWaitingPress u i) := fun u i => by
    unfold takeWaitingPress
    split
    · exact .of_calm (calm_notices.takeHelpPress i u) (takeHelpPress_keeps u i) rfl
    · exact takeFirePress_captures i u
    · exact .of_outside (setCalls_keeps u _) rfl
    · exact .of_outside (setCalls_keeps u _) rfl
  exact (Captures.foldl takeWaitingPress pressed allSix s).last
    (.of_calm (calm_notices.requestMotion _) (requestMotion_keeps _) rfl)

theorem serveAlert_captures (s : State) : Captures n s (serveAlert s) := by
  have served : Captures 0 s (s.setControl { s.control with alertPending := false }) := setControl_captures rfl rfl
  exact .ite (served.first (requestAlert_captures _)) (.refl n s)

theorem completeLoad_captures (reached : LoadState) (p : Profile) (s : State) :
    Captures 32 s (completeLoad reached p s) := by
  have recorded : Captures 0 s (recordLoad reached p s) := setLoader_captures rfl
  have built : Captures 0 s (buildEntries p (recordLoad reached p s)) := recorded.last (setPeers_captures rfl)
  have configured : Captures 0 s (configureLeaves p (buildEntries p (recordLoad reached p s))) :=
    built.last (.of_outside (setDoors_keeps _ _) rfl)
  have routed := configured.first (computeRoute_captures _)
  have headed := ((routed.trans (configureHeads_captures p _)).last (showDefaultAspect_captures p _)).trans
    (raiseProfileFault_captures _)
  have taken := (headed.trans (takeWaiting_captures _)).last (.of_outside (beginRoleIf_keeps _ p) rfl)
  have joins : ∀ u, Captures 0 u (startJoin u) := fun u => .ite (setControl_captures rfl rfl) (.refl 0 u)
  have refreshed : ∀ u, Captures 0 u (startRefresh u) := fun u => .ite (.of_same ⟨rfl, id⟩ rfl) (.refl 0 u)
  unfold completeLoad
  exact ((taken.last (joins _)).last (serveAlert_captures _)).last (refreshed _)

theorem setLoadState_captures (x : LoadState) (s : State) : Captures n s (s.setLoadState x) := setLoader_captures rfl

theorem takeRead_captures (block : List Byte) (s : State) : Captures 32 s (takeRead block s) := by
  unfold takeRead
  split
  · split
    · exact completeLoad_captures _ _ s
    · exact setLoadState_captures _ s
  · split
    · exact completeLoad_captures _ _ s
    · exact completeLoad_captures _ _ s
  all_goals exact .refl 32 s

/-! ## The line port (R160, R165, R168 to R173) -/

theorem setLine_captures {l : LinePort} (bulletins : l.bulletins = s.line.bulletins)
    (fault : s.line.fault = true → l.fault = true) : Captures n s (s.setLine l) := .of_same ⟨bulletins, fault⟩ rfl

theorem setReceiver_captures (r : Receiver) (s : State) : Captures n s (s.setReceiver r) := setLine_captures rfl id

theorem dropOwnFrame_captures (s : State) : Captures n s (dropOwnFrame s) := setLine_captures rfl id

theorem setCounters_captures (x : Counters) (s : State) : Captures n s (s.setCounters x) :=
  .of_outside (setCounters_keeps s x) rfl

theorem countCut_captures (wire : List Byte) (s : State) : Captures n s (countCut wire s) :=
  .of_outside (countCut_keeps s wire) rfl

theorem endFrame_captures (corrected : Bool) (s : State) : Captures n s (endFrame corrected s) := by
  have ended : Captures 0 s (s.setReceiver .discard) := setReceiver_captures _ s
  exact .ite (ended.first (setCounters_captures _ _)) (ended.mono (Nat.zero_le n))

theorem takeIdle_captures (s : State) : Captures 1 s (takeIdle s) := by
  have cleared : ∀ u, Captures 1 u (clearLineFault u) := fun u =>
    (Captures.queued (s := u) (t := u.setLine { u.line with fault := false }) rfl
      (requestCall_captures (n := 0) .line _)).last (setLine_captures rfl id)
  have idle : Captures 1 s (if (s.setReceiver .quiet).line.fault then clearLineFault (s.setReceiver .quiet)
      else s.setReceiver .quiet) :=
    .ite ((setReceiver_captures _ s).first (cleared _)) (setReceiver_captures _ s)
  unfold takeIdle
  split
  · exact idle
  · exact idle
  · exact idle
  all_goals exact .refl 1 s

theorem takeStuck_captures (s : State) : Captures n s (takeStuck s) := by
  have counted : Captures 0 s (if s.line.fault then s else countStuck s) :=
    .ite (.refl 0 s) (setCounters_captures _ s)
  unfold takeStuck
  exact (counted.last (dropOwnFrame_captures _)).first (setLine_captures rfl fun _ => rfl)

theorem takeBreak_captures (wire : List Byte) (s : State) : Captures n s (takeBreak wire s) := by
  unfold takeBreak
  have cut := countCut_captures (n := 0) wire s
  have dropped : ∀ u : State, Captures 0 u (if u.line.onLine.isSome then countAborted (dropOwnFrame u) else u) := fun u =>
    .ite ((dropOwnFrame_captures u).last (setCounters_captures _ _)) (.refl 0 u)
  exact (cut.last (dropped _)).first (setReceiver_captures _ _)

theorem takeTransmitError_captures (cause : BitErrorCause) (s : State) : Captures n s (takeTransmitError cause s) := by
  have dropped : Captures 0 s (countBitError ((dropOwnFrame s).setReceiver .discard)) :=
    ((dropOwnFrame_captures s).last (setReceiver_captures _ _)).last (setCounters_captures _ _)
  unfold takeTransmitError
  refine .ite ?_ (.refl n s)
  cases cause with
  | driveFailed => exact dropped.mono (Nat.zero_le n)
  | lineError => exact dropped.first (setCounters_captures _ _)

theorem takeArbitrationLost_captures (s : State) : Captures n s (takeArbitrationLost s) :=
  .ite (((dropOwnFrame_captures (n := 0) s).last (setReceiver_captures _ _)).first (setCounters_captures _ _)) (.refl n s)

theorem takeFramingError_captures (wire : List Byte) (s : State) : Captures n s (takeFramingError wire s) := by
  unfold takeFramingError
  refine .ite (((countCut_captures (n := 0) wire s).last (setReceiver_captures _ _)).first (setCounters_captures _ _)) ?_
  split
  · exact setReceiver_captures _ s
  · exact setReceiver_captures _ s
  · exact .refl n s

theorem takeDiscarded_captures (wire : List Byte) (s : State) : Captures n s (takeDiscarded wire s) := by
  unfold takeDiscarded
  refine .ite ?_ (.refl n s)
  split
  · exact (endFrame_captures (n := 0) _ s).first (setCounters_captures _ _)
  · exact (endFrame_captures (n := 0) _ s).first (setCounters_captures _ _)
  · exact .refl n s

theorem takeDriven_captures (s : State) : Captures n s (takeDriven s) := by
  unfold takeDriven
  dsimp only
  split
  · exact setLine_captures rfl id
  · exact Captures.first (t := s.setLine { s.line with
      driving := none, receiver := s.line.receiver.afterBreak, hushPending := false }) (setLine_captures rfl id)
      (takeHush_captures _)
  · exact .refl n s

theorem takeTriggerLost_captures (cause : TriggerLoss) (s : State) : Captures n s (takeTriggerLost cause s) := by
  unfold takeTriggerLost
  split
  · next t _ => cases t <;> cases cause <;> exact .of_same ⟨rfl, id⟩ rfl
  · exact .refl n s

theorem takeCode_captures {hand : State → State} (handed : ∀ u, Captures n u (hand u)) (s : State) :
    Captures n s (takeCode hand s) :=
  .ite ((setReceiver_captures _ s).first (handed _)) (.refl n s)

theorem takeRefresh_captures (s : State) : Captures 1 s (takeRefresh s) :=
  .ite ((captures_queueBulletin s).last (setLine_captures rfl id)) (.refl 1 s)

/-! ## The door unit and the post unit -/

theorem leafEvent_captures (i : Fin 4) (act : Leaf → Leaf) (s : State) : Captures 1 s (leafEvent i act s) :=
  setLeaves_captures _ s

theorem setDoors_captures (x : Doors) (s : State) : Captures n s (s.setDoors x) := .of_outside (setDoors_keeps s x) rfl

theorem takeDoorContact_captures (i : Fin 4) (closed : Bool) (s : State) : Captures 1 s (takeDoorContact i closed s) := by
  unfold takeDoorContact
  dsimp only
  refine .ite (.refl 1 s) ?_
  split
  · exact .refl 1 s
  · exact setDoors_captures _ s
  · exact leafEvent_captures _ _ s

theorem takeBoltContact_captures (i : Fin 4) (thrown : Bool) (s : State) : Captures 1 s (takeBoltContact i thrown s) := by
  unfold takeBoltContact
  dsimp only
  refine .ite (.refl 1 s) ?_
  split
  · exact .refl 1 s
  · exact setDoors_captures _ s
  · exact leafEvent_captures _ _ s

theorem takeExitRequest_captures (i : Fin 4) (s : State) : Captures 1 s (takeExitRequest i s) := by
  unfold takeExitRequest
  dsimp only
  refine .ite (.refl 1 s) ?_
  split
  · exact (leafEvent_captures _ _ s).last (.ite (requestCall_captures _ _) (.refl 0 _))
  · exact setDoors_captures _ s

theorem setPost_captures (x : Post) (s : State) : Captures n s (s.setPost x) := .of_outside (setPost_keeps s x) rfl

theorem askLine_captures (f : Frame) (s : State) : Captures n s (askLine f s) := by
  have offered : Captures 0 s (offerFrame f s) := .of_calm (calm_offerFrame f s) (offerFrame_keeps s f) rfl
  exact .ite (offered.first (setPost_captures _ _)) (offered.mono (Nat.zero_le n))

theorem commandKey_captures {act : State → State} (acts : ∀ u, Captures n u (act u)) (s : State) :
    Captures n s (commandKey act s) := .ite (acts s) (setPost_captures _ s)

theorem keyAct_captures (k : Key) (s : State) : Captures n s (keyAct k s) := by
  cases k with
  | take =>
    change Captures n s (takeKey s)
    unfold takeKey
    split
    · exact .ite (.ite (askLine_captures _ s) ((askLine_captures (n := 0) _ s).first (setPost_captures _ _)))
        (setPost_captures _ s)
    · exact setPost_captures _ s
  | next => exact setPost_captures _ s
  | cancel =>
    change Captures n s (cancelKey s)
    unfold cancelKey
    split
    · exact Captures.first (.ite (askLine_captures _ s) (setPost_captures _ s)) (removeSilent_captures _ _)
    · exact setPost_captures _ s
  | hush =>
    exact commandKey_captures (act := fun u => u.setLine { u.line with hushPending := true })
      (fun _ => setLine_captures rfl id) s
  | day | night | restore => exact commandKey_captures (askLine_captures _) s
  | test => exact turnTest_captures _ s
  | unused => exact .refl n s

theorem takeKeyUp_captures (k : Key) (s : State) : Captures n s (takeKeyUp k s) := by
  have post := fun (x : Post) (u : State) => setPost_captures (n := 0) x u
  have accepted : ∀ held u, Captures 0 u (acceptKey held u) := fun held u => (post _ u).first (keyAct_captures held _)
  refine Captures.mono (Nat.zero_le n) ?_
  unfold takeKeyUp
  refine .ite ((post _ s).last (.ite ?_ (.refl 0 _))) (.refl 0 s)
  split
  · exact .refl 0 _
  · exact .ite ((post _ _).last (accepted _ _)) (.refl 0 _)
  · exact .ite (post _ _) (.refl 0 _)

/-! ## Every event -/

theorem handCompletion_captures (f : Frame) (s : State) : Captures 6 s (handCompletion f s) := by
  cases f with
  | bulletin => exact setLine_captures rfl id
  | order o => exact takeOrder_captures o s
  | take target slot seq => exact .of_calm (calm_notices.handTake _ target slot seq s) (handTake_keeps s _ target slot seq) rfl
  | cancel target slot seq =>
    exact .of_calm (calm_notices.handCancel _ target slot seq s) (handCancel_keeps s _ target slot seq) rfl
  | notice count x => exact takeNotice_captures _ x s
  | request | answer => exact .refl 6 s

theorem passSecond_captures (s : State) : Captures n s (passSecond s) := by
  refine .of_same ⟨by rw [passSecond_line], by rw [passSecond_line]; exact id⟩ ?_
  have frame := passSecond_keeps s
  unfold shownOf
  rw [frame.hazard_eq (by decide), frame.front_eq (by decide), frame.loader_eq (by decide), frame.route_eq (by decide),
    passSecond_control, passSecond_peers, passSecond_lamp]

theorem receive_captures {want : Station → Frame → Option (State → State)} (wire : List Byte) (s : State)
    (handed : ∀ source f hand, want source f = some hand → ∀ u, Captures n u (hand u)) :
    Captures n s (receive wire want s) := by
  unfold receive
  refine .ite ?_ (.refl n s)
  split
  · split
    · next wanted => exact (endFrame_captures _ s).first (handed _ _ _ wanted _)
    · exact .refl n s
  · exact .refl n s

theorem receiveRequest_captures (which : Fin 16 → Bool) (wire : List Byte) (s : State) :
    Captures n s (receive wire (wantRequest which) s) :=
  receive_captures wire s fun _ _ _ wanted u => by
    obtain ⟨target, area, index, rfl, -, rfl⟩ := wantRequest_eq_some wanted
    refine .of_calm ?_ (handRequest_keeps u target area index) rfl
    have spent : ∀ v, Calm v (spendFree area index v) := fun v => calm_watches.outside (spendFree_keeps v area index) rfl
    exact calm_watches.ite (calm_watches.trans (calm_offerFrame _ u) (spent _)) (calm_watches.refl u)

theorem workOf_captures (i : Instr) (s : State) : Captures 32 s (workOf i s) := by
  have frame := workOf_keeps i s
  have bulletin : ∀ asFire wire, Captures 32 s (receive wire (wantBulletin asFire) s) := fun asFire wire =>
    receive_captures wire s fun _ _ _ wanted u => by
      obtain ⟨_, b, rfl, rfl⟩ := wantBulletin_eq_some wanted
      exact (handBulletin_captures _ b u).mono (by decide)
  have order : ∀ o wire, Captures 32 s (receive wire (wantOrder o) s) := fun o wire =>
    receive_captures wire s fun _ _ _ wanted u => by
      obtain ⟨rfl, rfl⟩ := wantOrder_eq_some wanted
      exact (takeOrder_captures o u).mono (by decide)
  have lamp : ∀ l : Lamp, l.sign = s.lamp.sign → l.chainA = s.lamp.chainA → l.chainB = s.lamp.chainB →
      Captures 32 s (s.setLamp l) := fun l sign a b =>
    setLamp_captures (congrArg Chain.fault sign) (congrArg Chain.fault a) (congrArg Chain.fault b)
  have turned : ∀ l : Lamp, l.sign = s.lamp.sign → l.chainA = s.lamp.chainA → l.chainB = s.lamp.chainB →
      Captures 32 s (s.turnLamp l) := fun l sign a b =>
    have light := Lamp.sameLight_turnedFrom s.lamp l
    lamp _ (light.sign.trans sign) (light.chainA.trans a) (light.chainB.trans b)
  cases i with
  | profileReadDone block => exact takeRead_captures block s
  | loadWaitExpiry => exact .ite (setLoadState_captures _ s) (.refl 32 s)
  | scanIntervalExpiry present =>
    exact .ite (setFront_captures rfl) ((startScan_captures false present s).mono (by decide))
  | scanResult readings present => exact (takeScan_captures readings present s).mono (by decide)
  | joinTimerExpiry => exact .ite ((setPosture_captures_of _ _ (by rfl) (by rfl)).mono (by decide)) (.refl 32 s)
  | lineIdle => exact (takeIdle_captures s).mono (by decide)
  | frameComplete =>
    change Captures 32 s (takeCompletion s)
    unfold takeCompletion
    split
    · refine Captures.first (t := s.setLine { s.line with
        queue := s.line.queue.filter (fun e => !e.inFlight), onLine := none, receiver := .discard })
        (setLine_captures rfl id) ((handCompletion_captures _ _).mono (by decide))
    · exact .refl 32 s
  | arbitrationLost => exact takeArbitrationLost_captures s
  | transmitBitError cause => exact takeTransmitError_captures cause s
  | lineBreak wire => exact takeBreak_captures wire s
  | triggerDriven => exact takeDriven_captures s
  | triggerLost cause => exact takeTriggerLost_captures cause s
  | alertTrigger => exact takeCode_captures (fun u => (takeAlert_captures u).mono (by decide)) s
  | hushTrigger => exact takeCode_captures (fun u => takeHush_captures u) s
  | codeWaitTimeout => exact .ite (setReceiver_captures _ s) (.refl 32 s)
  | lineStuck => exact takeStuck_captures s
  | framingError wire => exact takeFramingError_captures wire s
  | frameDiscarded wire => exact takeDiscarded_captures wire s
  | bulletin wire | fireBulletin wire => exact bulletin _ wire
  | postureOrderDay wire | postureOrderNight wire | postureOrderRestore wire => exact order _ wire
  | callNotice wire =>
    refine receive_captures wire s fun source f hand wanted u => ?_
    obtain ⟨_, x, rfl, rfl⟩ := wantNotice_eq_some wanted
    exact takeNotice_captures source x u
  | callTake wire =>
    refine receive_captures wire s fun source f hand wanted u => ?_
    obtain ⟨target, slot, seq, rfl, rfl⟩ := wantTake_eq_some wanted
    exact .of_calm (calm_notices.handTake source target slot seq u) (handTake_keeps u source target slot seq) rfl
  | callCancel wire =>
    refine receive_captures wire s fun source f hand wanted u => ?_
    obtain ⟨target, slot, seq, rfl, rfl⟩ := wantCancel_eq_some wanted
    exact .of_calm (calm_notices.handCancel source target slot seq u) (handCancel_keeps u source target slot seq) rfl
  | surveyIdentity wire | surveyCounters wire | surveyPeerEntry wire | surveyCallSlot wire | surveyDoorLeaf wire
  | surveyHead wire | surveyRoute wire | surveyUnknownSection wire => exact receiveRequest_captures _ wire s
  | surveyAnswer wire =>
    refine receive_captures wire s fun source f hand wanted u => ?_
    rw [wantAnswer_eq_some wanted]
    exact .refl 32 u
  | bulletinRefreshExpiry => exact (takeRefresh_captures s).mono (by decide)
  | staleExpiry entry | lostExpiry entry =>
    change Captures 32 s (ageEntry entry _ _ _ s)
    unfold ageEntry
    split
    · exact .ite ((setEntry_captures entry _ s).mono (by decide)) (.refl 32 s)
    · exact .refl 32 s
  | duplicateTimerExpiry =>
    have queued : Captures 1 s (queueBulletin (s.setPeers { s.peers with duplicate := false, duplicateTimer := none })) :=
      .queued (t := s.setPeers { s.peers with duplicate := false, duplicateTimer := none }) rfl (.refl 0 _)
    exact .ite (queued.mono (by decide)) (.refl 32 s)
  | doorContactChange leaf closed => exact (takeDoorContact_captures leaf closed s).mono (by decide)
  | boltContactChange leaf thrown => exact (takeBoltContact_captures leaf thrown s).mono (by decide)
  | exitRequest leaf => exact (takeExitRequest_captures leaf s).mono (by decide)
  | boltTimeExpiry leaf => exact .ite ((leafEvent_captures leaf _ s).mono (by decide)) (.refl 32 s)
  | propTimerExpiry leaf => exact .ite ((leafEvent_captures leaf _ s).mono (by decide)) (.refl 32 s)
  | passExpiry leaf => exact .ite ((leafEvent_captures leaf _ s).mono (by decide)) (.refl 32 s)
  | callInputChange input active => exact .of_calm (calm_notices.takeInputChange input active s) frame rfl
  | helpPointPress input => exact .of_calm (calm_notices.takeHelpPress input s) frame rfl
  | firePointPress input => exact (takeFirePress_captures input s).mono (by decide)
  | repeatTimerExpiry slot => exact .of_calm (calm_notices.takeRepeat slot s) frame rfl
  | galleryReset on => exact .of_calm (calm_notices.takeGalleryKey on s) frame rfl
  | keyUp key => exact takeKeyUp_captures _ s
  | lampTestEnd => exact .ite (turnTest_captures none s) (.refl 32 s)
  | helpChimeEnd =>
    exact .ite ((setPost_captures (n := 0) { s.post with helpChime := none } s).first (decideSound_captures _)) (.refl 32 s)
  | drivePeriod => exact lamp _ rfl rfl rfl
  | chaseStepExpiry => exact .ite (turned _ rfl rfl rfl) (.refl 32 s)
  | flashPhaseExpiry => exact .ite (turned _ rfl rfl rfl) (.refl 32 s)
  | sounderCadenceExpiry => exact .ite (lamp _ rfl rfl rfl) (.refl 32 s)
  | ageAdvance => exact passSecond_captures s
  | otherTriggerCode code => exact .ite (.refl 32 s) (takeCode_captures (fun u => .refl 32 u) s)
  | _ => exact .of_outside frame rfl

/-- A change that is due a bulletin changes the shown state, or ends the line fault. -/
theorem not_due_of_same (shown : shownOf t = shownOf s) (fault : s.line.fault = true → t.line.fault = true) :
    ¬BulletinDue s t := by
  have zone : t.hazard.zone = s.hazard.zone := congrArg Shown.zone shown
  have dirty : ∀ k, (t.hazard.heads.get k).any (·.dirty) = (s.hazard.heads.get k).any (·.dirty) := fun k => by
    have same := congrArg (fun x => x.dirty.get k) shown
    have flag : ∀ u : State, (dirtyHeads u.hazard).get k = (u.hazard.heads.get k).any (·.dirty) := fun u => by
      unfold dirtyHeads
      rw [Four.get_map]
      cases u.hazard.heads.get k <;> rfl
    rw [← flag t, ← flag s]
    exact same
  have cost : t.route.cost = s.route.cost := congrArg (·.route.1) shown
  rintro (no | no | no | ⟨k, no⟩ | no | no | no | no | no | no | no | no | no | no | no | ⟨set, clear⟩)
  · exact no zone
  · exact no (congrArg Shown.blind shown)
  · exact no (congrArg Shown.frontEnd shown)
  · exact no (dirty k)
  · exact no (congrArg Shown.posture shown)
  · exact no (congrArg Shown.base shown)
  · exact no (congrArg Shown.duplicate shown)
  · exact no (congrArg Shown.profileFault shown)
  · exact no (congrArg (·.chains.1) shown)
  · exact no (congrArg (·.chains.2.1) shown)
  · exact no (congrArg (·.chains.2.2) shown)
  · exact no cost
  · exact no (congrArg (·.route.2.1) shown)
  · exact no (congrArg (·.route.2.2) shown)
  · exact no (by rw [advertisedCost, advertisedCost, zone, cost])
  · cases clear.symm.trans (fault set)

/-- No event captures so many bulletins that the count comes round. -/
theorem due_captures (captures : Captures 255 s t) (due : BulletinDue s t) : t.line.bulletins ≠ s.line.bulletins := by
  obtain ⟨k, few, count, still⟩ := captures
  intro same
  have wraps : BitVec.ofNat 8 k = 0 := by simpa [same] using count.symm
  have none : k = 0 := by
    have value := congrArg BitVec.toNat wraps
    rw [BitVec.toNat_ofNat] at value
    simp at value
    omega
  exact not_due_of_same (still none).1 (still none).2 due

/-- A step between two running states is an event's, or nothing. -/
theorem step_captures (running : s.power = .running) (still : t.power = .running) (answer : step s = .next t) :
    Captures 32 s t := by
  obtain ⟨rest, stepped⟩ := step_cases answer
  have taken : Captures 0 s (s.setPending rest) := .of_outside (setPending_keeps s rest) rfl
  cases stepped with
  | still => exact taken.mono (by decide)
  | powerOn | pin | loss => cases still
  | resetEnd pins held => cases running.symm.trans held
  | event i =>
    have ended : Captures 0 (workOf i (s.setPending rest)) (endingOf i (workOf i (s.setPending rest))) :=
      .of_calm (calm_endingOf i _) (endingOf_keeps i _) rfl
    exact (taken.first (workOf_captures i _)).last ended

/-- Settles O51: the queue's form is kept move by move; every work captures a bulletin with each change that is due one,
and never so many that the count comes round to what it was. -/
theorem queueBoundKept : Obligations.QueueBoundKept := by
  unfold Obligations.QueueBoundKept
  exact ⟨queueBounded_kept, queueOrdered_kept, flightAgrees_kept, consistent_kept,
    fun s t running still answer => due_captures ((step_captures running still answer).mono (by decide))⟩

end Sys2Proof.Machine
end


section
/-! SUPPORT. How a command of a running station answers, and the rows of the lamp and sounder driver's own times and
of the second that passes: each row's work is one update, which the lemmas below name. -/

namespace Sys2Proof.Machine

variable {i : Instr} {s u : State} {work : State → State} {c d : List Block} {p : State → Prop}

/-! ## How a command answers -/

/-- A row whose work leads to a known state answers that state, settled. -/
theorem changes_settled (row : exec i s = whileRunning work s) (running : s.power = .running) (did : work s = u)
    (kept : SameOutside c s u) (sub : ∀ b, b ∈ c ++ [.line, .outputs] → b ∈ d) (holds : p (settle u)) :
    Changes i s d p := by
  subst did
  rw [Changes, Answers, row]
  exact whileRunning_answers running kept sub holds

/-- The same for a row that stays clear of the line port. -/
theorem changes_shown (row : exec i s = whileRunningLocal work s) (running : s.power = .running) (did : work s = u)
    (kept : SameOutside c s u) (sub : ∀ b, b ∈ c ++ [.outputs] → b ∈ d) (holds : p (showOutputs u)) :
    Changes i s d p := by
  subst did
  rw [Changes, Answers, row]
  exact whileRunningLocal_answers running kept sub holds

/-- A row whose work does nothing reaches no block but the line port and the pins. -/
theorem changes_nothing (row : exec i s = whileRunning work s) (running : s.power = .running) (did : work s = s)
    (holds : p (settle s)) : Changes i s [.line, .outputs] p :=
  changes_settled row running did (.refl [] s) (by decide) holds

/-! ## Timers (log entry 4) -/

theorem due_some {n limit : Nat} : due (some n) limit = true ↔ limit ≤ n := by simp [due]

theorem due_of_le {timer : Option Nat} {n limit : Nat} (runs : timer = some n) (old : limit ≤ n) :
    due timer limit = true := by rw [runs, due_some]; exact old

theorem due_of_lt {timer : Option Nat} {n limit : Nat} (runs : timer = some n) (young : n < limit) :
    due timer limit = false := by
  rw [runs, ← Bool.not_eq_true, due_some]
  omega

/-! ## The strip (R144, R149 to R151, R157) -/

theorem signDrive_eq (l : Lamp) :
    signDrive l = if l.test.isSome then ⟨8, 100⟩ else ⟨l.aspect.code, l.brightness⟩ := rfl

theorem stripDrive_of_test {l : Lamp} (odd : Bool) (testing : l.test.isSome = true) :
    stripDrive odd l = some ⟨5, 100⟩ := if_pos testing

theorem stripDrive_of_steady {l : Lamp} (odd : Bool) (untested : l.test = none) (steady : l.pattern = .steady) :
    stripDrive odd l = some ⟨5, l.brightness⟩ := by simp [stripDrive, untested, steady, stripAll]

theorem stripDrive_of_flash {l : Lamp} (odd : Bool) (untested : l.test = none) (flash : l.pattern = .flash) :
    stripDrive odd l = if l.flashOn then some ⟨5, l.brightness⟩ else none := by
  simp [stripDrive, untested, flash, stripAll]

theorem stripDrive_of_chase {l : Lamp} (odd : Bool) (untested : l.test = none) (chase : l.pattern = .chase) :
    stripDrive odd l =
      if (l.position.val % 2 == 1) = odd then some ⟨l.position.val / 2 + 1, l.brightness⟩ else none := by
  simp [stripDrive, untested, chase]

theorem stripShow_of_lit {l : Lamp} (h : l.test.isSome = true ∨ l.pattern = .steady) : stripShow l = ⟨false, false⟩ := by
  by_cases testing : l.test.isSome = true
  · simp [stripShow, stripDrive_of_test _ testing]
  · have untested : l.test = none := by simpa using testing
    simp [stripShow, stripDrive_of_steady _ untested (h.resolve_left testing)]

theorem stripShow_of_flash {l : Lamp} (untested : l.test = none) (flash : l.pattern = .flash) :
    stripShow l = ⟨!l.flashOn, !l.flashOn⟩ := by
  cases on : l.flashOn <;> simp [stripShow, stripDrive_of_flash _ untested flash, on]

theorem stripShow_of_chase {l : Lamp} (untested : l.test = none) (chase : l.pattern = .chase) :
    stripShow l = ⟨decide (l.position.val % 2 = 1), decide (l.position.val % 2 = 0)⟩ := by
  rcases Nat.mod_two_eq_zero_or_one l.position.val with even | odd
  · simp [stripShow, stripDrive_of_chase _ untested chase, even]
  · simp [stripShow, stripDrive_of_chase _ untested chase, odd]

theorem chaseNext_eq (d : Direction) (p : Fin 8) : chaseNext d p = if d = .forward then p + 1 else p - 1 := by
  cases d <;> rfl

/-- A step of the chase passes from an even position to an odd one or back. -/
theorem chaseNext_parity (d : Direction) (p : Fin 8) :
    ((chaseNext d p).val % 2 = 1) ↔ ¬(p.val % 2 = 1) := by
  revert p; cases d <;> decide

/-- What a turn that changes what an untested strip shows, and nothing under a lamp test, leaves of the driver. -/
theorem Lamp.turnedFrom_eq_of_turn {old new : Lamp} (test : new.test = old.test) (turns : new.turns = old.turns)
    (turned : old.test = none → stripShow new ≠ stripShow old) :
    old.turnedFrom new =
      { new with turns := if old.test = none then stripShow old :: old.turns else old.turns } := by
  rw [Lamp.turnedFrom_eq]
  by_cases untested : old.test = none
  · rw [if_neg (turned untested), if_pos untested]
  · have testing : old.test.isSome = true := Option.isSome_iff_ne_none.2 untested
    rw [stripShow_of_lit (.inl testing), stripShow_of_lit (.inl (test ▸ testing)), if_pos rfl, if_neg untested, turns]

theorem takeChaseStep_of_chase (chase : s.lamp.pattern = .chase) :
    (takeChaseStep s).lamp =
      { s.lamp with
        position := if s.lamp.direction = .forward then s.lamp.position + 1 else s.lamp.position - 1
        turns := if s.lamp.test = none then stripShow s.lamp :: s.lamp.turns else s.lamp.turns } := by
  have turned : ∀ _ : s.lamp.test = none,
      stripShow { s.lamp with position := chaseNext s.lamp.direction s.lamp.position } ≠ stripShow s.lamp := by
    intro untested
    rw [stripShow_of_chase untested chase,
      stripShow_of_chase (l := { s.lamp with position := chaseNext s.lamp.direction s.lamp.position }) untested chase]
    have := chaseNext_parity s.lamp.direction s.lamp.position
    simp only [ne_eq, StripShow.mk.injEq, decide_eq_decide]
    tauto
  rw [takeChaseStep, if_pos chase, State.turnLamp_lamp, Lamp.turnedFrom_eq_of_turn (by rfl) (by rfl) turned, chaseNext_eq]

theorem takeFlashPhase_of_flash (flash : s.lamp.pattern = .flash) :
    (takeFlashPhase s).lamp =
      { s.lamp with
        flashOn := !s.lamp.flashOn
        turns := if s.lamp.test = none then stripShow s.lamp :: s.lamp.turns else s.lamp.turns } := by
  have turned : ∀ _ : s.lamp.test = none,
      stripShow { s.lamp with flashOn := !s.lamp.flashOn } ≠ stripShow s.lamp := by
    intro untested
    rw [stripShow_of_flash untested flash,
      stripShow_of_flash (l := { s.lamp with flashOn := !s.lamp.flashOn }) untested flash]
    simp
  rw [takeFlashPhase, if_pos flash, State.turnLamp_lamp, Lamp.turnedFrom_eq_of_turn (by rfl) (by rfl) turned]

theorem takeChaseStep_keeps (s : State) : SameOutside [.lamp] s (takeChaseStep s) :=
  .ite (State.turnLamp_keeps s _) (.refl _ s)

theorem takeFlashPhase_keeps (s : State) : SameOutside [.lamp] s (takeFlashPhase s) :=
  .ite (State.turnLamp_keeps s _) (.refl _ s)

/-! ## The sounder (R156, R157) -/

theorem decideSound_test (s : State) : (decideSound s).lamp.test = s.lamp.test := by
  unfold decideSound
  dsimp only
  split <;> rfl

theorem sounder_of_cadence {l : Lamp} (h : l.sound.hasCadence = true) : soundPin l = l.soundOn := by
  cases hs : l.sound <;> simp_all [soundPin, Sound.hasCadence]

theorem showOutputs_sounder (running : s.power = .running) : (showOutputs s).outputs.sounder = soundPin s.lamp := by
  simp [showOutputs, outputsOf, running]

/-- Settles O46: the drive codes are those of R144, a step and a phase are turns of the strip, a cadence turns the
driven part over, and a lamp test that ends decides the sound anew. -/
theorem lampTimersExpire : Obligations.LampTimersExpire := by
  intro n s running
  refine ⟨?_, fun chase => ?_, fun flash => ?_, fun cadence => ?_, fun testing over3 => ?_⟩
  · refine changes_shown (work := takePeriod) rfl running rfl (setLamp_keeps s _) (by decide)
      ⟨rfl, fun testing => ?_, fun untested steady => ?_, fun untested flash off => ?_, fun untested chase => ?_⟩
    · exact ⟨stripDrive_of_test _ testing, stripDrive_of_test _ testing⟩
    · exact ⟨stripDrive_of_steady _ untested steady, stripDrive_of_steady _ untested steady⟩
    · have dark : ∀ odd, stripDrive odd s.lamp = none := fun odd => by
        rw [stripDrive_of_flash odd untested flash, off]; rfl
      exact ⟨dark _, dark _⟩
    · have a := stripDrive_of_chase false untested chase
      have b := stripDrive_of_chase true untested chase
      split
      · next even => exact ⟨a.trans (by simp [even]), b.trans (by simp [even])⟩
      · next odd => exact ⟨a.trans (by simp at odd; simp [odd]), b.trans (by simp at odd; simp [odd])⟩
  · exact changes_shown (work := takeChaseStep) rfl running rfl (takeChaseStep_keeps s) (by decide)
      (takeChaseStep_of_chase chase)
  · exact changes_shown (work := takeFlashPhase) rfl running rfl (takeFlashPhase_keeps s) (by decide)
      (takeFlashPhase_of_flash flash)
  · have has : s.lamp.sound.hasCadence = true := by obtain h | h | h := cadence <;> rw [h] <;> rfl
    refine changes_shown (work := takeCadence) rfl running (if_pos has) (setLamp_keeps s _) (by decide) ⟨rfl, ?_⟩
    exact (showOutputs_sounder (s := s.setLamp { s.lamp with soundOn := !s.lamp.soundOn }) running).trans
      (sounder_of_cadence (l := { s.lamp with soundOn := !s.lamp.soundOn }) has)
  · refine changes_shown (work := takeLampTestEnd) rfl running (if_pos (due_of_le testing over3))
      ((State.turnLamp_keeps s _).then (decideSound_keeps _)) (by decide) ⟨?_, soundAgrees_decideSound _⟩
    refine (decideSound_test _).trans ?_
    rw [State.turnLamp_lamp, Lamp.turnedFrom_eq]

end Sys2Proof.Machine
end


section
/-! SUPPORT. A second that passes, and the post's own times, its panel, and what it shows. -/

namespace Sys2Proof.Machine

variable {s t : State}

/-! ## A second (R50, R111, R131) -/

theorem Slot.older_of_open {sl : Slot} (isOpen : sl.isOpen = true) :
    sl.older = { sl with age := satInc sl.age, repeatTimer := sl.repeatTimer.map satInc } := if_pos isOpen

theorem Slot.older_of_free {sl : Slot} (free : sl.isOpen = false) : sl.older = sl := if_neg (by simp [free])

theorem Slot.older_age (sl : Slot) :
    sl.older.age = (if sl.isOpen then satInc sl.age else sl.age) ∧ sl.older.state = sl.state := by
  by_cases isOpen : sl.isOpen = true
  · simp [older_of_open isOpen, isOpen]
  · simp only [Bool.not_eq_true] at isOpen
    simp [older_of_free isOpen, isOpen]

/-- Settles O49: a second takes every block once, and each record by its own older form. -/
theorem secondAgesEverything : Obligations.SecondAgesEverything := by
  intro s running
  refine changes_shown (work := passSecond) rfl running rfl (passSecond_keeps s) (by decide) ?_
  simp only [showOutputs, State.setOutputs_peers, State.setOutputs_calls, State.setOutputs_doors,
    State.setOutputs_control, State.setOutputs_post, State.setOutputs_lamp, State.setOutputs_line, passSecond_peers,
    passSecond_calls, passSecond_doors, passSecond_control, passSecond_post, passSecond_lamp, passSecond_line,
    Eight.get_map, Four.get_map]
  exact ⟨rfl, fun i => Slot.older_age _, rfl, trivial, trivial, fun _ => rfl, rfl, trivial, rfl,
    fun i => Slot.older_of_open, fun i => Slot.older_of_free, trivial, trivial, fun _ => rfl, rfl, rfl, rfl⟩

/-! ## The panel (R135) -/

theorem Panel.down_eq (k : Key) (p : Panel) : p.down k = if p = .ready then .held k else .locked := by
  cases p <;> rfl

theorem takeKeyDown_of_up {k : Key} (role : s.post.role = true) (up : k ∉ s.post.down) :
    takeKeyDown k s =
      s.setPost { s.post with down := inMatrixOrder (k :: s.post.down), panel := s.post.panel.down k } := by
  simp [takeKeyDown, up, role]

theorem takeKeyUp_of_locked {k : Key} (role : s.post.role = true) (down : k ∈ s.post.down)
    (locked : s.post.panel = .locked) :
    takeKeyUp k s =
      s.setPost
        { s.post with
          down := s.post.down.filter (· != k)
          panel := if s.post.down.filter (· != k) = [] then .ready else .locked } := by
  unfold takeKeyUp
  simp only [List.contains_eq_mem, down, decide_true, if_true, State.setPost_post, role, locked]
  split
  · rfl
  · rfl

/-- Settles O43: a key that goes down passes the panel on, and the last key up frees a locked one. -/
theorem twoKeysLockThePanel : Obligations.TwoKeysLockThePanel := by
  refine ⟨?_, rfl, rfl, rfl, rfl, rfl, rfl, rfl, rfl, rfl⟩
  rintro x k s rfl running role
  refine ⟨fun up => ?_, fun down locked => ?_⟩
  · refine changes_shown (work := takeKeyDown (keyAt x)) rfl running (takeKeyDown_of_up role up) (setPost_keeps s _)
      (by decide) ⟨Panel.down_eq _ _, fun y => ?_, rfl, rfl⟩
    exact mem_inMatrixOrder.trans List.mem_cons
  · exact changes_settled (work := takeKeyUp (keyAt x)) rfl running (takeKeyUp_of_locked role down locked)
      (setPost_keeps s _) (by decide) (by simp)

/-! ## Display order, selection and Next (R132) -/

theorem displayOrder_count (board : List BoardEntry) (e : BoardEntry) :
    (displayOrder board).count e = board.count e := by
  have other : ∀ k : CallKind, e.kind ≠ k → (board.filter (·.kind == k)).count e = 0 := fun k h =>
    List.count_eq_zero.2 fun mem => h (by simpa using (List.mem_filter.1 mem).2)
  have own : ∀ k : CallKind, e.kind = k → (board.filter (·.kind == k)).count e = board.count e := fun k h =>
    List.count_filter (by simp [h])
  simp only [displayOrder, List.count_append]
  cases kind : e.kind <;> simp [other, own _ kind, kind]

theorem displayOrder_perm (board : List BoardEntry) : (displayOrder board).Perm board :=
  List.perm_iff_count.2 (displayOrder_count board)

theorem displayOrder_ranked (board : List BoardEntry) :
    (displayOrder board).Pairwise (fun a b => b.kind.rank ≤ a.kind.rank) := by
  have same : ∀ k : CallKind, (board.filter (·.kind == k)).Pairwise (fun a b => b.kind.rank ≤ a.kind.rank) := fun k =>
    List.pairwise_of_forall_mem_list fun a ha b hb => by
      rw [show a.kind = k by simpa using (List.mem_filter.1 ha).2, show b.kind = k by simpa using (List.mem_filter.1 hb).2]
  simp only [displayOrder, List.pairwise_append, same, true_and, List.mem_append, List.mem_filter, beq_iff_eq]
  refine ⟨⟨?_, ?_⟩, ?_⟩
  · rintro a ⟨-, ha⟩ b ⟨-, hb⟩
    rw [ha, hb]; decide
  · rintro a (⟨-, ha⟩ | ⟨-, ha⟩) b ⟨-, hb⟩ <;> rw [ha, hb] <;> decide
  · rintro a ((⟨-, ha⟩ | ⟨-, ha⟩) | ⟨-, ha⟩) b ⟨-, hb⟩ <;> rw [ha, hb] <;> decide

theorem displayOrder_kind (board : List BoardEntry) (kind : CallKind) :
    (displayOrder board).filter (·.kind == kind) = board.filter (·.kind == kind) := by
  have own : ∀ k : CallKind, (board.filter (·.kind == k)).filter (·.kind == k) = board.filter (·.kind == k) := fun k =>
    List.filter_eq_self.2 fun e mem => (List.mem_filter.1 mem).2
  have other : ∀ k : CallKind, k ≠ kind → (board.filter (·.kind == k)).filter (·.kind == kind) = [] := fun k h =>
    List.filter_eq_nil_iff.2 fun e mem => by
      have := (List.mem_filter.1 mem).2
      simp only [beq_iff_eq] at this ⊢
      rw [this]; exact h
  simp only [displayOrder, List.filter_append]
  cases kind <;> simp [own, other]

theorem displayOrder_isR132 (board : List BoardEntry) : DisplayIsR132 board :=
  ⟨displayOrder_perm board, displayOrder_ranked board, displayOrder_kind board⟩

/-- On a board with one entry for a station and slot the display order up to an entry holds no other of its call's
slot. -/
theorem dropWhile_to {board a b : List BoardEntry} {e : BoardEntry}
    (single : (board.map (fun e => (e.station, e.slot))).Nodup) (order : displayOrder board = a ++ e :: b) :
    (displayOrder board).dropWhile (fun x => !x.isFor e.station e.slot) = e :: b := by
  have nodup : ((a ++ e :: b).map (fun e => (e.station, e.slot))).Nodup :=
    order ▸ (((displayOrder_perm board).map _).nodup_iff.2 single)
  have before : ∀ x ∈ a, (!x.isFor e.station e.slot) = true := by
    intro x mem
    rw [List.map_append, List.nodup_append'] at nodup
    have apart : (x.station, x.slot) ≠ (e.station, e.slot) := fun h =>
      nodup.2.2 (List.mem_map_of_mem mem) (by rw [h]; exact List.mem_map_of_mem List.mem_cons_self)
    simpa [BoardEntry.isFor, Prod.ext_iff, imp_iff_not_or] using apart
  rw [order, List.dropWhile_append_of_pos before, List.dropWhile_cons_of_neg (by simp [BoardEntry.isFor])]

theorem entryAfter_isR132 (board : List BoardEntry) : NextIsR132 board := by
  refine fun single => ⟨fun a e n b order => ?_, fun a e order => ?_⟩
  · rw [entryAfter, dropWhile_to single order]
  · rw [entryAfter, dropWhile_to single order]

theorem defaultSelection_raised {board a b : List BoardEntry} {e : BoardEntry} (order : displayOrder board = a ++ e :: b)
    (raised : e.state = .raised) (first : ∀ x ∈ a, x.state ≠ .raised) : defaultSelection board = some e := by
  have none_before : a.find? (·.state == .raised) = none := List.find?_eq_none.2 fun x mem => by simp [first x mem]
  rw [defaultSelection, order, List.find?_append, none_before]
  simp [raised]

theorem defaultSelection_first {board b : List BoardEntry} {e : BoardEntry} (order : displayOrder board = e :: b)
    (none_raised : ∀ x ∈ board, x.state ≠ .raised) : defaultSelection board = some e := by
  have not_found : (displayOrder board).find? (·.state == .raised) = none :=
    List.find?_eq_none.2 fun x mem => by simp [none_raised x (displayOrder_mem mem)]
  rw [defaultSelection, not_found, order]
  rfl

theorem selected_of_default {p : Post} (h : p.held = none) : selected p = defaultSelection p.board := by
  rw [selected, h]

theorem selected_isR132 (p : Post) : SelectionIsR132 p := by
  refine ⟨fun empty => ?_, fun st sl e held found => ?_, fun held => ⟨fun a e b order raised first => ?_,
    fun e b order none_raised => ?_⟩⟩
  · cases held : p.held <;> simp [selected, held, empty, defaultSelection, displayOrder]
  · simp [selected, held, found]
  · rw [selected_of_default held, defaultSelection_raised order raised first]
  · rw [selected_of_default held, defaultSelection_first order none_raised]

/-! ## What a post shows (R126, R133, R134, R141) -/

theorem display_of_pins (running : s.power = .running) (pins : PinsAgree s) : s.outputs.display = displayOf s := by
  rw [pins, outputsOf, if_pos running]

theorem indicators_of_pins (running : s.power = .running) (pins : PinsAgree s) :
    s.outputs.indicators = indicatorsOf s := by
  rw [pins, outputsOf, if_pos running]

theorem displayOf_of_blink {b : Blink} (role : s.post.role = true) (untested : s.lamp.test = none)
    (blinks : s.post.blink = some b) : displayOf s = Four.fill ⟨if b.lit then .dash else .dark, false⟩ := by
  cases lit : b.lit <;> simp [displayOf, role, untested, blinks, plainDisplay, lit]

theorem displayOf_of_still (role : s.post.role = true) (untested : s.lamp.test = none) (still : s.post.blink = none) :
    displayOf s = contentDisplay s.post := by
  simp [displayOf, role, untested, still]

theorem indicatorsOf_of_lit (role : s.post.role = true) (untested : s.lamp.test = none) :
    indicatorsOf s =
      ⟨anyRaised s.post.board .fire, anyRaised s.post.board .intrusion, anyRaised s.post.board .fault,
       anyRaised s.post.board .help, s.post.overflow, s.control.posture == .evacuate⟩ := by
  simp [indicatorsOf, role, untested]

theorem raised_indicator {kind : CallKind} :
    anyRaised s.post.board kind = true ↔ ∃ e ∈ s.post.board, e.kind = kind ∧ e.state = .raised := by
  simp [anyRaised]

theorem BoardEntry.silent_eq (station : Station) (slot : Fin 8) (e : BoardEntry) :
    (if e.isFor station slot then e.fallSilent else e) =
      if e.station = station ∧ e.slot = slot ∧ 90 ≤ e.lastHeard then { e with silentMark := true } else e := by
  have h : e.isFor station slot = true ↔ e.station = station ∧ e.slot = slot := by simp [BoardEntry.isFor]
  by_cases here : e.isFor station slot = true
  · obtain ⟨hst, hsl⟩ := h.1 here
    rw [if_pos here, BoardEntry.fallSilent]
    exact if_congr (by simp [hst, hsl, Config.silentTime]) rfl rfl
  · rw [if_neg here, if_neg fun k => here (h.2 ⟨k.1, k.2.1⟩)]

/-- Settles O45: the post's timers are single updates, the selection follows the display order, and the pins show the
post's content. -/
theorem postTimersExpire : Obligations.PostTimersExpire := by
  refine ⟨fun on n station slot s running => ⟨?_, fun held old => ?_, ?_, fun b blinks => ⟨?_, fun old => ?_⟩,
      fun chimes old => ?_⟩, fun board p => ⟨displayOrder_isR132 board, entryAfter_isR132 board, selected_isR132 p⟩,
    fun s running pins => ?_⟩
  · exact changes_shown (work := takeAuth on) rfl running rfl (setPost_keeps s _) (by decide) rfl
  · exact changes_shown (work := takeReturnExpiry) rfl running (if_pos (due_of_le held old)) (setPost_keeps s _)
      (by decide) rfl
  · refine changes_shown (work := takeSilent station slot) rfl running rfl (setPost_keeps s _) (by decide) ?_
    exact congrArg (fun board => { s.post with board := board })
      (List.map_congr_left fun e _ => BoardEntry.silent_eq station slot e)
  · refine changes_shown (work := takeBlinkPhase) rfl running rfl (setPost_keeps s _) (by decide) ?_
    have turned : s.post.blink.map (fun b => { b with lit := !b.lit }) = some { b with lit := !b.lit } := by
      rw [blinks]; rfl
    exact congrArg (fun blink => { s.post with blink := blink }) turned
  · exact changes_shown (work := takeBlinkEnd) rfl running
      (if_pos (due_of_le (n := b.elapsed) (by rw [blinks]; rfl) old)) (setPost_keeps s _) (by decide) rfl
  · exact changes_shown (work := takeHelpChimeEnd) rfl running (if_pos (due_of_le chimes old))
      ((setPost_keeps s _).then (decideSound_keeps _)) (by decide)
      ⟨(decideSound_keeps _).post_eq, soundAgrees_decideSound _⟩
  · rw [display_of_pins running pins, indicators_of_pins running pins]
    refine ⟨fun role => ?_, fun role testing => ?_, fun role untested => ?_⟩
    · simp [displayOf, indicatorsOf, role, plainDisplay]
    · simp [displayOf, indicatorsOf, role, testing]
    rw [indicatorsOf_of_lit role untested]
    refine ⟨fun b blinks => ?_, fun still empty => ?_, fun still e sel => ?_, fun i kind row => ?_, rfl, ?_⟩
    · exact displayOf_of_blink role untested blinks
    · rw [displayOf_of_still role untested still]
      simp only [contentDisplay, (selected_isR132 s.post).1 empty]
      rfl
    · rw [displayOf_of_still role untested still]
      simp only [contentDisplay, sel, List.countP_eq_length_filter]
    · simp only [List.mem_cons, Prod.mk.injEq, List.not_mem_nil, or_false] at row
      obtain ⟨hi, rfl⟩ | ⟨hi, rfl⟩ | ⟨hi, rfl⟩ | ⟨hi, rfl⟩ := row
      · obtain rfl : i = 0 := Fin.ext hi
        exact raised_indicator
      · obtain rfl : i = 1 := Fin.ext hi
        exact raised_indicator
      · obtain rfl : i = 2 := Fin.ext hi
        exact raised_indicator
      · obtain rfl : i = 3 := Fin.ext hi
        exact raised_indicator
    · exact beq_iff_eq

end Sys2Proof.Machine
end


section
/-! SUPPORT. What an event at the door unit leaves of the leaf it moves and of the calls: the rows of the door and
bolt contacts, the exit buttons and the leaves' timers (chapter 5). -/

namespace Sys2Proof.Machine

variable {s t : State} {n : Fin 4} {c : LeafConfig} {exitDoor : Bool} {links : List (Fin 8)}

/-! ## A source that has asked has a call (R106) -/

theorem hasCall_raiseInto (i : Fin 8) (src : Source) (s : State) : hasCall (raiseInto i src s) src = true := by
  refine hasCall_of_slot i ?_ ?_ <;> rw [raiseInto_calls, Eight.get_set_self] <;> rfl

theorem hasCall_setPendingFlag (src : Source) (s : State) : hasCall (setPendingFlag src s) src = true := by
  refine hasCall_iff.2 (.inr ?_)
  rw [setPendingFlag_calls]
  dsimp only
  split
  · assumption
  · simp

theorem hasCall_requestCall (src : Source) (s : State) : hasCall (requestCall src s) src = true := by
  cases new : hasCall s src with
  | true => rw [requestCall_of_hasCall new, new]
  | false =>
    rw [requestCall_of_new new]
    cases free : freeSlot s with
    | some i => rw [raiseCall_of_free free]; exact hasCall_raiseInto i src s
    | none =>
      cases evicted : evictedSlot s (kindOf s src).rank with
      | some i => rw [raiseCall_of_evicted free evicted]; exact hasCall_raiseInto i src _
      | none => rw [raiseCall_of_none free evicted]; exact hasCall_setPendingFlag src s

/-! ## One leaf's event (R93, R99, R101) -/

theorem leafRequests_self (n : Fin 4) (lf : Leaf) (s : State) : leafRequests n lf lf s = s := by
  simp [leafRequests, newlyIntruded, newlyJammed]

theorem leafRequests_fold (n : Fin 4) (lf : Leaf) (leaves : Four Leaf) (s : State) :
    allFour.foldl (fun u m => leafRequests m (leaves.get m) ((leaves.set n lf).get m) u) s
      = leafRequests n (leaves.get n) lf s := by
  have other : ∀ m u, m ≠ n → leafRequests m (leaves.get m) ((leaves.set n lf).get m) u = u := fun m u h => by
    rw [Four.get_set_of_ne _ _ _ _ h, leafRequests_self]
  simp only [allFour, List.foldl_cons, List.foldl_nil]
  match n with
  | 0 => rw [other 3 _ (by decide), other 2 _ (by decide), other 1 _ (by decide), Four.get_set_self]
  | 1 => rw [other 0 _ (by decide), other 3 _ (by decide), other 2 _ (by decide), Four.get_set_self]
  | 2 => rw [other 0 _ (by decide), other 1 _ (by decide), other 3 _ (by decide), Four.get_set_self]
  | 3 => rw [other 0 _ (by decide), other 1 _ (by decide), other 2 _ (by decide), Four.get_set_self]

/-- The record that the leaf of an event comes to. -/
def movedLeaf (s : State) (act : Leaf → Leaf) (lf : Leaf) : Leaf := (act lf).propChecked (demandNow s (act lf))

theorem leafEvent_leaves (n : Fin 4) (act : Leaf → Leaf) (s : State) :
    (leafEvent n act s).doors.leaves = s.doors.leaves.set n (movedLeaf s act (s.doors.leaves.get n)) :=
  congrArg Doors.leaves (setLeaves_outside_leaves _ s).doors_eq

theorem leafEvent_leaf (n : Fin 4) (act : Leaf → Leaf) (s : State) :
    (leafEvent n act s).doors.leaves.get n = movedLeaf s act (s.doors.leaves.get n) := by
  rw [leafEvent_leaves, Four.get_set_self]

theorem leafEvent_others (n m : Fin 4) (act : Leaf → Leaf) (s : State) (other : m ≠ n) :
    (leafEvent n act s).doors.leaves.get m = s.doors.leaves.get m := by
  rw [leafEvent_leaves, Four.get_set_of_ne _ _ _ _ other]

/-- The calls after a leaf's event are those of its own requests. -/
theorem leafEvent_calls (n : Fin 4) (act : Leaf → Leaf) (s : State) :
    ∃ u, (leafEvent n act s).calls =
      (leafRequests n (s.doors.leaves.get n) (movedLeaf s act (s.doors.leaves.get n)) u).calls := by
  unfold leafEvent setLeaves
  dsimp only
  rw [leafRequests_fold]
  refine ⟨s.setDoors
    { s.doors with leaves := s.doors.leaves.set n (movedLeaf s act (s.doors.leaves.get n)) }, ?_⟩
  split
  · exact (computeRoute_keeps _).calls_eq
  · rfl

theorem leafEvent_intruded {act : Leaf → Leaf}
    (intruded : newlyIntruded (s.doors.leaves.get n) (movedLeaf s act (s.doors.leaves.get n)) = true)
    (sound : (movedLeaf s act (s.doors.leaves.get n)).state.isJammed = false) :
    hasCall (leafEvent n act s) (.leaf n) = true := by
  obtain ⟨u, same⟩ := leafEvent_calls n act s
  rw [hasCall_congr same]
  simp [leafRequests, intruded, newlyJammed, sound, hasCall_requestCall]

theorem leafEvent_jammed {act : Leaf → Leaf}
    (jammed : newlyJammed (s.doors.leaves.get n) (movedLeaf s act (s.doors.leaves.get n)) = true) :
    hasCall (leafEvent n act s) (.leafFault n) = true := by
  obtain ⟨u, same⟩ := leafEvent_calls n act s
  rw [hasCall_congr same]
  simp [leafRequests, jammed, hasCall_requestCall]

theorem Leaf.propChecked_eq (demand : Bool) (lf : Leaf) :
    lf.propChecked demand = { lf with prop := if lf.propRuns demand then some (lf.prop.getD 0) else none } := by
  unfold Leaf.propChecked
  split <;> rfl

/-- R93: an Open leaf that is configured runs its prop timer while its lock demand is true and its magnet, where it is
a fire leaf, is off. -/
theorem Leaf.propRuns_iff {demand : Bool} {lf : Leaf} (opened : lf.state = .opened)
    (role : lf.role = .configured c exitDoor links) :
    lf.propRuns demand = true ↔ demand = true ∧ ¬(c.fire = true ∧ lf.magnet = true) := by
  simp only [Leaf.propRuns, opened, role, Bool.and_eq_true, beq_self_eq_true, true_and, Bool.not_eq_true',
    ← Bool.not_eq_true]

section
variable (s : State) (act : Leaf → Leaf) (lf : Leaf)

@[simp] theorem movedLeaf_state : (movedLeaf s act lf).state = (act lf).state := by rw [movedLeaf, Leaf.propChecked_eq]
@[simp] theorem movedLeaf_doorClosed : (movedLeaf s act lf).doorClosed = (act lf).doorClosed := by
  rw [movedLeaf, Leaf.propChecked_eq]
@[simp] theorem movedLeaf_boltThrown : (movedLeaf s act lf).boltThrown = (act lf).boltThrown := by
  rw [movedLeaf, Leaf.propChecked_eq]
@[simp] theorem movedLeaf_pressLatch : (movedLeaf s act lf).pressLatch = (act lf).pressLatch := by
  rw [movedLeaf, Leaf.propChecked_eq]
@[simp] theorem movedLeaf_pass : (movedLeaf s act lf).pass = (act lf).pass := by rw [movedLeaf, Leaf.propChecked_eq]
@[simp] theorem movedLeaf_bolt : (movedLeaf s act lf).bolt = (act lf).bolt := by rw [movedLeaf, Leaf.propChecked_eq]

theorem movedLeaf_prop :
    (movedLeaf s act lf).prop =
      if (act lf).propRuns (demandNow s (act lf)) then some ((act lf).prop.getD 0) else none := by
  rw [movedLeaf, Leaf.propChecked_eq]

end

/-! ## Coming to rest (R85, R86, R88) -/

theorem Leaf.shut_state (demand : Bool) (lf : Leaf) :
    (lf.shut demand).state =
      if demand then if lf.boltThrown then .secured else .securing
      else if lf.boltThrown then .releasing else .closed := by
  unfold Leaf.shut
  split <;> split <;> rfl

theorem Leaf.shut_bolt (demand : Bool) (lf : Leaf) :
    (lf.shut demand).bolt = if demand = lf.boltThrown then none else some 0 := by
  cases demand <;> cases thrown : lf.boltThrown <;> simp [Leaf.shut, thrown]

theorem Leaf.shut_contacts (demand : Bool) (lf : Leaf) :
    (lf.shut demand).doorClosed = lf.doorClosed ∧ (lf.shut demand).boltThrown = lf.boltThrown
      ∧ (lf.shut demand).pressLatch = lf.pressLatch ∧ (lf.shut demand).pass = lf.pass := by
  unfold Leaf.shut
  split <;> split <;> exact ⟨rfl, rfl, rfl, rfl⟩

theorem Leaf.open'_state (lf : Leaf) :
    lf.open'.state =
      if lf.state = .secured then .forced
      else if lf.state = .forced ∨ lf.state = .propped then lf.state else .opened := by
  unfold Leaf.open'
  cases state : lf.state <;> simp [state]

theorem Leaf.open'_doorClosed (lf : Leaf) : lf.open'.doorClosed = lf.doorClosed := by
  unfold Leaf.open'
  split <;> rfl

theorem LeafState.isOpen_iff {st : LeafState} : st ∈ [LeafState.opened, .forced, .propped] ↔ st = .opened ∨ st = .forced ∨ st = .propped := by
  simp

theorem LeafState.atLock_of_isOpen {st : LeafState} (h : st.isOpen) : st.atLock = false := by
  obtain rfl | rfl | rfl := LeafState.isOpen_iff.1 h <;> rfl

theorem LeafState.isJammed_of_isOpen {st : LeafState} (h : st.isOpen) : st.isJammed = false := by
  obtain rfl | rfl | rfl := LeafState.isOpen_iff.1 h <;> rfl

/-- The door unit's rows have this footprint, with the line port and the pins. -/
theorem leafRow {i : Instr} {work : State → State} {u : State} {p : State → Prop}
    (row : exec i s = whileRunning work s) (running : s.power = .running) (did : work s = u)
    (kept : SameOutside leafFootprint s u) (holds : p (settle u)) :
    Changes i s [.doors, .calls, .route, .lamp, .line, .counters, .outputs] p :=
  changes_settled row running did kept (by decide) holds

/-! ## The contacts (R80, R81, R85 to R92, R100, R102) -/

theorem takeDoorContact_same {closed : Bool} (same : (s.doors.leaves.get n).doorClosed = closed) :
    takeDoorContact n closed s = s := if_pos same

theorem takeDoorContact_configured {closed : Bool} (role : (s.doors.leaves.get n).role = .configured c exitDoor links)
    (other : (s.doors.leaves.get n).doorClosed ≠ closed) :
    takeDoorContact n closed s = leafEvent n (fun lf => lf.takeDoor (demandNow s lf) closed) s := by
  simp [takeDoorContact, other, role]

theorem takeBoltContact_configured {thrown : Bool} (role : (s.doors.leaves.get n).role = .configured c exitDoor links)
    (other : (s.doors.leaves.get n).boltThrown ≠ thrown) :
    takeBoltContact n thrown s = leafEvent n (fun lf => lf.takeBolt (demandNow s lf) thrown) s := by
  simp [takeBoltContact, other, role]

theorem takeDoorContact_provisional {closed : Bool} (role : (s.doors.leaves.get n).role = .provisional)
    (other : (s.doors.leaves.get n).doorClosed ≠ closed) :
    takeDoorContact n closed s = takeProvisional n { s.doors.leaves.get n with doorClosed := closed } s := by
  simp [takeDoorContact, other, role]

theorem takeBoltContact_provisional {thrown : Bool} (role : (s.doors.leaves.get n).role = .provisional)
    (other : (s.doors.leaves.get n).boltThrown ≠ thrown) :
    takeBoltContact n thrown s = takeProvisional n { s.doors.leaves.get n with boltThrown := thrown } s := by
  simp [takeBoltContact, other, role]

theorem contacts_dropped (role : (s.doors.leaves.get n).role = .dropped) (level : Bool) :
    takeDoorContact n level s = s ∧ takeBoltContact n level s = s := by
  simp [takeDoorContact, takeBoltContact, role]

theorem Leaf.provisionalState_eq (lf : Leaf) :
    lf.provisionalState = if lf.doorClosed = false then .opened else if lf.boltThrown then .jammed .release else .closed := by
  unfold Leaf.provisionalState
  cases lf.doorClosed <;> rfl

theorem Leaf.takeDoor_open (demand : Bool) (lf : Leaf) :
    lf.takeDoor demand false = Leaf.open' { lf with doorClosed := false } := rfl

theorem Leaf.takeDoor_shut {demand : Bool} {lf : Leaf} (opened : lf.state.isOpen) :
    lf.takeDoor demand true = Leaf.shut demand { lf with doorClosed := true } := by
  obtain state | state | state := LeafState.isOpen_iff.1 opened <;> simp [Leaf.takeDoor, state]

/-- Settles O29: each clause is the leaf's own move, which the event puts in its place. -/
theorem doorContactMovesTheLeaf : Obligations.DoorContactMovesTheLeaf := by
  intro n c exitDoor links s running
  refine ⟨fun role => ⟨fun was => ?_, fun was opened => ?_, fun closed same => ?_⟩,
    fun role => ⟨fun closed other => ?_, fun thrown other => ?_⟩, fun role level => ⟨?_, ?_⟩⟩
  · refine leafRow (work := takeDoorContact n false) rfl running (takeDoorContact_configured role (by simp [was]))
      (leafEvent_keeps s n _) ?_
    rw [settle_doors, hasCall_congr (settle_calls _)]
    have opens : (movedLeaf s (fun lf => lf.takeDoor (demandNow s lf) false) (s.doors.leaves.get n)).state.isOpen := by
      rw [movedLeaf_state]
      exact Leaf.isOpen_open' _
    refine ⟨fun m => leafEvent_others n m _ s, ?_, ?_, fun secured => ⟨?_, ?_⟩, fun idle => ?_⟩
    · rw [leafEvent_leaf, movedLeaf_doorClosed, Leaf.takeDoor_open, Leaf.open'_doorClosed]
    · rw [leafEvent_leaf, LeafState.atLock_of_isOpen opens]
    · rw [leafEvent_leaf, movedLeaf_state, Leaf.takeDoor_open, Leaf.open'_state, if_pos secured]
    · refine leafEvent_intruded ?_ (LeafState.isJammed_of_isOpen opens)
      simp [newlyIntruded, Leaf.takeDoor_open, Leaf.open'_state, secured]
    · simp only [List.mem_cons, List.not_mem_nil, or_false, not_or] at idle
      rw [leafEvent_leaf, movedLeaf_state, Leaf.takeDoor_open, Leaf.open'_state]
      simp [idle]
  · refine leafRow (work := takeDoorContact n true) rfl running (takeDoorContact_configured role (by simp [was]))
      (leafEvent_keeps s n _) ?_
    rw [settle_doors, leafEvent_leaf, movedLeaf_doorClosed, movedLeaf_state, Leaf.takeDoor_shut opened, Leaf.shut_state]
    exact ⟨fun m => leafEvent_others n m _ s, (Leaf.shut_contacts _ _).1, rfl⟩
  · exact changes_nothing (work := takeDoorContact n closed) rfl running (takeDoorContact_same same) trivial
  · refine changes_settled (work := takeDoorContact n closed) rfl running (takeDoorContact_provisional role other)
      (setDoors_keeps s _) (by decide) ?_
    rw [settle_doors, takeProvisional, Leaf.provisionalState_eq]
    rfl
  · refine changes_settled (work := takeBoltContact n thrown) rfl running (takeBoltContact_provisional role other)
      (setDoors_keeps s _) (by decide) ?_
    rw [settle_doors, takeProvisional, Leaf.provisionalState_eq]
    rfl
  · exact changes_nothing (work := takeDoorContact n level) rfl running (contacts_dropped role level).1 trivial
  · exact changes_nothing (work := takeBoltContact n level) rfl running (contacts_dropped role level).2 trivial

/-! ## The lock demand and the class (R83, R99) -/

theorem demandNow_isR83 (s : State) (n : Fin 4) : DemandIsR83 s n := by
  refine ⟨fun c exitDoor links role => ?_, lockDemand_of_unconfigured⟩
  have held : s.control.posture ≠ .startup ∧ s.control.posture ≠ .day ↔
      s.control.posture = .night ∨ s.control.posture = .evacuate := by
    cases s.control.posture <;> simp
  simp only [demandNow, lockDemand, role, Bool.and_eq_true, beq_iff_eq, bne_iff_ne, Option.isNone_iff_eq_none,
    Bool.not_eq_true', ← Bool.not_eq_true]
  rw [← held]
  tauto

theorem doorClass_isR99 (lf : Leaf) : ClassIsR99 lf := by
  refine ⟨fun h => ?_, fun h => ?_, fun h => ?_, fun c exitDoor links role => ?_, fun role => ?_⟩
  · simp only [List.mem_cons, List.not_mem_nil, or_false] at h
    obtain h | h | h | h | h := h <;> rw [h] <;> rfl
  · simp only [List.mem_cons, List.not_mem_nil, or_false] at h
    obtain h | h := h <;> rw [h] <;> rfl
  · simp only [List.mem_cons, List.not_mem_nil, or_false] at h
    obtain h | h := h <;> rw [h] <;> rfl
  · rw [shownClass, role]
  · obtain role | role := role <;> rw [shownClass, role]

/-! ## The bolt contact (R85 to R89) -/

theorem Leaf.takeBolt_boltThrown (demand thrown : Bool) (lf : Leaf) : (lf.takeBolt demand thrown).boltThrown = thrown := by
  have shut : (Leaf.shut demand { lf with boltThrown := thrown }).boltThrown = thrown := (Leaf.shut_contacts _ _).2.1
  unfold Leaf.takeBolt
  dsimp only
  repeat' split
  all_goals first | rfl | exact shut

theorem Leaf.takeBolt_open {demand thrown : Bool} {lf : Leaf} (opened : lf.state.isOpen) :
    (lf.takeBolt demand thrown).state = lf.state := by
  obtain state | state | state := LeafState.isOpen_iff.1 opened <;> simp [Leaf.takeBolt, state]

theorem Leaf.takeBolt_closed {demand thrown : Bool} {lf : Leaf} (closed : lf.state = .closed) :
    lf.takeBolt demand thrown = Leaf.shut demand { lf with boltThrown := thrown } := by
  simp [Leaf.takeBolt, closed]

theorem Leaf.takeBolt_locks {demand : Bool} {lf : Leaf} (locking : lf.state = .securing ∨ lf.state = .jammed .lock) :
    (lf.takeBolt demand true).state = .secured := by
  obtain state | state := locking <;> simp [Leaf.takeBolt, state]

theorem Leaf.takeBolt_withdrawn {demand : Bool} {lf : Leaf}
    (thrown : lf.state = .secured ∨ lf.state = .releasing ∨ lf.state = .jammed .release) :
    lf.takeBolt demand false = Leaf.shut demand { lf with boltThrown := false } := by
  obtain state | state | state := thrown <;> simp [Leaf.takeBolt, state]

/-- Settles O30: a contact that reaches the commanded position ends the travel, and any other change of it sends the
leaf to where its lock demand and bolt have it rest or travel. -/
theorem boltContactMovesTheLeaf : Obligations.BoltContactMovesTheLeaf := by
  refine ⟨fun n s => ⟨demandNow_isR83 s n, doorClass_isR99 _⟩, fun n c exitDoor links s running role => ⟨fun was => ?_,
    fun was => ?_⟩⟩
  · refine leafRow (work := takeBoltContact n true) rfl running (takeBoltContact_configured role (by simp [was]))
      (leafEvent_keeps s n _) ?_
    rw [settle_doors, leafEvent_leaf, movedLeaf_boltThrown, movedLeaf_state, movedLeaf_bolt]
    refine ⟨Leaf.takeBolt_boltThrown _ _ _, fun locking => Leaf.takeBolt_locks (by simpa using locking),
      fun closed free => ?_, Leaf.takeBolt_open⟩
    rw [Leaf.takeBolt_closed closed, Leaf.shut_state, Leaf.shut_bolt]
    simp [free]
  · refine leafRow (work := takeBoltContact n false) rfl running (takeBoltContact_configured role (by simp [was]))
      (leafEvent_keeps s n _) ?_
    rw [settle_doors, leafEvent_leaf, movedLeaf_boltThrown, movedLeaf_state, movedLeaf_bolt]
    refine ⟨Leaf.takeBolt_boltThrown _ _ _, fun releasing => ?_, fun secured demand => ?_, Leaf.takeBolt_open⟩
    · rw [Leaf.takeBolt_withdrawn (.inr (by simpa using releasing)), Leaf.shut_state]
      simp
    · rw [Leaf.takeBolt_withdrawn (.inl secured), Leaf.shut_state, Leaf.shut_bolt]
      simp [demand]

/-! ## Exit buttons (R80, R81, R94, R95, R102, R109) -/

theorem takeExitEdge_wired (wired : (s.doors.leaves.get n).role ≠ .dropped) :
    takeExitEdge n s =
      s.setDoors { s.doors with leaves := s.doors.leaves.set n { s.doors.leaves.get n with pressLatch := true } } :=
  if_neg wired

theorem takeExitRequest_provisional (role : (s.doors.leaves.get n).role = .provisional) :
    takeExitRequest n s =
      s.setDoors { s.doors with leaves := s.doors.leaves.set n { s.doors.leaves.get n with pressLatch := false } } := by
  unfold takeExitRequest
  dsimp only
  split
  · next clear =>
    have same : s.doors.leaves.set n { s.doors.leaves.get n with pressLatch := false } = s.doors.leaves := by
      refine Four.ext_get fun m => ?_
      by_cases here : m = n
      · subst here
        rw [Four.get_set_self, ← clear]
      · rw [Four.get_set_of_ne _ _ _ _ here]
    rw [same]
    rfl
  · rw [role]

theorem takeExitRequest_configured (role : (s.doors.leaves.get n).role = .configured c exitDoor links)
    (pressed : (s.doors.leaves.get n).pressLatch = true) :
    takeExitRequest n s = takeExitRequestCall n (leafEvent n (Leaf.takePress (demandNow s)) s) := by
  simp [takeExitRequest, pressed, role]

theorem Leaf.takeDemand_contacts (demand : Bool) (lf : Leaf) :
    (lf.takeDemand demand).pressLatch = lf.pressLatch ∧ (lf.takeDemand demand).pass = lf.pass := by
  have shut := fun d => (Leaf.shut_contacts d lf).2.2
  cases demand with
  | true => rw [Leaf.takeDemand_true]; split; exacts [⟨rfl, rfl⟩, shut true]
  | false => rw [Leaf.takeDemand_false]; split; exacts [shut false, ⟨rfl, rfl⟩]

theorem LeafState.atLock_iff {st : LeafState} :
    st.atLock = true ↔ st ∈ [LeafState.secured, .securing, .jammed .lock] := by
  cases st with
  | jammed toward => cases toward <;> decide
  | _ => decide

theorem Leaf.takePress_latch (s : State) (lf : Leaf) : (lf.takePress (demandNow s)).pressLatch = false := by
  obtain ⟨-, -, did⟩ | ⟨-, did⟩ | ⟨-, -, did⟩ := Leaf.takePress_cases s lf <;> rw [did]
  split
  · rfl
  · exact (Leaf.takeDemand_contacts _ _).1

theorem Leaf.takePress_pass {s : State} {lf : Leaf} (granted : lf.pass.isSome = true ∨ lf.state.atLock = true) :
    (lf.takePress (demandNow s)).pass = some 0 := by
  obtain ⟨pass, lock, did⟩ | ⟨-, did⟩ | ⟨-, -, did⟩ := Leaf.takePress_cases s lf <;> rw [did]
  · simp [pass, lock] at granted
  · split
    · rfl
    · exact (Leaf.takeDemand_contacts _ _).2

theorem Leaf.takePress_released {s : State} {lf : Leaf} (pass : lf.pass = none) (lock : lf.state.atLock = true)
    (demand : demandNow s lf = true) :
    (lf.takePress (demandNow s)).state = if lf.boltThrown then .releasing else .closed := by
  obtain ⟨-, free, -⟩ | ⟨passing, -⟩ | ⟨-, -, did⟩ := Leaf.takePress_cases s lf
  · simp [lock] at free
  · simp [pass] at passing
  · rw [did, if_neg (by simp [demand]), Leaf.takeDemand_false, if_pos (by exact lock), Leaf.shut_state]
    rfl

theorem Leaf.takePress_idle {s : State} {lf : Leaf} (pass : lf.pass = none) (free : ¬lf.state.atLock = true) :
    lf.takePress (demandNow s) = { lf with pressLatch := false } := by
  obtain ⟨-, -, did⟩ | ⟨passing, -⟩ | ⟨-, lock, -⟩ := Leaf.takePress_cases s lf
  · exact did
  · simp [pass] at passing
  · exact absurd lock free

theorem takeExitRequestCall_doors (n : Fin 4) (s : State) : (takeExitRequestCall n s).doors = s.doors := by
  unfold takeExitRequestCall
  split
  · exact (requestCall_keeps s _).doors_eq
  · rfl

theorem takeExitRequestCall_hasCall (night : s.control.posture = .night) :
    hasCall (takeExitRequestCall n s) (.leaf n) = true := by
  rw [takeExitRequestCall, if_pos night, hasCall_requestCall]

/-- Settles O31: the latch is one update of the record, and a press that is taken is the leaf's own move, handed on to
the call unit in Night. -/
theorem pressGrantsAPass : Obligations.PressGrantsAPass := by
  intro n c exitDoor links s running
  refine ⟨fun role => ⟨?_, fun pressed => ?_⟩, fun role => ⟨?_, ?_⟩, fun role => ?_⟩
  · exact changes_shown (work := takeExitEdge n) rfl running (takeExitEdge_wired (by simp [role])) (setDoors_keeps s _)
      (by decide) rfl
  · have kept := takeExitRequest_keeps s n
    rw [takeExitRequest_configured role pressed] at kept
    refine leafRow (work := takeExitRequest n) rfl running (takeExitRequest_configured role pressed) kept ?_
    rw [settle_doors, hasCall_congr (settle_calls _), takeExitRequestCall_doors, leafEvent_leaf, movedLeaf_pressLatch,
      movedLeaf_pass, movedLeaf_state]
    simp only [← LeafState.atLock_iff]
    refine ⟨Leaf.takePress_latch s _, fun night => takeExitRequestCall_hasCall ?_, fun passing =>
      Leaf.takePress_pass (.inl passing), fun _ lock => Leaf.takePress_pass (.inr lock), fun pass demand lock =>
      Leaf.takePress_released pass lock demand, fun pass free => ?_⟩
    · rw [(leafEvent_keeps s n _).control_eq]
      exact night
    · rw [Leaf.takePress_idle pass free]
      exact ⟨pass, rfl⟩
  · exact changes_shown (work := takeExitEdge n) rfl running (takeExitEdge_wired (by simp [role])) (setDoors_keeps s _)
      (by decide) rfl
  · refine changes_settled (work := takeExitRequest n) rfl running (takeExitRequest_provisional role)
      (setDoors_keeps s _) (by decide) ?_
    rw [settle_doors]
    rfl
  · exact changes_shown (work := takeExitEdge n) (c := []) rfl running (if_pos role) (.refl _ s) (by decide) trivial

/-! ## The leaves' timers (R86, R88, R91, R93, R95) -/

theorem Leaf.boltLimit_configured {lf : Leaf} (role : lf.role = .configured c exitDoor links) : lf.boltLimit = c.boltTime := by
  rw [Leaf.boltLimit, role]

theorem Leaf.takeBoltTime_of_travel {lf : Leaf} (travel : lf.state = .securing ∨ lf.state = .releasing) :
    lf.takeBoltTime = { lf with state := if lf.state = .securing then .jammed .lock else .jammed .release, bolt := none } := by
  obtain state | state := travel <;> simp [Leaf.takeBoltTime, state]

theorem Leaf.takePassEnd_pass (s : State) (lf : Leaf) : (lf.takePassEnd (demandNow s)).pass = none := by
  obtain ⟨-, did⟩ | ⟨-, did⟩ := Leaf.takePassEnd_cases s lf <;> rw [did]
  exact (Leaf.takeDemand_contacts _ _).2

/-- The end of a running pass gives the lock demand back, and only a leaf that is shut takes it (R84, R95). -/
theorem Leaf.takePassEnd_of_passing {s : State} {lf : Leaf} (passing : lf.pass.isSome = true) :
    lf.takePassEnd (demandNow s) =
      if demandNow s { lf with pass := none } then Leaf.takeDemand true { lf with pass := none }
      else { lf with pass := none } := by
  have held : demandNow s lf = false := lockDemand_of_passing passing
  obtain ⟨same, did⟩ | ⟨other, did⟩ := Leaf.takePassEnd_cases s lf
  · rw [did, same, held]
    rfl
  · have demand : demandNow s { lf with pass := none } = true := by simpa [held] using other
    rw [did, demand]
    rfl

theorem Leaf.takePassEnd_of_open {s : State} {lf : Leaf} (passing : lf.pass.isSome = true) (opened : lf.state.isOpen) :
    lf.takePassEnd (demandNow s) = { lf with pass := none } := by
  have stays : Leaf.takeDemand true { lf with pass := none } = { lf with pass := none } := by
    rw [Leaf.takeDemand_true]
    exact if_pos (.inl opened)
  rw [Leaf.takePassEnd_of_passing passing, stays, ite_self]

theorem Leaf.takePassEnd_of_shut {s : State} {lf : Leaf} (passing : lf.pass.isSome = true)
    (shut : lf.state ∈ [LeafState.closed, .releasing, .jammed .release]) :
    (lf.takePassEnd (demandNow s)).state =
      if demandNow s { lf with pass := none } then if lf.boltThrown then .secured else .securing else lf.state := by
  have neither : ¬(lf.state.isOpen ∨ lf.state.atLock = true) := by
    simp only [List.mem_cons, List.not_mem_nil, or_false] at shut
    obtain state | state | state := shut <;> rw [state] <;> decide
  have shuts : Leaf.takeDemand true { lf with pass := none } = Leaf.shut true { lf with pass := none } := by
    rw [Leaf.takeDemand_true]
    exact if_neg neither
  rw [Leaf.takePassEnd_of_passing passing, shuts]
  split
  · exact Leaf.shut_state _ _
  · rfl

/-- Settles O32: a due timer is the leaf's own move. -/
theorem leafTimersExpire : Obligations.LeafTimersExpire := by
  intro n c exitDoor links m s running role
  have limit := Leaf.boltLimit_configured role
  refine ⟨fun bolt late travel => ?_, fun bolt early => ?_, fun opened prop late => ?_, fun pass late => ?_⟩
  · refine leafRow (work := takeBoltExpiry n) rfl running (if_pos (due_of_le bolt (limit ▸ late)))
      (leafEvent_keeps s n _) ?_
    rw [settle_doors, hasCall_congr (settle_calls _), leafEvent_leaf, movedLeaf_state, movedLeaf_bolt,
      Leaf.takeBoltTime_of_travel travel]
    refine ⟨rfl, rfl, leafEvent_jammed ?_⟩
    rw [newlyJammed, movedLeaf_state, Leaf.takeBoltTime_of_travel travel]
    obtain state | state := travel <;> simp [state, LeafState.isJammed]
  · exact changes_nothing (work := takeBoltExpiry n) rfl running
      (if_neg (by rw [due_of_lt bolt (limit ▸ early)]; decide)) trivial
  · have timed : ((s.doors.leaves.get n).state == .opened && due (s.doors.leaves.get n).prop (propTime s)) = true := by
      rw [opened, due_of_le prop late]
      rfl
    refine leafRow (work := takePropExpiry n) rfl running (if_pos timed) (leafEvent_keeps s n _) ?_
    rw [settle_doors, hasCall_congr (settle_calls _), leafEvent_leaf, movedLeaf_state, movedLeaf_prop]
    exact ⟨rfl, rfl, leafEvent_intruded (by simp [newlyIntruded, opened]) (by rw [movedLeaf_state]; rfl)⟩
  · have passing : (s.doors.leaves.get n).pass.isSome = true := by simp [pass]
    refine leafRow (work := takePassExpiry n) rfl running (if_pos (due_of_le pass late)) (leafEvent_keeps s n _) ?_
    rw [settle_doors, leafEvent_leaf, movedLeaf_pass, movedLeaf_state, movedLeaf_prop]
    refine ⟨Leaf.takePassEnd_pass s _, Leaf.takePassEnd_of_shut passing, fun opened => ?_, fun opened stopped => ?_⟩
    · rw [Leaf.takePassEnd_of_open passing opened]
    · rw [Leaf.takePassEnd_of_open passing (by simp [opened])]
      rw [show (s.doors.leaves.get n).prop.getD 0 = 0 by rw [stopped]; rfl]
      exact if_congr (Leaf.propRuns_iff (lf := { s.doors.leaves.get n with pass := none }) opened role) rfl rfl

end Sys2Proof.Machine
end


section
/-! SUPPORT. What the call unit's operations ask of the transmit queue and leave of the calls: the rows of the call
inputs, the Help points, the repeat timers and the gallery reset key (chapter 6). -/

namespace Sys2Proof.Machine

variable {c : List Block} {s t u : State}

/-! ## Frames -/

/-- A block that turns out the same leaves the footprint. -/
theorem SameOutside.narrow {b : Block} (h : SameOutside c s t) (same : SameBlock s t b) :
    SameOutside (c.filter (· != b)) s t := by
  intro x
  obtain mem | stays := h x
  · by_cases here : x = b
    · exact .inr (here ▸ same)
    · exact .inl (List.mem_filter.2 ⟨mem, by simpa using here⟩)
  · exact .inr stays

/-! ## The transmit queue (R163, R164, R167) -/

/-- What an entry is, apart from its flight. -/
def QueueEntry.standing (e : QueueEntry) : Frame × Nat := (e.frame, e.place)

theorem startHead_standing (s : State) :
    (startHead s).line.queue.map QueueEntry.standing = s.line.queue.map QueueEntry.standing := by
  cases queue : s.line.queue with
  | nil => simp [startHead, queue]
  | cons e rest => rw [startHead_line queue]; rfl

theorem startHeadUnlessTaken_standing (s : State) :
    (startHeadUnlessTaken s).line.queue.map QueueEntry.standing = s.line.queue.map QueueEntry.standing := by
  unfold startHeadUnlessTaken
  split
  · rfl
  · exact startHead_standing _
  · exact startHead_standing s

/-- Whatever a command's end starts, the entries stay, in their places. -/
theorem settle_standing (s : State) :
    (settle s).line.queue.map QueueEntry.standing = s.line.queue.map QueueEntry.standing := by
  rw [settle_line]
  unfold startSending
  split
  · rfl
  · split
    · rfl
    · split
      · exact startHeadUnlessTaken_standing s
      · rfl

theorem mem_settle {e : QueueEntry} (mem : e ∈ (settle s).line.queue) :
    ∃ old ∈ s.line.queue, old.frame = e.frame ∧ old.place = e.place := by
  have : e.standing ∈ s.line.queue.map QueueEntry.standing := settle_standing s ▸ List.mem_map_of_mem mem
  obtain ⟨old, stood, same⟩ := List.mem_map.1 this
  exact ⟨old, stood, Prod.mk.inj same⟩

theorem Waits.settle {p : Frame → Prop} (h : Waits s p) : Waits (settle s) p := by
  obtain ⟨e, mem, holds⟩ := h
  have : e.standing ∈ (Machine.settle s).line.queue.map QueueEntry.standing :=
    (settle_standing s).symm ▸ List.mem_map_of_mem mem
  obtain ⟨e', mem', same⟩ := List.mem_map.1 this
  exact ⟨e', mem', (Prod.mk.inj same).1 ▸ holds⟩

/-- Where the queue has room or holds the entry's like, nothing is refused for it. -/
theorem queueReplacing_counters {like : Frame → Bool} {f : Frame}
    (h : HasRoom s ∨ Waits s (fun g => like g = true)) : (queueReplacing like f s).counters = s.counters := by
  unfold queueReplacing
  split
  · rfl
  · next absent =>
    have room : HasRoom s := h.resolve_right fun ⟨e, mem, alike⟩ =>
      absurd alike (by simpa using List.find?_eq_none.1 absent e mem)
    rw [if_pos (show s.line.queue.length < Config.queueLimit from room)]
    rfl

theorem queueNotice_keeps_of_room {count : Byte} {n : Notice}
    (h : HasRoom s ∨ Waits s (fun f => f.isNoticeOf n.slot = true)) : SameOutside [.line] s (queueNotice count n s) :=
  ((queueNotice_keeps s count n).narrow (b := .counters) (queueReplacing_counters h)).widen (by decide)

theorem queueNotice_waits {count : Byte} {n : Notice}
    (h : HasRoom s ∨ Waits s (fun f => f.isNoticeOf n.slot = true)) :
    Waits (queueNotice count n s) (fun f => f = .notice count n) := queueReplacing_waits h

/-- A full queue gives up for a new bulletin or notice its latest refusable entry that is not in flight (R164). -/
theorem queueReplacing_evicts {like : Frame → Bool} {f : Frame} (full : ¬HasRoom s)
    (absent : ¬Waits s (fun g => like g = true)) (some_go : ∃ e ∈ s.line.queue, e.evicts = true) :
    ∃ victim ∈ s.line.queue, victim.evicts = true
      ∧ (∀ e ∈ s.line.queue, e.evicts = true → e.place ≤ victim.place)
      ∧ queueReplacing like f s = placeNew f (countRefused
          (s.setLine { s.line with queue := s.line.queue.filter (fun e => e.place != victim.place) })) := by
  obtain ⟨e, mem, goes⟩ := some_go
  obtain ⟨victim, picked⟩ := foldl_pickBest_isSome QueueEntry.evicts (·.place) mem goes
  obtain ⟨stood, fits⟩ := foldl_pickBest_mem _ _ picked
  refine ⟨victim, stood, fits, fun x mem goes => le_of_foldl_pickBest _ _ picked mem goes, ?_⟩
  have none_like : s.line.queue.find? (fun e => like e.frame) = none :=
    List.find?_eq_none.2 fun e mem alike => absent ⟨e, mem, alike⟩
  unfold queueReplacing
  rw [none_like, evictable_eq, picked]
  exact if_neg full

/-! ## What stands aside of a request (R107, R122) -/

/-- The inputs and the gallery reset key stand, and so do the profile and the posture that the calls read. -/
structure SameAside (s t : State) : Prop where
  inputs : t.calls.inputs = s.calls.inputs
  key : t.calls.grsOn = s.calls.grsOn
  loader : t.loader = s.loader
  control : t.control = s.control

namespace SameAside

theorem refl (s : State) : SameAside s s := ⟨rfl, rfl, rfl, rfl⟩

theorem trans (h : SameAside s t) (k : SameAside t u) : SameAside s u :=
  ⟨k.inputs.trans h.inputs, k.key.trans h.key, k.loader.trans h.loader, k.control.trans h.control⟩

theorem ite {p : Prop} [Decidable p] (h : SameAside s t) (k : SameAside s u) : SameAside s (if p then t else u) := by
  split <;> assumption

theorem foldl {α : Type} {f : State → α → State} (step : ∀ u x, SameAside u (f u x)) (l : List α) (s : State) :
    SameAside s (l.foldl f s) :=
  List.foldlRecOn l f (refl s) fun _ aside x _ => aside.trans (step _ x)

theorem setCalls (s : State) (c : Calls) (inputs : c.inputs = s.calls.inputs := by rfl)
    (key : c.grsOn = s.calls.grsOn := by rfl) : SameAside s (s.setCalls c) := ⟨inputs, key, rfl, rfl⟩

theorem queueNotice (count : Byte) (n : Notice) (s : State) : SameAside s (Machine.queueNotice count n s) :=
  have same := SameCalls.of_keeps (queueNotice_keeps s count n) (by decide)
  ⟨by rw [same.calls], by rw [same.calls], same.loader, same.control⟩

theorem announce (i : Fin 8) (s : State) : SameAside s (Machine.announce i s) :=
  (setCalls s _).trans (queueNotice _ _ _)

theorem raiseInto (i : Fin 8) (src : Source) (s : State) : SameAside s (Machine.raiseInto i src s) :=
  (setCalls s _).trans (announce _ _)

theorem setPendingFlag (src : Source) (s : State) : SameAside s (Machine.setPendingFlag src s) :=
  ite (refl s) (setCalls s _)

theorem pendIfAsserted (src : Option Source) (s : State) : SameAside s (Machine.pendIfAsserted src s) := by
  unfold Machine.pendIfAsserted
  split
  · exact ite (setPendingFlag _ s) (refl s)
  · exact refl s

theorem raiseCall (src : Source) (s : State) : SameAside s (Machine.raiseCall src s) := by
  unfold Machine.raiseCall
  split
  · exact raiseInto _ src s
  · split
    · exact ((queueNotice _ _ s).trans (pendIfAsserted _ _)).trans (raiseInto _ src _)
    · exact setPendingFlag src s

theorem requestCall (src : Source) (s : State) : SameAside s (Machine.requestCall src s) :=
  ite (refl s) (raiseCall src s)

theorem requestMotion (s : State) : SameAside s (Machine.requestMotion s) :=
  foldl (fun u i => ite (requestCall (.input i) u) (refl u)) allSix s

theorem servePending (n : Nat) (s : State) : SameAside s (Machine.servePending n s) := by
  induction n generalizing s with
  | zero => exact refl s
  | succ n ih =>
    unfold Machine.servePending
    split
    · exact ((setCalls s _).trans (raiseInto _ _ _)).trans (ih _)
    · exact refl s

theorem closeSlot (i : Fin 8) (s : State) : SameAside s (Machine.closeSlot i s) :=
  (queueNotice _ _ s).trans (setCalls _ _)

theorem asserted (h : SameAside s t) (k : Fin 6) : Machine.asserted t k = Machine.asserted s k :=
  asserted_congr h.inputs h.loader h.control k

theorem kindOf (h : SameAside s t) (src : Source) : Machine.kindOf t src = Machine.kindOf s src := by
  unfold Machine.kindOf inputKind
  rw [h.loader]

end SameAside

/-! ## Raising (R112, R116) -/

/-- The notice of a call that has just been raised (R116). -/
def raisedNotice (s : State) (i : Fin 8) (src : Source) : Notice :=
  { slot := i, seq := (s.calls.slots.get i).seq + 1, kind := some (kindOf s src), state := .raised, taker := 0
    source := some src, age := 0 }

theorem raiseInto_eq (i : Fin 8) (src : Source) (s : State) :
    raiseInto i src s = queueNotice 1 (raisedNotice s i src) (s.setSlot i (raisedSlot s i src)) := by
  unfold raiseInto announce
  simp only [State.setSlot, State.setCalls_calls, Eight.get_set_self, Eight.set_set]
  rfl

theorem raiseInto_waits {i : Fin 8} (src : Source) (room : HasRoom s ∨ Waits s (fun f => f.isNoticeOf i = true)) :
    Waits (raiseInto i src s) (fun f => f = .notice 1 (raisedNotice s i src)) := by
  rw [raiseInto_eq]
  exact queueNotice_waits (s := s.setSlot i (raisedSlot s i src)) (n := raisedNotice s i src) room

theorem setInput_hasCall (k : Fin 6) (x : Input) (src : Source) : hasCall (s.setInput k x) src = hasCall s src := by
  simp only [hasCall, State.setInput, State.setCalls_calls]

theorem setInput_freeSlot (k : Fin 6) (x : Input) : freeSlot (s.setInput k x) = freeSlot s := freeSlot_congr rfl

theorem kindOf_helpPoint {k : Fin 6} (help : inputKind s k = .helpPoint) : kindOf s (.input k) = .help := by
  simp [kindOf, help]

theorem kindOf_motion {k : Fin 6} (motion : inputKind s k = .motion) : kindOf s (.input k) = .intrusion := by
  simp [kindOf, motion]

/-! ## Call inputs (R107, R108, R110) -/

theorem takeInputChange_off {i : Fin 6} (was : (s.calls.inputs.get i).active = true) :
    takeInputChange i false s = s.setInput i { s.calls.inputs.get i with active := false } := by
  have quiet : asserted (s.setInput i { s.calls.inputs.get i with active := false }) i = false := by
    simp [asserted, State.setInput]
  unfold takeInputChange
  simp only [was, Bool.true_eq_false, if_false, Bool.false_eq_true, quiet]
  repeat' split
  all_goals rfl

theorem setInput_setInput (i : Fin 6) (x y : Input) : (s.setInput i x).setInput i y = s.setInput i y := by
  have same : (s.calls.inputs.set i x).set i y = s.calls.inputs.set i y := by
    refine Six.ext_get fun j => ?_
    by_cases here : j = i
    · subst here
      simp
    · simp [Six.get_set_of_ne, here]
  simp [State.setInput, same, State.setCalls]

theorem takeInputChange_press {i : Fin 6} (was : (s.calls.inputs.get i).active = false)
    (latches : loadComplete s = false ∨ inputKind s i = .helpPoint ∨ inputKind s i = .firePoint) :
    takeInputChange i true s = s.setInput i ⟨true, true⟩ := by
  have loaded : loadComplete (s.setInput i { s.calls.inputs.get i with active := true }) = loadComplete s := rfl
  have kind : inputKind (s.setInput i { s.calls.inputs.get i with active := true }) i = inputKind s i := rfl
  unfold takeInputChange
  simp only [was, Bool.false_eq_true, if_false, loaded, kind, setInput_setInput, if_true]
  obtain early | help | fire := latches
  · simp [early]
  · simp [help]
  · simp [fire]

theorem takeInputChange_motion {i : Fin 6} (was : (s.calls.inputs.get i).active = false) (loaded : loadComplete s = true)
    (motion : inputKind s i = .motion) :
    takeInputChange i true s =
      if s.control.posture = .night then requestCall (.input i) (s.setInput i { s.calls.inputs.get i with active := true })
      else s.setInput i { s.calls.inputs.get i with active := true } := by
  have complete : loadComplete (s.setInput i { s.calls.inputs.get i with active := true }) = true := loaded
  have kind : inputKind (s.setInput i { s.calls.inputs.get i with active := true }) i = .motion := motion
  have night : asserted (s.setInput i { s.calls.inputs.get i with active := true }) i = (s.control.posture == .night) := by
    rw [asserted, kind]
    simp [State.setInput]
  unfold takeInputChange
  simp only [was, Bool.false_eq_true, if_false, complete, Bool.not_true, kind, night, beq_iff_eq]

/-- Settles O33: the level is one update of the input, and a Motion input that becomes active in Night asks. -/
theorem inputLevelIsTaken : Obligations.InputLevelIsTaken := by
  intro i s running
  refine ⟨fun was => ?_, fun was latches => ?_, fun was loaded motion => ?_⟩
  · exact changes_settled (work := takeInputChange i false) rfl running (takeInputChange_off was) (setCalls_keeps s _)
      (by decide) (by rw [settle_calls]; rfl)
  · exact changes_settled (work := takeInputChange i true) rfl running (takeInputChange_press was latches)
      (setCalls_keeps s _) (by decide) (by rw [settle_calls]; rfl)
  · refine changes_settled (work := takeInputChange i true) rfl running rfl (takeInputChange_keeps s i true)
      (by decide) ?_
    rw [settle_calls, hasCall_congr (settle_calls _), takeInputChange_motion was loaded motion]
    split
    · next night => exact ⟨(SameAside.requestCall _ _).inputs, fun _ => hasCall_requestCall _ _, fun day => absurd night day⟩
    · next day => exact ⟨rfl, fun night => absurd night day, fun _ => ⟨rfl, rfl⟩⟩

/-! ## Help points (R106, R108, R112 to R114) -/

theorem takeHelpPress_help {k : Fin 6} (pressed : (s.calls.inputs.get k).pressed = true)
    (help : inputKind s k = .helpPoint) :
    takeHelpPress k s = requestCall (.input k) (s.setInput k { s.calls.inputs.get k with pressed := false }) := by
  simp [takeHelpPress, pressed, help]

theorem raiseCall_keeps_of_room {src : Source} {i : Fin 8} (free : freeSlot s = some i)
    (room : HasRoom s ∨ Waits s (fun f => f.isNoticeOf i = true)) : SameOutside [.calls, .line] s (raiseCall src s) := by
  rw [raiseCall_of_free free, raiseInto_eq]
  exact (setCalls_keeps s _).then (queueNotice_keeps_of_room (s := s.setSlot i (raisedSlot s i src)) room)

theorem outranked_of_lowest {sl : Slot} (kind : sl.kind ≠ none) : outranked CallKind.help.rank sl = false := by
  have floor : 1 ≤ kindCode sl.kind := by
    cases given : sl.kind with
    | none => exact absurd given kind
    | some k => cases k <;> decide
  unfold outranked
  split
  · exact decide_eq_false (by rw [show CallKind.help.rank = 1 from rfl]; omega)
  · rfl

theorem evictedSlot_none {rank : Nat} (kept : ∀ j, outranked rank (s.calls.slots.get j) = false) :
    evictedSlot s rank = none := by
  rw [evictedSlot_eq]
  exact foldl_pickBest_none (fun i => outranked rank (s.calls.slots.get i)) _ fun j _ => kept j

theorem setPendingFlag_of_new {src : Source} (fresh : src ∉ s.calls.pending) :
    setPendingFlag src s = s.setCalls { s.calls with pending := s.calls.pending ++ [src] } :=
  if_neg (by simpa using fresh)

/-- Settles O34: a press that is taken is a request of a Help call. -/
theorem helpPressRaisesOneCall : Obligations.HelpPressRaisesOneCall := by
  intro k i s running pressed help
  have did := takeHelpPress_help pressed help
  have kind : kindOf (s.setInput k { s.calls.inputs.get k with pressed := false }) (.input k) = .help :=
    kindOf_helpPoint (s := s.setInput k _) help
  have frame : SameOutside [.calls] s (s.setInput k { s.calls.inputs.get k with pressed := false }) := setCalls_keeps s _
  have calls : (s.setInput k { s.calls.inputs.get k with pressed := false }).calls =
    { s.calls with inputs := s.calls.inputs.set k { s.calls.inputs.get k with pressed := false } } := rfl
  have line : (s.setInput k { s.calls.inputs.get k with pressed := false }).line = s.line := rfl
  have counters : (s.setInput k { s.calls.inputs.get k with pressed := false }).counters = s.counters := rfl
  have held := setInput_hasCall (s := s) k { s.calls.inputs.get k with pressed := false } (.input k)
  have free := setInput_freeSlot (s := s) k { s.calls.inputs.get k with pressed := false }
  generalize s.setInput k { s.calls.inputs.get k with pressed := false } = u at did kind frame calls line counters held free
  have notice : raisedNotice u i (.input k) =
      { slot := i, seq := (s.calls.slots.get i).seq + 1, kind := some .help, state := .raised, taker := 0
        source := some (.input k), age := 0 } := by rw [raisedNotice, kind, calls]
  refine ⟨fun new slot room => ?_, fun new slot full absent some_go => ?_, fun new none_free kinds => ?_, fun has => ?_⟩
  · rw [requestCall_of_new (held.trans new)] at did
    have room' : HasRoom u ∨ Waits u (fun f => f.isNoticeOf i = true) := .inl (by rw [HasRoom, line]; exact room)
    refine changes_settled (work := takeHelpPress k) rfl running did
      (frame.then (raiseCall_keeps_of_room (free.trans slot) room')) (by decide) ⟨?_, ?_⟩
    · rw [settle_calls, raiseCall_of_free (free.trans slot), raiseInto_calls, raisedSlot, kind, calls]
    · rw [raiseCall_of_free (free.trans slot), ← notice]
      exact (raiseInto_waits (.input k) room').settle
  · rw [requestCall_of_new (held.trans new), raiseCall_of_free (free.trans slot), raiseInto_eq] at did
    have line' : (u.setSlot i (raisedSlot u i (.input k))).line = s.line := line
    have calls' : (u.setSlot i (raisedSlot u i (.input k))).calls =
        { u.calls with slots := u.calls.slots.set i (raisedSlot u i (.input k)) } := rfl
    have frame' : SameOutside [.calls] s (u.setSlot i (raisedSlot u i (.input k))) :=
      (frame.then (setCalls_keeps u _)).widen (by decide)
    have counters' : (u.setSlot i (raisedSlot u i (.input k))).counters = s.counters := counters
    generalize u.setSlot i (raisedSlot u i (.input k)) = v at did line' calls' frame' counters'
    have goes : ∃ e ∈ v.line.queue, e.evicts = true := by
      obtain ⟨e, mem, refusable, landed⟩ := some_go
      exact ⟨e, line' ▸ mem, by simp [QueueEntry.evicts, refusable, landed]⟩
    obtain ⟨victim, stood, fits, latest, placed⟩ := queueReplacing_evicts (like := Frame.isNoticeOf i)
      (f := .notice 1 (raisedNotice u i (.input k))) (by rw [HasRoom, line']; exact full)
      (by rw [Waits, line']; exact absent) goes
    rw [show queueNotice 1 (raisedNotice u i (.input k)) v = _ from placed] at did
    have entries : ∀ e, e ∈ (takeHelpPress k s).line.queue →
        e = ⟨.notice 1 (raisedNotice u i (.input k)), s.line.placed, false⟩
          ∨ e ∈ s.line.queue ∧ e.place ≠ victim.place := fun e mem => by
      rw [did] at mem
      simpa [placeNew, countRefused, mem_insertEntry, line'] using mem
    rw [line'] at stood latest
    obtain ⟨refusable, landed⟩ : victim.frame.refusable = true ∧ victim.inFlight = false := by
      simpa [QueueEntry.evicts] using fits
    have refused : SameOutside [.calls, .line, .counters] s (takeHelpPress k s) := takeHelpPress_keeps s k
    rw [did] at refused entries
    refine changes_settled (work := takeHelpPress k) rfl running did refused (by decide) ⟨?_, ?_, fun e mem => ?_, ?_, ?_⟩
    · rw [settle_calls]
      refine (show _ = v.calls from rfl).trans ?_
      rw [calls', raisedSlot, kind, calls]
    · rw [settle_counters, ← counters']
      rfl
    · obtain ⟨old, mem, frame, -⟩ := mem_settle mem
      obtain rfl | ⟨stays, -⟩ := entries old mem
      · exact .inl (frame ▸ by simp [Frame.isNoticeOf, raisedNotice])
      · exact .inr ⟨old, stays, frame⟩
    · refine ⟨victim, stood, refusable, landed, fun e mem refusable landed => latest e mem ?_, fun e mem => ?_⟩
      · simp [QueueEntry.evicts, refusable, landed]
      · obtain ⟨old, mem, -, place⟩ := mem_settle mem
        obtain rfl | ⟨-, other⟩ := entries old mem
        · exact .inr place.symm
        · exact .inl (place ▸ other)
    · rw [notice]
      exact Waits.settle ⟨_, by simp only [placeNew, State.setLine_line, mem_insertEntry]; exact .inl rfl, rfl⟩
  · rw [requestCall_of_new (held.trans new), raiseCall_of_none (free.trans none_free)
      (evictedSlot_none fun j => by rw [kind]; exact outranked_of_lowest (by rw [calls]; exact kinds j)),
      setPendingFlag_of_new (by rw [calls]; exact (hasCall_eq_false_iff.1 new).2)] at did
    refine changes_settled (work := takeHelpPress k) rfl running did (frame.then (setCalls_keeps u _)) (by decide) ?_
    rw [settle_calls, State.setCalls_calls, calls]
  · rw [requestCall_of_hasCall (held.trans has)] at did
    exact changes_settled (work := takeHelpPress k) rfl running did frame (by decide) ((settle_calls u).trans calls)

end Sys2Proof.Machine
end


section
/-! SUPPORT. Announcing, closing, evicting and serving calls: the rows of the repeat timers and the gallery reset key,
and what becomes of a call that finds no Free slot (sections 6.3, 6.4, 6.6). -/

namespace Sys2Proof.Machine

variable {c : List Block} {s t u : State}

/-! ## Announcing (R116, R117) -/

theorem announce_eq (i : Fin 8) (s : State) :
    announce i s =
      queueNotice ((s.calls.slots.get i).notices + 1) (openNotice i (s.calls.slots.get i))
        (s.setSlot i (s.calls.slots.get i).announced) := rfl

theorem announce_waits {i : Fin 8} (room : HasRoom s ∨ Waits s (fun f => f.isNoticeOf i = true)) :
    Waits (announce i s) (fun f => f = .notice ((s.calls.slots.get i).notices + 1) (openNotice i (s.calls.slots.get i))) := by
  rw [announce_eq]
  exact queueNotice_waits (s := s.setSlot i _) (n := openNotice i _) room

theorem announce_keeps_of_room {i : Fin 8} (room : HasRoom s ∨ Waits s (fun f => f.isNoticeOf i = true)) :
    SameOutside [.calls, .line] s (announce i s) := by
  rw [announce_eq]
  exact (setCalls_keeps s _).then (queueNotice_keeps_of_room (s := s.setSlot i _) (n := openNotice i _) room)

theorem repeatInterval_of_open {sl : Slot} (isOpen : sl.isOpen = true) :
    repeatInterval sl.state = if sl.state = .raised then 5 else 30 := by
  cases state : sl.state with
  | free => exact absurd state (Slot.isOpen_iff.1 isOpen)
  | raised => rfl
  | taken => rfl

/-- Settles O37: a due timer announces its call. -/
theorem repeatAnnouncesTheCall : Obligations.RepeatAnnouncesTheCall := by
  intro i n s running room isOpen timer
  refine ⟨fun late => ?_, fun early => ?_⟩
  · have timed : ((s.calls.slots.get i).isOpen
        && due (s.calls.slots.get i).repeatTimer (repeatInterval (s.calls.slots.get i).state)) = true := by
      rw [isOpen, due_of_le timer (repeatInterval_of_open isOpen ▸ late)]
      rfl
    refine changes_settled (work := takeRepeat i) rfl running (if_pos timed) (announce_keeps_of_room room) (by decide)
      ⟨?_, (announce_waits room).settle⟩
    rw [settle_calls, announce_calls]
    rfl
  · refine changes_nothing (work := takeRepeat i) rfl running (if_neg ?_) trivial
    rw [due_of_lt timer (repeatInterval_of_open isOpen ▸ early)]
    simp

/-! ## Closing (R115, R122) -/

theorem closeSlots_fold (which : Slot → Bool) (l : List (Fin 8)) (s : State) :
    SameCalls
      (s.setCalls
        { s.calls with
          slots := Eight.tabulate fun i =>
            if i ∈ l ∧ (s.calls.slots.get i).isOpen = true ∧ which (s.calls.slots.get i) = true then
              (s.calls.slots.get i).closed
            else s.calls.slots.get i })
      (l.foldl (fun s i => if (s.calls.slots.get i).isOpen && which (s.calls.slots.get i) then closeSlot i s else s) s) := by
  induction l generalizing s with
  | nil =>
    have same : (Eight.tabulate fun i => s.calls.slots.get i) = s.calls.slots := Eight.ext_get fun i => by simp
    simp only [List.not_mem_nil, false_and, if_false, same, List.foldl_nil]
    exact .refl s
  | cons k l ih =>
    rw [List.foldl_cons]
    split
    · next closes =>
      obtain ⟨isOpen, fits⟩ : (s.calls.slots.get k).isOpen = true ∧ which (s.calls.slots.get k) = true := by
        simpa using closes
      refine .trans ?_ (ih _)
      have frame := closeSlot_keeps s k
      refine ⟨?_, by rw [State.setCalls_loader, State.setCalls_loader, frame.loader_eq],
        by rw [State.setCalls_control, State.setCalls_control, frame.control_eq]⟩
      simp only [State.setCalls_calls, closeSlot_calls]
      refine congrArg (fun slots => ({ s.calls with slots := slots } : Calls)) (Eight.ext_get fun i => ?_)
      simp only [Eight.get_tabulate, Eight.get_set, List.mem_cons]
      by_cases here : i = k
      · subst here
        have shut : ¬(s.calls.slots.get i).closed.isOpen = true := by simp [Slot.closed, Slot.isOpen]
        simp [isOpen, fits, shut]
      · simp [here]
    · next stays =>
      refine .trans ?_ (ih _)
      refine ⟨congrArg (fun slots => ({ s.calls with slots := slots } : Calls)) (Eight.ext_get fun i => ?_), rfl, rfl⟩
      simp only [Eight.get_tabulate, List.mem_cons]
      by_cases here : i = k
      · subst here
        have out : ¬((s.calls.slots.get i).isOpen = true ∧ which (s.calls.slots.get i) = true) := by simpa using stays
        rw [if_neg fun h => out h.2, if_neg fun h => out h.2]
      · simp [here]

/-- The slots after every open call that `which` names is closed. -/
theorem closeSlots_calls (which : Slot → Bool) (s : State) :
    SameCalls
      (s.setCalls
        { s.calls with slots := s.calls.slots.map fun sl => if sl.isOpen && which sl then sl.closed else sl })
      (closeSlots which s) := by
  have same : (s.calls.slots.map fun sl => if sl.isOpen && which sl then sl.closed else sl)
      = Eight.tabulate fun i =>
          if i ∈ allEight ∧ (s.calls.slots.get i).isOpen = true ∧ which (s.calls.slots.get i) = true then
            (s.calls.slots.get i).closed
          else s.calls.slots.get i := Eight.ext_get fun i => by simp [mem_allEight]
  rw [same]
  exact closeSlots_fold which allEight s

theorem kindOf_congr (loader : t.loader = s.loader) (src : Source) : kindOf t src = kindOf s src := by
  unfold kindOf inputKind
  rw [loader]

/-- The calls that a group of closings leaves before the sources that wait are served (R115, R122, R123). -/
def groupClosed (which : Slot → Bool) (drops : CallKind → Bool) (s : State) : State :=
  s.setCalls
    { s.calls with
      slots := s.calls.slots.map fun sl => if sl.isOpen && which sl then sl.closed else sl
      pending := s.calls.pending.filter fun src => !drops (kindOf s src) }

theorem dropPending_calls (which : Slot → Bool) (drops : CallKind → Bool) (s : State) :
    SameCalls (groupClosed which drops s) (dropPending drops (closeSlots which s)) := by
  have closed := closeSlots_calls which s
  have kinds : kindOf (closeSlots which s) = kindOf s := funext (kindOf_congr closed.loader)
  refine ⟨?_, closed.loader, closed.control⟩
  rw [dropPending, State.setCalls_calls, kinds, closed.calls]
  rfl

/-! ## Serving the sources that wait (R110, R114) -/

theorem topPending_eq_none (empty : s.calls.pending = []) : topPending s = none := by rw [topPending, empty]; rfl

theorem freeSlot_none_of (full : ∀ i : Fin 8, (s.calls.slots.get i).state ≠ .free) : freeSlot s = none :=
  freeSlot_eq_none_iff.2 fun i => Slot.isOpen_iff.2 (full i)

theorem servePending_nothing {n : Nat} (h : s.calls.pending = [] ∨ ∀ i : Fin 8, (s.calls.slots.get i).state ≠ .free) :
    servePending n s = s := by
  cases n with
  | zero => rfl
  | succ n =>
    unfold servePending
    obtain empty | full := h
    · rw [topPending_eq_none empty]
      split
      · next none_top => cases none_top
      · rfl
    · rw [freeSlot_none_of full]

theorem freeSlot_of_free {i : Fin 8} (free : (s.calls.slots.get i).state = .free) : ∃ j, freeSlot s = some j := by
  cases found : freeSlot s with
  | some j => exact ⟨j, rfl⟩
  | none =>
    have := freeSlot_eq_none_iff.1 found i
    simp [Slot.isOpen, free] at this

theorem servePending_next {n : Nat} {i : Fin 8} {src : Source} {before after : List Source}
    (free : (s.calls.slots.get i).state = .free) (waits : s.calls.pending = before ++ src :: after)
    (fresh : src ∉ before) (once : src ∉ after) (above : ∀ x ∈ before, (kindOf s x).rank < (kindOf s src).rank)
    (below : ∀ x ∈ after, (kindOf s x).rank ≤ (kindOf s src).rank) :
    servePending (n + 1) s =
      servePending n (raiseCall src (s.setCalls { s.calls with pending := before ++ after })) := by
  obtain ⟨j, found⟩ := freeSlot_of_free free
  have top : topPending s = some src := by
    rw [topPending_eq, waits]
    exact foldl_pickBest_eq _ _ rfl (fun x mem _ => above x mem) (fun x mem _ => below x mem)
  have rest : s.calls.pending.filter (· != src) = before ++ after := by
    have others : ∀ l : List Source, src ∉ l → l.filter (· != src) = l := fun l out =>
      List.filter_eq_self.2 fun x mem => by simpa using fun same : x = src => out (same ▸ mem)
    rw [waits, List.filter_append, List.filter_cons_of_neg (by simp), others _ fresh, others _ once]
  have same : freeSlot (s.setCalls { s.calls with pending := before ++ after }) = some j :=
    (freeSlot_congr rfl).trans found
  rw [raiseCall_of_free same]
  conv_lhs => unfold servePending
  rw [found, top]
  simp only [rest]

theorem requestMotion_nothing (h : ∀ k : Fin 6, asserted s k = true → hasCall s (.input k) = true) :
    requestMotion s = s := by
  have still : ∀ l : List (Fin 6), l.foldl (fun u i => if asserted u i then requestCall (.input i) u else u) s = s := by
    intro l
    induction l with
    | nil => rfl
    | cons k l ih =>
      have stays : (if asserted s k then requestCall (.input k) s else s) = s := by
        split
        · next calls => exact requestCall_of_hasCall (h k calls)
        · rfl
      rw [List.foldl_cons, stays, ih]
  exact still allSix

/-- With nothing that waits and no asserted Motion source, a closing is all (R115). -/
theorem afterClosing_nothing (empty : s.calls.pending = []) (quiet : ∀ k : Fin 6, asserted s k = false) :
    afterClosing s = s := by
  rw [afterClosing, servePending_nothing (.inl empty), requestMotion_nothing fun k calls => by simp [quiet k] at calls]

/-! ## The gallery reset key (R122) -/

theorem takeGalleryKey_on (was : s.calls.grsOn = false) :
    takeGalleryKey true s = clearGallery (s.setCalls { s.calls with grsOn := true }) := by
  simp [takeGalleryKey, was]

theorem takeGalleryKey_off (was : s.calls.grsOn = true) :
    takeGalleryKey false s = s.setCalls { s.calls with grsOn := false } := by
  simp [takeGalleryKey, was]

/-- The calls once the key has closed all but the Fire calls. -/
def galleryClosed (s : State) : State :=
  s.setCalls
    { s.calls with
      grsOn := true, pending := s.calls.pending.filter (fun src => kindOf s src == .fire)
      slots := s.calls.slots.map (fun sl =>
        if sl.isOpen && sl.kind != some .fire then { sl with state := .free, age := 0, repeatTimer := none } else sl) }

theorem clearGallery_calls (s : State) :
    (clearGallery (s.setCalls { s.calls with grsOn := true })).calls = (afterClosing (galleryClosed s)).calls := by
  have closed := dropPending_calls (fun sl => sl.kind != some .fire) (· != .fire) (s.setCalls { s.calls with grsOn := true })
  have same : groupClosed (fun sl => sl.kind != some .fire) (· != .fire) (s.setCalls { s.calls with grsOn := true })
      = galleryClosed s := by
    have kinds : ∀ src, kindOf (s.setCalls { s.calls with grsOn := true }) src = kindOf s src := kindOf_congr rfl
    simp only [groupClosed, galleryClosed, kinds, State.setCalls_calls, bne, Bool.not_not]
    rfl
  rw [same] at closed
  exact closed.afterClosing.calls

/-- Settles O38: the key's turn closes a group of calls, and where nothing waits or is asserted that is all. -/
theorem galleryKeyClosesAllButFire : Obligations.GalleryKeyClosesAllButFire := by
  intro s running
  have frame := takeGalleryKey_keeps s true
  refine ⟨fun was empty quiet => ?_, fun was => ?_, fun was => ?_⟩
  · refine changes_settled (work := takeGalleryKey true) rfl running rfl frame (by decide) ?_
    have none_pending : (galleryClosed s).calls.pending = [] := by simp [galleryClosed, empty]
    have none_asserted : ∀ k, asserted (galleryClosed s) k = false := fun k =>
      (asserted_congr (s := s) (by rfl) (by rfl) (by rfl) k).trans (quiet k)
    rw [settle_calls, takeGalleryKey_on was, clearGallery_calls, afterClosing_nothing none_pending none_asserted]
    refine ⟨rfl, none_pending, rfl, fun i => ?_⟩
    rw [galleryClosed, State.setCalls_calls, Eight.get_map]
    exact if_congr (by simp) rfl rfl
  · refine changes_settled (work := takeGalleryKey true) rfl running rfl frame (by decide) ?_
    rw [settle_calls, takeGalleryKey_on was, clearGallery_calls]
    rfl
  · exact changes_settled (work := takeGalleryKey false) rfl running (takeGalleryKey_off was) (setCalls_keeps s _)
      (by decide) (by rw [settle_calls]; rfl)

/-! ## Full slots (R106, R112 to R114) -/

/-- The oldest Taken call of lower rank, and of equal ages the lowest slot's, is the one that is evicted (R113). -/
theorem evictedSlot_of_oldest {rank : Nat} {i : Fin 8} (fits : outranked rank (s.calls.slots.get i) = true)
    (oldest : ∀ j, outranked rank (s.calls.slots.get j) = true →
      (s.calls.slots.get j).age < (s.calls.slots.get i).age
        ∨ ((s.calls.slots.get j).age = (s.calls.slots.get i).age ∧ i ≤ j)) :
    evictedSlot s rank = some i := by
  obtain ⟨before, after, split, lower, higher⟩ := allEight_split i
  rw [evictedSlot_eq, split]
  refine foldl_pickBest_eq (fun i => outranked rank (s.calls.slots.get i)) _ fits (fun j mem goes => ?_)
    (fun j mem goes => ?_)
  · have := lower j mem
    obtain younger | ⟨-, later⟩ := oldest j goes
    · exact younger
    · omega
  · obtain younger | ⟨same, -⟩ := oldest j goes
    · exact younger.le
    · exact same.le

theorem pendIfAsserted_other {src : Option Source} (other : ∀ k, src ≠ some (.input k)) (s : State) :
    pendIfAsserted src s = s := by
  unfold pendIfAsserted
  split
  · next k => exact absurd rfl (other k)
  · rfl

theorem pendIfAsserted_input {k : Fin 6} (fresh : .input k ∉ s.calls.pending) :
    (pendIfAsserted (some (.input k)) s).calls.pending =
      if asserted s k then s.calls.pending ++ [.input k] else s.calls.pending := by
  unfold pendIfAsserted
  dsimp only
  split
  · rw [setPendingFlag_of_new fresh]
    rfl
  · rfl

theorem raiseCall_evicting {src : Source} {i : Fin 8} (full : freeSlot s = none)
    (evicted : evictedSlot s (kindOf s src).rank = some i) :
    (raiseCall src s).calls =
      { s.calls with
        slots := s.calls.slots.set i (raisedSlot s i src)
        pending := (pendIfAsserted (s.calls.slots.get i).source (queueCleared i s)).calls.pending } := by
  have aside := (SameAside.queueNotice _ _ s).trans (SameAside.pendIfAsserted (s.calls.slots.get i).source (queueCleared i s))
  have slots : (pendIfAsserted (s.calls.slots.get i).source (queueCleared i s)).calls.slots = s.calls.slots := by
    rw [pendIfAsserted_slots, queueCleared_calls]
  rw [raiseCall_of_evicted full evicted, raiseInto_calls, raisedSlot, raisedSlot, slots, aside.kindOf src]
  have inputs := aside.inputs
  have key := aside.key
  generalize (pendIfAsserted (s.calls.slots.get i).source (queueCleared i s)).calls = d at slots inputs key
  simp only [← inputs, ← key]

/-- A source that a station has not taken, or that is an asserted Motion source, keeps its call while others ask
(R113). -/
theorem hasCall_raiseCall_stays {src x : Source} (has : hasCall s x = true)
    (stays : hasTaken s x = false ∨ ∃ k, x = .input k ∧ asserted s k = true) : hasCall (raiseCall src s) x = true := by
  cases free : freeSlot s with
  | some i =>
    rw [raiseCall_of_free free, hasCall_iff, raiseInto_calls]
    obtain ⟨j, isOpen, source⟩ | waits := hasCall_iff.1 has
    · have other : j ≠ i := fun same => by
        rw [same, Slot.isOpen_iff] at isOpen
        exact isOpen (freeSlot_eq_some_iff.1 free).1
      exact .inl ⟨j, by rw [Eight.get_set_of_ne _ _ _ _ other]; exact ⟨isOpen, source⟩⟩
    · exact .inr waits
  | none =>
    cases evicted : evictedSlot s (kindOf s src).rank with
    | none =>
      rw [raiseCall_of_none free evicted, hasCall_iff, setPendingFlag_calls]
      refine (hasCall_iff.1 has).imp id fun waits => ?_
      dsimp only
      split
      · exact waits
      · exact List.mem_append_left _ waits
    | some i =>
      have pending : ∀ y ∈ s.calls.pending,
          y ∈ (pendIfAsserted (s.calls.slots.get i).source (queueCleared i s)).calls.pending := fun y waits => by
        obtain same | ⟨old, -, -, same⟩ := pendIfAsserted_cases (s.calls.slots.get i).source (queueCleared i s) <;>
          rw [same, queueCleared_calls]
        · exact waits
        · exact List.mem_append_left _ waits
      rw [hasCall_iff, raiseCall_evicting free evicted]
      obtain ⟨j, isOpen, source⟩ | waits := hasCall_iff.1 has
      · by_cases here : j = i
        · subst here
          refine .inr ?_
          obtain untaken | ⟨k, rfl, calls⟩ := stays
          · have fits := evictedSlot_spec evicted
            have : hasTaken s x = true := by
              unfold outranked at fits
              split at fits
              · next taker state =>
                simp only [hasTaken, Eight.toList_eq, List.any_map, List.any_eq_true]
                exact ⟨j, List.mem_finRange j, by simp [state, source]⟩
              · cases fits
            rw [untaken] at this
            cases this
          · by_cases waits : .input k ∈ s.calls.pending
            · exact pending _ waits
            · have aside := SameAside.queueNotice ((s.calls.slots.get j).notices + 1)
                (clearedNotice j (s.calls.slots.get j)) s
              rw [source, pendIfAsserted_input (by rw [queueCleared_calls]; exact waits),
                if_pos (show asserted (queueCleared j s) k = true from (aside.asserted k).trans calls)]
              simp
        · exact .inl ⟨j, by rw [Eight.get_set_of_ne _ _ _ _ here]; exact ⟨isOpen, source⟩⟩
      · exact .inr (pending x waits)

theorem hasCall_requestCall_stays {src x : Source} (has : hasCall s x = true)
    (stays : hasTaken s x = false ∨ ∃ k, x = .input k ∧ asserted s k = true) : hasCall (requestCall src s) x = true := by
  cases new : hasCall s src with
  | true => rwa [requestCall_of_hasCall new]
  | false => rw [requestCall_of_new new]; exact hasCall_raiseCall_stays has stays

/-- The requests of the Motion sources leave each asserted one's call. -/
theorem motionFold_stays {k : Fin 6} (calls : asserted s k = true) (has : hasCall s (.input k) = true) (l : List (Fin 6)) :
    hasCall (l.foldl (fun u i => if asserted u i then requestCall (.input i) u else u) s) (.input k) = true := by
  induction l generalizing s with
  | nil => exact has
  | cons j l ih =>
    rw [List.foldl_cons]
    split
    · exact ih (((SameAside.requestCall (.input j) s).asserted k).trans calls)
        (hasCall_requestCall_stays has (.inr ⟨k, rfl, calls⟩))
    · exact ih calls has

theorem motionFold_asserted {k : Fin 6} (l : List (Fin 6)) :
    asserted (l.foldl (fun u i => if asserted u i then requestCall (.input i) u else u) s) k = asserted s k :=
  (SameAside.foldl (fun u i => .ite (.requestCall (.input i) u) (.refl u)) l s).asserted k

theorem hasCall_requestMotion {k : Fin 6} (calls : asserted s k = true) :
    hasCall (requestMotion s) (.input k) = true := by
  obtain ⟨before, after, split⟩ := List.append_of_mem (mem_allSix k)
  rw [requestMotion, split, List.foldl_append, List.foldl_cons]
  have here := (motionFold_asserted (s := s) (k := k) before).trans calls
  rw [if_pos here]
  exact motionFold_stays (((SameAside.requestCall (.input k) _).asserted k).trans here) (hasCall_requestCall _ _) after

theorem motionFold_nothing {l : List (Fin 6)} (h : ∀ k ∈ l, asserted s k = true → hasCall s (.input k) = true) :
    l.foldl (fun u i => if asserted u i then requestCall (.input i) u else u) s = s := by
  induction l with
  | nil => rfl
  | cons k l ih =>
    have stays : (if asserted s k then requestCall (.input k) s else s) = s := by
      split
      · next calls => exact requestCall_of_hasCall (h k List.mem_cons_self calls)
      · rfl
    rw [List.foldl_cons, stays]
    exact ih fun j mem => h j (List.mem_cons_of_mem _ mem)

theorem allSix_split (k : Fin 6) : allSix = allSix.take k.val ++ k :: allSix.drop (k.val + 1) ∧
    k ∉ allSix.take k.val ∧ k ∉ allSix.drop (k.val + 1) := by
  revert k
  decide

theorem requestMotion_single {k : Fin 6} (calls : asserted s k = true)
    (others : ∀ j : Fin 6, j ≠ k → asserted s j = true → hasCall s (.input j) = true) :
    requestMotion s = requestCall (.input k) s := by
  obtain ⟨split, out, once⟩ := allSix_split k
  have first : (allSix.take k.val).foldl (fun u i => if asserted u i then requestCall (.input i) u else u) s = s :=
    motionFold_nothing fun j mem => others j fun same => out (same ▸ mem)
  rw [requestMotion, split, List.foldl_append, List.foldl_cons, first, if_pos calls]
  refine motionFold_nothing fun j mem asks => ?_
  have asks : asserted s j = true := (SameAside.requestCall (.input k) s).asserted j ▸ asks
  exact hasCall_requestCall_stays (others j (fun same => once (same ▸ mem)) asks) (.inr ⟨j, rfl, asks⟩)

/-- Settles O35: eviction picks the best of the slots, serving the best of the sources, and the requests of the Motion
sources do not undo each other. -/
theorem fullSlotsEvictOrWait : Obligations.FullSlotsEvictOrWait := by
  refine ⟨fun src s full => ⟨fun i taker state lower oldest => ?_, fun kept fresh => ?_⟩,
    fun src s => ⟨requestCall_of_hasCall, requestCall_of_new, fun i free lowest => ?_⟩,
    fun n s => servePending_nothing, fun n i src before after s => servePending_next,
    fun s => ⟨requestMotion_nothing, fun k => hasCall_requestMotion, fun k => requestMotion_single⟩⟩
  · have evicted : evictedSlot s (kindOf s src).rank = some i :=
      evictedSlot_of_oldest (by simpa [outranked, state] using lower) oldest
    have aside := SameAside.queueNotice ((s.calls.slots.get i).notices + 1) (clearedNotice i (s.calls.slots.get i)) s
    rw [raiseCall_evicting full evicted]
    refine ⟨rfl, fun other => ?_, fun k source fresh => ?_⟩
    · dsimp only
      rw [pendIfAsserted_other other, queueCleared_calls]
    · dsimp only
      rw [source, pendIfAsserted_input (by rw [queueCleared_calls]; exact fresh), queueCleared_calls]
      exact if_congr (by rw [show asserted (queueCleared i s) k = asserted s k from aside.asserted k]) rfl rfl
  · rw [raiseCall_of_none full (evictedSlot_none kept), setPendingFlag_of_new fresh]
  · rw [raiseCall_of_free (freeSlot_eq_some_iff.2 ⟨free, lowest⟩), raiseInto_calls]
    rfl

end Sys2Proof.Machine
end


section
/-! SUPPORT. What the end of a received frame leaves to the block it is handed to, and what a take and a cancel make of
the slot that they name (sections 6.5, 9.2). -/

namespace Sys2Proof.Machine

variable {c d : List Block} {s t : State} {i : Instr} {wire : List Byte} {corrected : Bool} {source : Station} {f : Frame}
  {want : Station → Frame → Option (State → State)} {hand : State → State} {p : State → Prop}

/-! ## Accepted frames (R160 to R162) -/

theorem endFrame_eq (corrected : Bool) (s : State) :
    endFrame corrected s = (s.setReceiver .discard).setCounters (headerCounted corrected s.counters) := by
  cases corrected <;> rfl

theorem endFrame_line (corrected : Bool) (s : State) :
    (endFrame corrected s).line = { s.line with receiver := .discard } := by
  rw [endFrame_eq]; rfl

theorem endFrame_counters (corrected : Bool) (s : State) :
    (endFrame corrected s).counters = headerCounted corrected s.counters := by
  rw [endFrame_eq]; rfl

theorem endFrame_sameCalls (corrected : Bool) (s : State) : SameCalls s (endFrame corrected s) :=
  .of_keeps (endFrame_keeps s corrected) (by decide)

/-- A row that hears a frame answers what the frame's hand-off leads to, settled. -/
theorem changes_heard (row : exec i s = whileRunning (receive wire want) s) (heard : Hears wire corrected source f s)
    (wanted : want source f = some hand) (kept : SameOutside c (endFrame corrected s) (hand (endFrame corrected s)))
    (sub : ∀ b, b ∈ ([.line, .counters] ++ c) ++ [.line, .outputs] → b ∈ d)
    (holds : p (settle (hand (endFrame corrected s)))) : Changes i s d p :=
  changes_settled row heard.1 (receive_of_hears heard wanted) ((endFrame_keeps s corrected).then kept) sub holds

/-- Once a frame has ended, the command's end leaves the queue alone. -/
theorem settle_queue_of_discard (h : s.line.receiver = .discard) : (settle s).line.queue = s.line.queue := by
  rw [settle_line, startSending_line_busy (.inr (.inl h))]
  split <;> rfl

/-- A frame that hands on nothing is counted, and that is all. -/
theorem changes_disregarded (row : exec i s = whileRunning (receive wire want) s)
    (heard : Hears wire corrected source f s) (wanted : want source f = some hand)
    (nothing : hand (endFrame corrected s) = endFrame corrected s) :
    Changes i s [.line, .counters, .outputs] (fun t =>
      t.counters = headerCounted corrected s.counters ∧ t.line.queue = s.line.queue) := by
  refine changes_heard row heard wanted (c := []) (by rw [nothing]; exact .refl [] _) (by decide) ?_
  rw [nothing, settle_counters, endFrame_counters, settle_queue_of_discard (by rw [endFrame_line]), endFrame_line]
  exact ⟨rfl, rfl⟩

theorem room_congr {holds : Frame → Prop} (queue : t.line.queue = s.line.queue) :
    HasRoom s ∨ Waits s holds → HasRoom t ∨ Waits t holds := by
  rw [HasRoom, HasRoom, Waits, Waits, queue]
  exact id

theorem endFrame_room {holds : Frame → Prop} :
    HasRoom s ∨ Waits s holds → HasRoom (endFrame corrected s) ∨ Waits (endFrame corrected s) holds :=
  room_congr (by rw [endFrame_line])

/-! ## Addressed frames (R118, R162) -/

theorem addressedHere_congr {target : Byte} (loader : t.loader = s.loader) :
    addressedHere target t = addressedHere target s := by
  unfold addressedHere
  rw [loader]

theorem callFrame_of_slot {judge : Station → Fin 8 → Fin 16 → State → State} {slot seq : Fin 16} {i : Fin 8}
    (named : source ≠ 0) (here : slot = wideSlot i) : callFrame judge source slot seq s = judge source i seq s := by
  have found : slotOf (wideSlot i).val = some i := by simp [slotOf, wideSlot]
  rw [callFrame, here, found]
  exact if_neg named

theorem callFrame_disregarded {judge : Station → Fin 8 → Fin 16 → State → State} {slot seq : Fin 16}
    (h : source = 0 ∨ 8 ≤ slot.val) : callFrame judge source slot seq s = s := by
  cases found : slotOf slot.val with
  | none => rw [callFrame, found]
  | some i =>
    have low : slot.val < 8 := by
      by_contra high
      simp [slotOf, high] at found
    rw [callFrame, found]
    exact if_pos (h.resolve_right (by omega))

/-! ## Takes (R119, R120) -/

theorem answerTooLate_keeps_calls (i : Fin 8) (seq : Fin 16) (s : State) : (answerTooLate i seq s).calls = s.calls :=
  (answerTooLate_keeps s i seq).calls_eq

theorem judgeTake_calls (sender : Station) (i : Fin 8) (seq : Fin 16) (s : State) :
    (judgeTake sender i seq s).calls =
      if (s.calls.slots.get i).isOpen = true ∧ (s.calls.slots.get i).seq = seq then
        { s.calls with
          slots := s.calls.slots.set i
            { s.calls.slots.get i with
              state := if (s.calls.slots.get i).state = .raised then .taken sender else (s.calls.slots.get i).state
              repeatTimer := some 0
              notices := (s.calls.slots.get i).notices + 1 } }
      else s.calls := by
  unfold judgeTake
  dsimp only
  split
  · next same =>
    split
    · next state =>
      rw [if_pos ⟨Slot.isOpen_iff.2 (by simp [state]), same⟩, if_pos state, announce_calls]
      simp only [State.setSlot, State.setCalls_calls, Eight.get_set_self, Eight.set_set, Slot.announced]
    · next state =>
      rw [if_pos ⟨Slot.isOpen_iff.2 (by simp [state]), same⟩, if_neg (by simp [state]), announce_calls]
      rfl
    · next state =>
      rw [if_neg fun h => Slot.isOpen_iff.1 h.1 state, answerTooLate_keeps_calls]
  · next other => rw [if_neg fun h => other h.2, answerTooLate_keeps_calls]

theorem handTake_addressed {target : Byte} {slot seq : Fin 16} {i : Fin 8} (here : addressedHere target s = true)
    (named : source ≠ 0) (slot_eq : slot = wideSlot i) : handTake source target slot seq s = judgeTake source i seq s :=
  (if_pos here).trans (callFrame_of_slot named slot_eq)

theorem handTake_disregarded {target : Byte} {slot seq : Fin 16}
    (h : addressedHere target s = false ∨ source = 0 ∨ 8 ≤ slot.val) : handTake source target slot seq s = s := by
  obtain elsewhere | dropped := h
  · exact if_neg (by rw [elsewhere]; decide)
  · exact ite_eq_right_iff.2 fun _ => callFrame_disregarded dropped

/-- Settles O39: the end of the frame leaves the slots as they were, and the take is judged against the one it names. -/
theorem takeIsJudged : Obligations.TakeIsJudged := by
  intro wire corrected source target slot seq s heard
  have ended := endFrame_sameCalls corrected s
  have here := addressedHere_congr (target := target) ended.loader
  refine ⟨fun addressed named i slot_eq => ?_, fun dropped => ?_⟩
  · refine changes_heard (want := wantTake) rfl heard rfl (handTake_keeps _ source target slot seq) (by decide) ?_
    rw [settle_calls, handTake_addressed (here.trans addressed) named slot_eq, judgeTake_calls, ended.calls]
  · exact changes_disregarded (want := wantTake) rfl heard rfl (handTake_disregarded (here ▸ dropped))

/-! ## Cancels (R115, R120, R121) -/

theorem handCancel_addressed {target : Byte} {slot seq : Fin 16} {i : Fin 8} (here : addressedHere target s = true)
    (named : source ≠ 0) (slot_eq : slot = wideSlot i) :
    handCancel source target slot seq s = judgeCancel source i seq s :=
  (if_pos here).trans (callFrame_of_slot named slot_eq)

theorem handCancel_disregarded {target : Byte} {slot seq : Fin 16}
    (h : addressedHere target s = false ∨ source = 0 ∨ 8 ≤ slot.val) : handCancel source target slot seq s = s := by
  obtain elsewhere | dropped := h
  · exact if_neg (by rw [elsewhere]; decide)
  · exact ite_eq_right_iff.2 fun _ => callFrame_disregarded dropped

theorem cancelAccepted_iff {sender : Station} {zone : Level} {sl : Slot} :
    cancelAccepted sender zone sl = true ↔
      ¬(sl.kind = some .fire ∧ zone = .fire) ∧ (sl.state = .raised ∨ sl.state = .taken sender) := by
  rw [not_and_or]
  cases state : sl.state <;> simp [cancelAccepted, state]

theorem isOpen_of_cancellable {sender : Station} {sl : Slot} (h : sl.state = .raised ∨ sl.state = .taken sender) :
    sl.isOpen = true := Slot.isOpen_iff.2 (by rcases h with h | h <;> simp [h])

theorem judgeCancel_accepted {sender : Station} {i : Fin 8} {seq : Fin 16} (same : (s.calls.slots.get i).seq = seq)
    (free : ¬((s.calls.slots.get i).kind = some .fire ∧ s.hazard.zone = .fire))
    (may : (s.calls.slots.get i).state = .raised ∨ (s.calls.slots.get i).state = .taken sender) :
    judgeCancel sender i seq s = afterClosing (closeSlot i s) := by
  simp [judgeCancel, isOpen_of_cancellable may, same, cancelAccepted_iff.2 ⟨free, may⟩]

theorem judgeCancel_refused {sender : Station} {i : Fin 8} {seq : Fin 16} (isOpen : (s.calls.slots.get i).isOpen = true)
    (same : (s.calls.slots.get i).seq = seq)
    (kept : ((s.calls.slots.get i).kind = some .fire ∧ s.hazard.zone = .fire)
      ∨ ∃ other, (s.calls.slots.get i).state = .taken other ∧ other ≠ sender) :
    judgeCancel sender i seq s = announce i s := by
  have refused : ¬cancelAccepted sender s.hazard.zone (s.calls.slots.get i) = true := by
    rw [cancelAccepted_iff]
    rintro ⟨free, may⟩
    obtain fire | ⟨other, taken, differs⟩ := kept
    · exact free fire
    · rw [taken] at may
      simp [differs] at may
  simp [judgeCancel, isOpen, same, refused]

theorem judgeCancel_unknown {sender : Station} {i : Fin 8} {seq : Fin 16}
    (h : (s.calls.slots.get i).isOpen = false ∨ (s.calls.slots.get i).seq ≠ seq) :
    judgeCancel sender i seq s = answerTooLate i seq s := by
  refine if_neg ?_
  rw [Bool.and_eq_true, beq_iff_eq]
  rintro ⟨isOpen, same⟩
  exact h.elim (fun shut => by simp [isOpen] at shut) (· same)

/-- The slot freed, as the call unit then goes on from it. -/
theorem closeSlot_sameCalls (i : Fin 8) (s : State) :
    SameCalls
      (s.setCalls
        { s.calls with
          slots := s.calls.slots.set i { s.calls.slots.get i with state := .free, age := 0, repeatTimer := none } })
      (closeSlot i s) :=
  ⟨closeSlot_calls i s, (closeSlot_keeps s i).loader_eq, (closeSlot_keeps s i).control_eq⟩

theorem closeSlot_then_nothing {i : Fin 8} (empty : s.calls.pending = []) (quiet : ∀ k : Fin 6, asserted s k = false) :
    afterClosing (closeSlot i s) = closeSlot i s :=
  afterClosing_nothing (by rw [closeSlot_calls]; exact empty) fun k =>
    ((SameAside.closeSlot i s).asserted k).trans (quiet k)

theorem closeSlot_waits {i : Fin 8} (room : HasRoom s ∨ Waits s (fun f => f.isNoticeOf i = true)) :
    Waits (closeSlot i s) (fun f =>
      f = .notice ((s.calls.slots.get i).notices + 1) (clearedNotice i (s.calls.slots.get i))) :=
  queueNotice_waits (n := clearedNotice i (s.calls.slots.get i)) room

theorem answerTooLate_waits {i : Fin 8} {seq : Fin 16} (shut : (s.calls.slots.get i).isOpen = false)
    (room : HasRoom s ∨ Waits s (fun f => f.isNoticeOf i = true)) :
    Waits (answerTooLate i seq s) (fun f =>
      ∃ n, f = .notice 0 n ∧ n.slot = i ∧ n.seq = seq ∧ n.state = .cleared ∧ n.taker = 0 ∧ n.age = 0) := by
  have answers : ∀ n : Notice, n.slot = i → n.seq = seq → n.state = .cleared → n.taker = 0 → n.age = 0 →
      Waits (queueNotice 0 n s) (fun f =>
        ∃ n, f = .notice 0 n ∧ n.slot = i ∧ n.seq = seq ∧ n.state = .cleared ∧ n.taker = 0 ∧ n.age = 0) := by
    intro n slot same state taker age
    obtain ⟨e, mem, here⟩ := queueNotice_waits (count := 0) (slot ▸ room)
    exact ⟨e, mem, n, here, slot, same, state, taker, age⟩
  have answered : ¬((s.calls.slots.get i).isOpen && currentNoticeWaits i s) = true := by simp [shut]
  unfold answerTooLate
  dsimp only
  rw [if_neg answered]
  exact answers _ rfl rfl rfl rfl rfl

/-- What a cancel leaves of the calls, in every case (R121). -/
theorem judgeCancel_applied (sender : Station) (i : Fin 8) (seq : Fin 16) (s : State) :
    CancelApplied sender i seq s (judgeCancel sender i seq s) := by
  refine fun _ => ⟨fun same free may empty quiet => ?_, fun same free may => ?_, fun isOpen same kept => ?_, fun unknown => ?_⟩
  · rw [judgeCancel_accepted same free may, closeSlot_then_nothing empty quiet, closeSlot_calls]
    rfl
  · rw [judgeCancel_accepted same free may]
    exact (closeSlot_sameCalls i s).afterClosing.calls
  · rw [judgeCancel_refused isOpen same kept, announce_calls]
    rfl
  · rw [judgeCancel_unknown unknown, answerTooLate_keeps_calls]

/-- What a cancel leaves of the calls is told by the blocks that it reads. -/
theorem callsAfterFreeing_congr {i : Fin 8} (h : SameCalls s t) : (callsAfterFreeing i t).calls = (callsAfterFreeing i s).calls := by
  have freed := h.setCalls
    { s.calls with
      slots := s.calls.slots.set i { s.calls.slots.get i with state := .free, age := 0, repeatTimer := none } }
  unfold callsAfterFreeing
  rw [h.calls]
  exact (freed.servePending 8).requestMotion.calls

theorem CancelApplied.of_same {u : State} {sender : Station} {i : Fin 8} {seq : Fin 16} (same : SameCalls s t)
    (zone : t.hazard = s.hazard) (h : CancelApplied sender i seq t u) : CancelApplied sender i seq s u := by
  intro named
  obtain ⟨quiet, accepted, refused, unknown⟩ := h named
  rw [same.calls, zone] at quiet accepted refused
  rw [same.calls] at unknown
  exact ⟨fun equal free may empty calm => quiet equal free may empty fun k => (same.asserted k).trans (calm k),
    fun equal free may => (accepted equal free may).trans (callsAfterFreeing_congr same), refused, unknown⟩

/-- Settles O40: the cancel is judged as at the frame's end, which leaves calls, zone and queue as they were. -/
theorem cancelIsJudged : Obligations.CancelIsJudged := by
  intro wire corrected source target slot seq i s heard
  have ended := endFrame_sameCalls corrected s
  have here := addressedHere_congr (target := target) ended.loader
  refine ⟨fun dropped => changes_disregarded (want := wantCancel) rfl heard rfl (handCancel_disregarded (here ▸ dropped)),
    fun addressed named slot_eq => ?_⟩
  have zone : (endFrame corrected s).hazard = s.hazard := (endFrame_keeps s corrected).hazard_eq
  have room := endFrame_room (corrected := corrected) (s := s) (holds := fun f => f.isNoticeOf i = true)
  have judged := handCancel_addressed (seq := seq) (here.trans addressed) named slot_eq
  have slots : (endFrame corrected s).calls.slots = s.calls.slots := by rw [ended.calls]
  have applied := (judgeCancel_applied source i seq (endFrame corrected s)).of_same ended zone named
  have frame := handCancel_keeps (endFrame corrected s) source target slot seq
  rw [judged] at frame
  obtain ⟨quietly, accepted, refused, unknown⟩ := applied
  refine ⟨fun empty quiet same free may => ?_, fun same free may => ?_, fun isOpen same kept => ?_, fun other => ?_⟩
  · refine changes_heard (want := wantCancel) rfl heard rfl (judged.symm ▸ frame) (by decide) ?_
    rw [settle_calls, judged]
    refine ⟨quietly same free may empty quiet, fun has => ?_⟩
    have still : afterClosing (closeSlot i (endFrame corrected s)) = closeSlot i (endFrame corrected s) :=
      closeSlot_then_nothing (by rw [ended.calls]; exact empty) fun k => (ended.asserted k).trans (quiet k)
    rw [judgeCancel_accepted (by rwa [slots]) (by rwa [slots, zone]) (by rwa [slots]), still]
    have waits := (closeSlot_waits (room has)).settle
    rwa [slots] at waits
  · refine changes_heard (want := wantCancel) rfl heard rfl (judged.symm ▸ frame) (by decide) ?_
    rw [settle_calls, judged]
    exact accepted same free may
  · refine changes_heard (want := wantCancel) rfl heard rfl (judged.symm ▸ frame) (by decide) ?_
    rw [settle_calls, judged]
    refine ⟨refused isOpen same kept, fun has => ?_⟩
    rw [judgeCancel_refused (by rwa [slots]) (by rwa [slots]) (by rwa [slots, zone])]
    have waits := (announce_waits (room has)).settle
    rwa [slots] at waits
  · have answered : judgeCancel source i seq (endFrame corrected s) = answerTooLate i seq (endFrame corrected s) :=
      judgeCancel_unknown (by rwa [slots])
    refine changes_heard (want := wantCancel) rfl heard rfl (judged.symm ▸ answered.symm ▸ answerTooLate_keeps _ i seq)
      (by decide) fun shut has => ?_
    rw [judged, answered]
    exact (answerTooLate_waits (by rwa [slots]) (room has)).settle

end Sys2Proof.Machine
end


section
/-! SUPPORT. What a call notice makes of the board, the Help chime, Overflow and the held selection (sections 7.2, 7.3,
7.5). -/

namespace Sys2Proof.Machine

variable {s t e u : State} {source : Station} {kind : CallKind} {n : Notice}

/-! ## Entries (R127, R128) -/

theorem boardStateOf_shows (own : Station) (n : Notice) : ShowsNotice own n (boardStateOf own n) :=
  ⟨fun raised => by simp [boardStateOf, raised], fun taken mine => by simp [boardStateOf, taken, mine],
    fun taken other => by simp [boardStateOf, taken, other]⟩

theorem entriesFollowNotices (own source : Station) (kind : CallKind) (n : Notice) (e : BoardEntry) :
    EntriesFollowNotices own source kind n e :=
  ⟨boardStateOf_shows own n, rfl, boardStateOf_shows own n, rfl⟩

theorem boardStateOf_raised (own : Station) (shown : n.state ≠ .cleared) :
    boardStateOf own n = .raised ↔ n.state = .raised := by
  cases state : n.state with
  | raised => simp [boardStateOf, state]
  | taken => by_cases mine : n.taker = own <;> simp [boardStateOf, state, mine]
  | cleared => exact absurd state shown

/-! ## The board's new entries (R130, R132) -/

theorem Post.boarded_of_stays {p : Post} {board : List BoardEntry} {st : Station} {sl : Fin 8}
    (held : p.held = some (st, sl)) (stays : ∃ e ∈ board, e.station = st ∧ e.slot = sl) :
    (p.boarded board).held = p.held ∧ (p.boarded board).returnTimer = p.returnTimer := by
  have any : board.any (·.isFor st sl) = true := by
    obtain ⟨e, mem, here⟩ := stays
    exact List.any_eq_true.2 ⟨e, mem, by simpa [BoardEntry.isFor] using here⟩
  simp [Post.boarded, held, any]

theorem Post.boarded_of_leaves {p : Post} {board : List BoardEntry} {st : Station} {sl : Fin 8}
    (held : p.held = some (st, sl)) (leaves : ∀ e ∈ board, ¬(e.station = st ∧ e.slot = sl)) :
    (p.boarded board).held = none ∧ (p.boarded board).returnTimer = none := by
  have none_left : board.any (·.isFor st sl) = false :=
    List.any_eq_false.2 fun e mem => by simpa [BoardEntry.isFor] using leaves e mem
  simp [Post.boarded, held, none_left]

theorem Post.boarded_of_default {p : Post} (board : List BoardEntry) (held : p.held = none) :
    (p.boarded board).held = none ∧ (p.boarded board).returnTimer = p.returnTimer := by
  simp [Post.boarded, held]

/-- Overflow and the held selection follow the board's new entries, whatever the Help chime does. -/
theorem postFollowsBoard_of_boarded {board : List BoardEntry} {chime : Option Nat}
    (post : t.post = { s.post.boarded board with helpChime := chime }) : PostFollowsBoard s t := by
  have entries : t.post.board = board := by rw [post]; rfl
  rw [PostFollowsBoard, entries, post]
  refine ⟨fun room => ?_, Post.boarded_of_default board,
    fun st sl held _ => ⟨Post.boarded_of_stays held, Post.boarded_of_leaves held⟩⟩
  simp [Post.boarded, Config.boardLimit, room]

/-- A dropped newcomer leaves the selection to the entries that are there. -/
theorem postFollowsBoard_of_dropped (full : 16 ≤ s.post.board.length)
    (post : t.post = { s.post with overflow := true }) : PostFollowsBoard s t := by
  rw [PostFollowsBoard, post]
  exact ⟨fun room => by simp only at room; omega, fun held => ⟨held, rfl⟩,
    fun st sl _ has => ⟨fun _ => ⟨rfl, rfl⟩, fun gone => absurd has fun ⟨e, mem, here⟩ => gone e mem here⟩⟩

/-! ## Notices (R127 to R130, R142) -/

@[simp] theorem decideSound_post (s : State) : (decideSound s).post = s.post := (decideSound_keeps s).post_eq

@[simp] theorem decideSound_counters (s : State) : (decideSound s).counters = s.counters :=
  (decideSound_keeps s).counters_eq

theorem takeNotice_cleared (role : s.post.role = true) (named : source ≠ 0) (cleared : n.state = .cleared) :
    (takeNotice source n s).post =
      s.post.boarded
        (s.post.board.filter (fun e => !(e.station == source && e.slot == n.slot && e.seq == n.seq))) := by
  have taken : takeNotice source n s = decideSound (boardClear source n s) := by
    simp [takeNotice, role, named, cleared]
  rw [taken, decideSound_post]
  rfl

theorem takeNotice_unkinded (shown : n.state ≠ .cleared) (unkinded : n.kind = none) : takeNotice source n s = s := by
  cases state : n.state with
  | cleared => exact absurd state shown
  | _ => simp [takeNotice, state, unkinded]

theorem takeNotice_kinded (role : s.post.role = true) (named : source ≠ 0) (shown : n.state ≠ .cleared)
    (kinded : n.kind = some kind) : takeNotice source n s = decideSound (boardTake source kind n s) := by
  cases state : n.state with
  | cleared => exact absurd state shown
  | _ => simp [takeNotice, state, kinded, role, named]

/-- A newcomer joins: its Help chime starts where it is a Help call in Raised. -/
theorem startHelpChime_post (shown : n.state ≠ .cleared) (own : Station) (board : List BoardEntry) :
    (startHelpChime (newBoardEntry own source kind n) (setBoard board s)).post =
      { s.post.boarded board with helpChime := chimeOnJoin kind n s } := by
  have starts : ((newBoardEntry own source kind n).kind = .help ∧ (newBoardEntry own source kind n).state = .raised) ↔
      (kind = .help ∧ n.state = .raised) := and_congr Iff.rfl (boardStateOf_raised own shown)
  unfold startHelpChime chimeOnJoin
  rw [if_congr starts rfl rfl]
  split <;> rfl

section
variable (shown : n.state ≠ .cleared)

theorem boardTake_updates {e : BoardEntry} (found : s.post.board.find? (·.isFor source n.slot) = some e)
    (same : e.seq = n.seq) :
    (boardTake source kind n s).post =
      s.post.boarded
        (s.post.board.map (fun x => if x.isFor source n.slot then x.heard s.loader.station n else x)) := by
  unfold boardTake
  dsimp only
  rw [found]
  dsimp only
  rw [if_pos same, setBoard_post]

include shown

theorem boardTake_replaces {e : BoardEntry} (found : s.post.board.find? (·.isFor source n.slot) = some e)
    (other : e.seq ≠ n.seq) :
    (boardTake source kind n s).post =
      { s.post.boarded
          (s.post.board.filter (fun x => !x.isFor source n.slot) ++ [newBoardEntry s.loader.station source kind n]) with
        helpChime := chimeOnJoin kind n s } := by
  unfold boardTake
  dsimp only
  rw [found]
  dsimp only
  rw [if_neg other, startHelpChime_post shown]

theorem boardTake_joins (absent : s.post.board.find? (·.isFor source n.slot) = none) (room : s.post.board.length < 16) :
    (boardTake source kind n s).post =
      { s.post.boarded (s.post.board ++ [newBoardEntry s.loader.station source kind n]) with
        helpChime := chimeOnJoin kind n s } := by
  unfold boardTake
  dsimp only
  rw [absent]
  dsimp only
  rw [if_pos (show s.post.board.length < Config.boardLimit from room), startHelpChime_post shown]

omit shown in
theorem boardTake_full (absent : s.post.board.find? (·.isFor source n.slot) = none)
    (full : ¬s.post.board.length < 16) :
    boardTake source kind n s = joinFull (newBoardEntry s.loader.station source kind n) s := by
  unfold boardTake
  dsimp only
  rw [absent]
  exact if_neg full

theorem joinFull_evicts {old : BoardEntry}
    (found : s.post.board.find? (fun e => e.state == .takenByOther || decide (e.kind.rank < kind.rank)) = some old) :
    (joinFull (newBoardEntry s.loader.station source kind n) s).post =
      { s.post.boarded
          (s.post.board.filter (fun x => !x.isFor old.station old.slot)
            ++ [newBoardEntry s.loader.station source kind n]) with
        helpChime := chimeOnJoin kind n s } := by
  have found : s.post.board.find? (·.yields (newBoardEntry s.loader.station source kind n).kind.rank) = some old := found
  unfold joinFull
  rw [found]
  exact startHelpChime_post shown _ _

end

theorem joinFull_evicts_counters {old : BoardEntry}
    (found : s.post.board.find? (fun e => e.state == .takenByOther || decide (e.kind.rank < kind.rank)) = some old) :
    (joinFull (newBoardEntry s.loader.station source kind n) s).counters = s.counters := by
  have found : s.post.board.find? (·.yields (newBoardEntry s.loader.station source kind n).kind.rank) = some old := found
  unfold joinFull startHelpChime
  rw [found]
  dsimp only
  split <;> rfl

theorem joinFull_drops
    (none_yields : s.post.board.find? (fun e => e.state == .takenByOther || decide (e.kind.rank < kind.rank)) = none) :
    joinFull (newBoardEntry s.loader.station source kind n) s =
      countOverflow (s.setPost { s.post with overflow := true }) := by
  have none_yields : s.post.board.find? (·.yields (newBoardEntry s.loader.station source kind n).kind.rank) = none :=
    none_yields
  unfold joinFull
  rw [none_yields]

/-! ## A full board stays full (R130) -/

/-- On a board in form one entry alone is for a listed entry's station and slot. -/
theorem boardInForm_filter_length {board : List BoardEntry} {old : BoardEntry} (form : BoardInForm board)
    (mem : old ∈ board) : (board.filter (fun x => !x.isFor old.station old.slot)).length + 1 = board.length := by
  obtain ⟨-, nodup⟩ := form
  have once : board.countP (·.isFor old.station old.slot) = 1 := by
    have counted := List.count_eq_one_of_mem nodup (List.mem_map_of_mem mem)
    rw [List.count, List.countP_map] at counted
    rw [← counted]
    refine List.countP_congr fun x _ => ?_
    simp [BoardEntry.isFor]
  have parts := List.length_eq_countP_add_countP (·.isFor old.station old.slot) (l := board)
  rw [← List.countP_eq_length_filter, parts, once, Nat.add_comm]
  simp

theorem boarded_overflow_of_swap {old new : BoardEntry} (form : BoardInForm s.post.board)
    (full : s.post.board.length = 16) (mem : old ∈ s.post.board) :
    (s.post.boarded (s.post.board.filter (fun x => !x.isFor old.station old.slot) ++ [new])).overflow
      = s.post.overflow := by
  have length := boardInForm_filter_length form mem
  have stays_full : ¬((s.post.board.filter (fun x => !x.isFor old.station old.slot) ++ [new]).length < Config.boardLimit) := by
    rw [List.length_append, List.length_singleton, length, full]
    decide
  simp only [Post.boarded, stays_full, decide_false, Bool.not_false, Bool.and_true]

/-- A notice of a kind gives the board new entries, or is dropped by a full one. -/
theorem boardTake_post (shown : n.state ≠ .cleared) :
    (∃ board chime, (boardTake source kind n s).post = { s.post.boarded board with helpChime := chime })
      ∨ (16 ≤ s.post.board.length ∧ (boardTake source kind n s).post = { s.post with overflow := true }) := by
  cases listed : s.post.board.find? (·.isFor source n.slot) with
  | some e =>
    by_cases same : e.seq = n.seq
    · exact .inl ⟨_, s.post.helpChime, boardTake_updates listed same⟩
    · exact .inl ⟨_, _, boardTake_replaces shown listed same⟩
  | none =>
    by_cases room : s.post.board.length < 16
    · exact .inl ⟨_, _, boardTake_joins shown listed room⟩
    · rw [boardTake_full listed room]
      cases yielding : s.post.board.find? (fun e => e.state == .takenByOther || decide (e.kind.rank < kind.rank)) with
      | some old => exact .inl ⟨_, _, joinFull_evicts shown yielding⟩
      | none => exact .inr ⟨not_lt.1 room, by rw [joinFull_drops yielding]; rfl⟩

/-- What a notice makes of the post, in every case. -/
theorem takeNotice_applied (role : s.post.role = true) (named : source ≠ 0) :
    NoticeApplied source n s (takeNotice source n s) := by
  refine ⟨fun cleared => ?_, fun shown unkinded => by rw [takeNotice_unkinded shown unkinded], fun takes => ?_,
    fun kind shown kinded => ?_⟩
  · rw [takeNotice_cleared role named cleared]
    exact ⟨rfl, rfl⟩
  · by_cases cleared : n.state = .cleared
    · exact postFollowsBoard_of_boarded (chime := s.post.helpChime) (takeNotice_cleared role named cleared)
    · obtain ⟨kind, kinded⟩ := Option.ne_none_iff_exists'.1 (takes.resolve_left cleared)
      have post := (congrArg State.post (takeNotice_kinded role named cleared kinded)).trans (decideSound_post _)
      obtain ⟨board, chime, boarded⟩ | ⟨full, dropped⟩ := boardTake_post (kind := kind) (source := source) (s := s) cleared
      · exact postFollowsBoard_of_boarded (post.trans boarded)
      · exact postFollowsBoard_of_dropped full (post.trans dropped)
  · rw [takeNotice_kinded role named shown kinded, decideSound_post, decideSound_counters]
    refine ⟨fun e found => ?_, fun absent room => ?_, fun absent full => ?_⟩
    · by_cases same : e.seq = n.seq
      · rw [boardTake_updates found same, if_pos same, if_pos same]
        exact ⟨rfl, rfl⟩
      · rw [boardTake_replaces shown found same, if_neg same, if_neg same]
        exact ⟨rfl, rfl⟩
    · rw [boardTake_joins shown absent room]
      exact ⟨rfl, rfl⟩
    · rw [boardTake_full absent (by omega)]
      refine ⟨fun old found => ?_, fun none_yields => ?_⟩
      · rw [joinFull_evicts shown found]
        exact ⟨rfl, rfl, fun form => boarded_overflow_of_swap form full (List.mem_of_find?_eq_some found)⟩
      · rw [joinFull_drops none_yields]
        exact ⟨rfl, rfl, rfl, rfl⟩

/-- It is told by the post, the own number and the counter of dropped newcomers. -/
theorem NoticeApplied.of_same {v : State} (post : e.post = s.post) (loader : e.loader = s.loader)
    (counter : e.counters.overflow = s.counters.overflow) (post' : v.post = u.post)
    (counter' : v.counters.overflow = u.counters.overflow) (h : NoticeApplied source n e u) :
    NoticeApplied source n s v := by
  unfold NoticeApplied PostFollowsBoard chimeOnJoin at *
  rw [post, loader, counter] at h
  rwa [post', counter']

theorem headerCounted_overflow (corrected : Bool) (c : Counters) : (headerCounted corrected c).overflow = c.overflow := by
  cases corrected <;> rfl

/-- What a heard notice makes of the post, once the command has ended. -/
theorem heardNotice_applied (corrected : Bool) (role : s.post.role = true) (named : source ≠ 0) :
    NoticeApplied source n s (settle (takeNotice source n (endFrame corrected s))) := by
  have frame := endFrame_keeps s corrected
  have counter : (endFrame corrected s).counters.overflow = s.counters.overflow := by
    rw [endFrame_counters, headerCounted_overflow]
  exact (takeNotice_applied (s := endFrame corrected s) (by rwa [frame.post_eq]) named).of_same frame.post_eq
    frame.loader_eq counter (settle_post _) (by rw [settle_counters])

/-- Settles O41: the notice is taken on the board as at the frame's end, which leaves the post as it was. -/
theorem noticeGoesOnTheBoard : Obligations.NoticeGoesOnTheBoard := by
  refine ⟨entriesFollowNotices, fun wire corrected source count n s heard => ⟨fun dropped => ?_, fun role named => ?_⟩⟩
  · have role : (endFrame corrected s).post = s.post := (endFrame_keeps s corrected).post_eq
    have nothing : takeNotice source n (endFrame corrected s) = endFrame corrected s := if_pos (role ▸ dropped)
    exact changes_heard (c := []) (want := wantNotice) rfl heard rfl (by rw [nothing]; exact .refl [] _) (by decide) trivial
  · refine changes_heard (want := wantNotice) rfl heard rfl (takeNotice_keeps _ source n) (by decide) ?_
    obtain ⟨cleared, unkinded, follows, kinded⟩ := heardNotice_applied (n := n) corrected role named
    refine ⟨cleared, unkinded, follows, fun kind shown of_kind => ?_⟩
    obtain ⟨listed, joins, -⟩ := kinded kind shown of_kind
    refine ⟨fun e found same => ?_, fun e found other => ?_, joins⟩
    · have := listed e found
      rwa [if_pos same, if_pos same] at this
    · have := listed e found
      rwa [if_neg other, if_neg other] at this

/-- Settles O42: the same on a full board. -/
theorem fullBoardEvictsOrDrops : Obligations.FullBoardEvictsOrDrops := by
  intro wire corrected source count n kind s heard role named shown kinded absent full
  have frame := endFrame_keeps s corrected
  have post := frame.post_eq
  have own := frame.loader_eq
  have applied := heardNotice_applied (n := n) corrected role named
  obtain ⟨-, -, follows, kinds⟩ := applied
  obtain ⟨-, -, crowded⟩ := kinds kind shown kinded
  obtain ⟨evicts, drops⟩ := crowded absent full
  have taken : takeNotice source n (endFrame corrected s) =
      decideSound (joinFull (newBoardEntry (endFrame corrected s).loader.station source kind n) (endFrame corrected s)) := by
    rw [takeNotice_kinded (by rwa [post]) named shown kinded, boardTake_full (by rwa [post]) (by rw [post]; omega)]
  refine ⟨fun old found => ?_, fun none_yields => ?_⟩
  · refine changes_heard (want := wantNotice) rfl heard rfl (takeNotice_keeps _ source n) (by decide) ?_
    obtain ⟨board, chime, -⟩ := evicts old found
    refine ⟨board, chime, follows (.inr (by simp [kinded])), ?_⟩
    rw [settle_counters, taken, decideSound_counters, joinFull_evicts_counters (old := old) (by rwa [post]),
      endFrame_counters, headerCounted_overflow]
  · refine changes_heard (want := wantNotice) rfl heard rfl (takeNotice_keeps _ source n) (by decide) ?_
    obtain ⟨board, overflow, chime, counter⟩ := drops none_yields
    refine ⟨board, overflow, chime, ?_, counter⟩
    rw [settle_post, taken, decideSound_post, joinFull_drops (by rwa [post])]
    exact (congrArg Post.held post : (endFrame corrected s).post.held = s.post.held)

end Sys2Proof.Machine
end


section
/-! SUPPORT. What an accepted key asks of the line port and makes of the post (sections 7.3, 7.4). -/

namespace Sys2Proof.Machine

variable {s t u : State} {k : Key} {f : Frame} {e : BoardEntry}

/-! ## The transmit queue (R164) -/

theorem placeNew_waits (f : Frame) (s : State) : Waits (placeNew f s) (fun g => g = f) :=
  ⟨{ frame := f, place := s.line.placed, inFlight := false },
    by simp only [placeNew, State.setLine_line, mem_insertEntry, true_or], rfl⟩

theorem queueFull_of_room (room : HasRoom s) : queueFull s = false := by
  have : s.line.queue.length < Config.queueLimit := room
  simp [queueFull, this]

theorem queueFull_of_full (full : ¬HasRoom s) : queueFull s = true := by
  have : ¬s.line.queue.length < Config.queueLimit := full
  simp [queueFull, this]

theorem askLine_of_room (room : HasRoom s) (f : Frame) : askLine f s = placeNew f s := by
  simp [askLine, offerFrame, queueFull_of_room room]

theorem askLine_of_full (full : ¬HasRoom s) (f : Frame) : askLine f s = startBlink (countRefused s) := by
  simp [askLine, offerFrame, queueFull_of_full full]

/-- An unstrapped station starts no frame (R183). -/
theorem settle_queue_of_unstrapped (unstrapped : strapped s = false) : (settle s).line.queue = s.line.queue := by
  rw [settle_line, startSending]
  simp only [hasToSend, unstrapped, Bool.false_and, Bool.and_false, Bool.false_eq_true, if_false]
  split
  · rfl
  · split <;> rfl

/-! ## What every key leaves (R135) -/

/-- The panel stands. -/
def KeepsPanel (s t : State) : Prop := t.post.panel = s.post.panel

theorem KeepsPanel.watches : Watches [.post] KeepsPanel where
  trans h k := k.trans h
  outside h clear := congrArg Post.panel (h.post_eq fun mem => absurd (List.all_eq_true.1 clear _ mem) (by decide))

theorem askLine_keepsPanel (f : Frame) (s : State) : KeepsPanel s (askLine f s) := by
  have w := KeepsPanel.watches
  have offered : KeepsPanel s (offerFrame f s) := w.outside (offerFrame_keeps s f) rfl
  exact w.ite (w.trans offered rfl) offered

theorem removeSilent_keepsPanel (e : BoardEntry) (s : State) : KeepsPanel s (removeSilent e s) :=
  have w := KeepsPanel.watches
  w.ite (w.trans (t := setBoard _ s) rfl (w.outside (decideSound_keeps _) rfl)) rfl

theorem keyAct_keepsPanel (k : Key) (s : State) : KeepsPanel s (keyAct k s) := by
  have w := KeepsPanel.watches
  cases k with
  | take =>
    change KeepsPanel s (takeKey s)
    unfold takeKey
    split
    · exact w.ite (w.ite (askLine_keepsPanel _ s) (w.trans (askLine_keepsPanel _ s) rfl)) rfl
    · rfl
  | cancel =>
    change KeepsPanel s (cancelKey s)
    unfold cancelKey
    split
    · have blinks : KeepsPanel s (startBlink s) := rfl
      exact w.trans (w.ite (askLine_keepsPanel _ s) blinks) (removeSilent_keepsPanel _ _)
    · rfl
  | hush => exact w.ite rfl rfl
  | day | night | restore => exact w.ite (askLine_keepsPanel _ s) rfl
  | test => exact w.trans (w.outside (setLamp_keeps s _) rfl) (w.outside (decideSound_keeps _) rfl)
  | next | unused => rfl

/-- With room in the queue no key is refused, so nothing is counted (R164). -/
theorem keyAct_counters_of_room (room : HasRoom s) (k : Key) : (keyAct k s).counters = s.counters := by
  have asked : ∀ f, (askLine f s).counters = s.counters := fun f => by rw [askLine_of_room room]; rfl
  have ordered : ∀ o, (orderKey o s).counters = s.counters := fun o => by
    unfold orderKey commandKey
    split
    · exact asked _
    · rfl
  cases k with
  | take =>
    change (takeKey s).counters = _
    unfold takeKey
    dsimp only
    repeat' split
    all_goals first | rfl | exact asked _
  | cancel =>
    change (cancelKey s).counters = _
    unfold cancelKey
    split
    · rw [(removeSilent_keeps _ _).counters_eq]
      split
      · exact asked _
      · rfl
    · rfl
  | day => exact ordered .day
  | night => exact ordered .night
  | restore => exact ordered .restore
  | hush =>
    change (commandKey _ s).counters = _
    unfold commandKey
    split <;> rfl
  | test => exact (decideSound_counters _).trans rfl
  | next | unused => rfl

/-! ## Each key (R137 to R141) -/

theorem takeKey_of_raised (chosen : selected s.post = some e) (raised : e.state = .raised) (placed : strapped s = true)
    (room : HasRoom s) :
    takeKey s = markPending e (placeNew (.take (byteOf e.station.val) (wideSlot e.slot) e.seq) s) := by
  unfold takeKey
  rw [chosen]
  dsimp only
  rw [if_pos ⟨raised, placed⟩, queueFull_of_room room, askLine_of_room room]
  rfl

theorem takeKey_of_full (chosen : selected s.post = some e) (raised : e.state = .raised) (placed : strapped s = true)
    (full : ¬HasRoom s) : takeKey s = startBlink (countRefused s) := by
  unfold takeKey
  rw [chosen]
  dsimp only
  rw [if_pos ⟨raised, placed⟩, queueFull_of_full full, askLine_of_full full]
  rfl

theorem takeKey_blinks (h : ∀ e, selected s.post = some e → e.state ≠ .raised ∨ strapped s = false) :
    takeKey s = startBlink s := by
  unfold takeKey
  split
  · next e chosen =>
    refine if_neg fun both => ?_
    obtain other | unstrapped := h e chosen
    · exact other both.1
    · simp [unstrapped] at both
  · rfl

theorem cancelKey_of_selected (chosen : selected s.post = some e) :
    cancelKey s = removeSilent e
      (if strapped s then askLine (.cancel (byteOf e.station.val) (wideSlot e.slot) e.seq) s else startBlink s) := by
  unfold cancelKey
  rw [chosen]

theorem cancelKey_of_none (none_chosen : selected s.post = none) : cancelKey s = startBlink s := by
  unfold cancelKey
  rw [none_chosen]

theorem removeSilent_post (e : BoardEntry) (s : State) :
    (removeSilent e s).post =
      if e.silentMark then s.post.boarded (s.post.board.filter (fun x => !x.isFor e.station e.slot)) else s.post := by
  unfold removeSilent
  split
  · exact (decideSound_post _).trans (setBoard_post _ s)
  · rfl

theorem Post.boarded_blink (p : Post) (board : List BoardEntry) : (p.boarded board).blink = p.blink := rfl

theorem removeSilent_blink (e : BoardEntry) (s : State) : (removeSilent e s).post.blink = s.post.blink := by
  rw [removeSilent_post]
  split <;> rfl

theorem removeSilent_line (e : BoardEntry) (s : State) : (removeSilent e s).line = s.line :=
  (removeSilent_keeps s e).line_eq

theorem commandKey_acts {act : State → State} (authority : s.post.authOn = true) (placed : strapped s = true) :
    commandKey act s = act s := if_pos (by simp [authority, placed])

theorem commandKey_blinks {act : State → State} (h : s.post.authOn = false ∨ strapped s = false) :
    commandKey act s = startBlink s := if_neg (by rcases h with h | h <;> simp [h])

theorem hushKey_acts (authority : s.post.authOn = true) (placed : strapped s = true) :
    keyAct .hush s = s.setLine { s.line with hushPending := true } :=
  commandKey_acts (act := fun s => s.setLine { s.line with hushPending := true }) authority placed

theorem hushKey_blinks (h : s.post.authOn = false ∨ strapped s = false) : keyAct .hush s = startBlink s :=
  commandKey_blinks (act := fun s => s.setLine { s.line with hushPending := true }) h

/-! ## The key that is released (R132, R133, R135) -/

/-- The station as an accepted key finds it: the panel is Ready, a running blink has ended, and a running return timer
has restarted. -/
def keyAccepted (k : Key) (s : State) : State :=
  s.setPost
    { s.post with
      down := s.post.down.filter (· != k), panel := .ready, blink := none
      returnTimer := s.post.returnTimer.map (fun _ => 0) }

theorem takeKeyUp_of_held (role : s.post.role = true) (held : s.post.panel = .held k) (down : k ∈ s.post.down) :
    takeKeyUp k s = keyAct k (keyAccepted k s) := by
  simp [takeKeyUp, down, role, held, acceptKey, keyAccepted, State.setPost]

theorem keyAccepted_selected (k : Key) (s : State) : selected (keyAccepted k s).post = selected s.post := rfl

/-- The row of a held key's release. -/
theorem changes_heldKey {x : Crossing} {c d : List Block} {p : State → Prop} (crossing : keyAt x = k)
    (running : s.power = .running) (role : s.post.role = true) (held : s.post.panel = .held k) (down : k ∈ s.post.down)
    (kept : SameOutside c (keyAccepted k s) (keyAct k (keyAccepted k s)))
    (sub : ∀ b, b ∈ ([.post] ++ c) ++ [.line, .outputs] → b ∈ d) (holds : p (settle (keyAct k (keyAccepted k s)))) :
    Changes (.keyUp x) s d p := by
  subst crossing
  exact changes_settled (work := takeKeyUp (keyAt x)) rfl running (takeKeyUp_of_held role held down)
    ((setPost_keeps s _).then kept) sub holds

/-- A queued frame waits on while the post goes on. -/
theorem Waits.of_queue {p : Frame → Prop} (queue : t.line.queue = s.line.queue) (h : Waits s p) : Waits t p := by
  rwa [Waits, queue]

/-- What a Cancel of the selection does with room in the queue (R138). -/
theorem cancelKey_acts (chosen : selected s.post = some e) (placed : strapped s = true) (room : HasRoom s) :
    Waits (cancelKey s) (fun f => f = .cancel (byteOf e.station.val) (wideSlot e.slot) e.seq)
      ∧ (cancelKey s).post =
        if e.silentMark then s.post.boarded (s.post.board.filter (fun x => !x.isFor e.station e.slot)) else s.post := by
  rw [cancelKey_of_selected chosen, if_pos placed, askLine_of_room room]
  exact ⟨(placeNew_waits _ s).of_queue (by rw [removeSilent_line]), removeSilent_post e _⟩

/-- The selection that leaves with its entry (R132). -/
theorem Post.boarded_of_removed {p : Post} (held : p.held = some (e.station, e.slot)) :
    (p.boarded (p.board.filter (fun x => !x.isFor e.station e.slot))).held = none
      ∧ (p.boarded (p.board.filter (fun x => !x.isFor e.station e.slot))).returnTimer = none :=
  Post.boarded_of_leaves held fun x mem => by
    simpa [BoardEntry.isFor, not_and_or, imp_iff_not_or] using (List.mem_filter.1 mem).2

theorem Post.boarded_overflow_of_room {p : Post} {board : List BoardEntry} (room : board.length < 16) :
    (p.boarded board).overflow = false := by
  simp [Post.boarded, Config.boardLimit, room]

theorem testKey_lamp (s : State) : (testKey s).lamp.test = some 0 ∧ (testKey s).lamp.sound = .steady := by
  have testing : (testKey s).lamp.test = some 0 := by
    rw [testKey, decideSound_test, State.turnLamp_lamp, Lamp.turnedFrom_eq]
  have agrees : (testKey s).lamp.sound = soundOf (testKey s) := soundAgrees_decideSound _
  exact ⟨testing, agrees.trans (by simp [soundOf, testing])⟩

/-- The keys of the orders. -/
theorem keyAct_order {o : Order}
    (key : (k = .day ∧ o = .day) ∨ (k = .night ∧ o = .night) ∨ (k = .restore ∧ o = .restore)) :
    keyAct k = commandKey (askLine (.order o)) := by
  obtain ⟨rfl, rfl⟩ | ⟨rfl, rfl⟩ | ⟨rfl, rfl⟩ := key <;> rfl

/-- What an unstrapped post refuses blinks, and asks nothing of the line port (R140). -/
theorem keyAct_unstrapped (unstrapped : strapped s = false)
    (mem : k ∈ [Key.take, .cancel, .hush, .day, .night, .restore]) :
    (keyAct k s).post.blink = some ⟨0, true⟩ ∧ (keyAct k s).line = s.line ∧ SameOutside [.post, .lamp] s (keyAct k s) := by
  have blinks : keyAct k s = startBlink s →
      (keyAct k s).post.blink = some ⟨0, true⟩ ∧ (keyAct k s).line = s.line ∧ SameOutside [.post, .lamp] s (keyAct k s) :=
    fun did => did ▸ ⟨rfl, rfl, (startBlink_keeps s).widen (by decide)⟩
  cases k with
  | take => exact blinks (takeKey_blinks fun _ _ => .inr unstrapped)
  | cancel =>
    cases chosen : selected s.post with
    | none => exact blinks (cancelKey_of_none chosen)
    | some e =>
      have did : keyAct .cancel s = removeSilent e (startBlink s) := by
        rw [show keyAct .cancel s = cancelKey s from rfl, cancelKey_of_selected chosen, unstrapped]
        rfl
      rw [did, removeSilent_blink, removeSilent_line]
      exact ⟨rfl, rfl, (startBlink_keeps s).then (removeSilent_keeps _ e) |>.widen (by decide)⟩
  | hush => exact blinks (hushKey_blinks (.inr unstrapped))
  | day | night | restore => exact blinks (commandKey_blinks (.inr unstrapped))
  | next | test | unused => simp at mem

/-- What a full queue refuses is counted and blinks (R164). -/
theorem keyAct_refused (placed : strapped s = true) (full : ¬HasRoom s)
    (asks : (k = .take ∧ (selected s.post).any (·.state == .raised) = true)
      ∨ (k = .cancel ∧ (selected s.post).isSome = true) ∨ (s.post.authOn = true ∧ k ∈ [Key.day, .night, .restore])) :
    (keyAct k s).post.blink = some ⟨0, true⟩ ∧ (keyAct k s).line = s.line
      ∧ (keyAct k s).counters = (countRefused s).counters := by
  have refused : keyAct k s = startBlink (countRefused s) →
      (keyAct k s).post.blink = some ⟨0, true⟩ ∧ (keyAct k s).line = s.line
        ∧ (keyAct k s).counters = (countRefused s).counters := fun did => did ▸ ⟨rfl, rfl, rfl⟩
  obtain ⟨rfl, raised⟩ | ⟨rfl, chosen⟩ | ⟨authority, order⟩ := asks
  · obtain ⟨e, chosen, raised⟩ := Option.any_eq_true _ _ |>.1 raised
    exact refused (takeKey_of_full chosen (by simpa using raised) placed full)
  · obtain ⟨e, chosen⟩ := Option.isSome_iff_exists.1 chosen
    have did : keyAct .cancel s = removeSilent e (startBlink (countRefused s)) := by
      rw [show keyAct .cancel s = cancelKey s from rfl, cancelKey_of_selected chosen, if_pos placed,
        askLine_of_full full]
    rw [did, removeSilent_blink, removeSilent_line, (removeSilent_keeps _ e).counters_eq]
    exact ⟨rfl, rfl, rfl⟩
  · have ordered : ∀ o, commandKey (askLine (.order o)) s = startBlink (countRefused s) := fun o => by
      rw [commandKey_acts authority placed, askLine_of_full full]
    simp only [List.mem_cons, List.not_mem_nil, or_false] at order
    obtain rfl | rfl | rfl := order <;> exact refused (ordered _)

/-- Settles O44: the released key acts on a station whose panel is Ready again. -/
theorem heldKeyActs : Obligations.HeldKeyActs := by
  intro x k s crossing running role held down
  have panel : (settle (keyAct k (keyAccepted k s))).post.panel = .ready := by
    rw [settle_post]
    exact keyAct_keepsPanel k (keyAccepted k s)
  have row := @changes_heldKey s k x
  refine ⟨fun placed room => ?_, fun unstrapped mem => ?_, fun placed full asks => ?_⟩
  · have room : HasRoom (keyAccepted k s) := room
    have placed : strapped (keyAccepted k s) = true := placed
    have frame := ((keyAct_keeps (keyAccepted k s) k).narrow (b := .counters) (keyAct_counters_of_room room k)).widen
      (d := [.post, .lamp, .line]) (by decide)
    refine row crossing running role held down frame (by decide) ?_
    rw [settle_post] at panel ⊢
    refine ⟨panel, fun e chosen raised key => ?_, fun e chosen other key => ?_, fun e chosen key => ?_,
      fun none_chosen key => ?_, fun o key => ?_, fun key => ?_, fun key => ?_, fun key => ?_, fun key => ?_⟩
    · subst key
      have did := takeKey_of_raised (s := keyAccepted .take s) chosen raised placed room
      rw [show keyAct .take = takeKey from rfl, did]
      exact ⟨((placeNew_waits _ (keyAccepted .take s)).of_queue (by rfl)).settle, rfl, rfl⟩
    · subst key
      have did := takeKey_blinks (s := keyAccepted .take s) fun e' chosen' =>
        .inl (by cases chosen.symm.trans chosen'; exact other)
      rw [show keyAct .take = takeKey from rfl, did]
      rfl
    · subst key
      obtain ⟨waits, post⟩ := cancelKey_acts (s := keyAccepted .cancel s) chosen placed room
      rw [show keyAct .cancel = cancelKey from rfl, post]
      refine ⟨waits.settle, ?_, fun silent => ?_, fun silent chosen => ?_⟩
      · split <;> rfl
      · rw [if_pos silent]
        exact Post.boarded_overflow_of_room
      · rw [if_pos silent]
        exact Post.boarded_of_removed (p := (keyAccepted .cancel s).post) chosen
    · obtain rfl | rfl := key
      · rw [show keyAct .take = takeKey from rfl,
          takeKey_blinks (s := keyAccepted .take s) fun e chosen => by cases none_chosen.symm.trans chosen]
        rfl
      · rw [show keyAct .cancel = cancelKey from rfl, cancelKey_of_none (s := keyAccepted .cancel s) none_chosen]
        rfl
    · rw [keyAct_order key]
      split
      · next authority =>
        rw [commandKey_acts (s := keyAccepted k s) authority placed, askLine_of_room room]
        exact ⟨(placeNew_waits _ _).settle, rfl⟩
      · next none_given =>
        rw [commandKey_blinks (s := keyAccepted k s) (.inl (Bool.not_eq_true _ ▸ none_given))]
        rfl
    · subst key
      split
      · next authority =>
        rw [hushKey_acts (s := keyAccepted .hush s) authority placed, settle_line]
        obtain ⟨-, pending, -⟩ := startSending_line_eqs
          ((keyAccepted .hush s).setLine { (keyAccepted .hush s).line with hushPending := true })
        exact ⟨pending, startSending_no_hush ((keyAccepted .hush s).setLine _)⟩
      · next none_given =>
        rw [hushKey_blinks (s := keyAccepted .hush s) (.inl (Bool.not_eq_true _ ▸ none_given))]
        rfl
    · subst key
      rw [settle_lamp]
      exact testKey_lamp _
    · subst key
      exact ⟨rfl, rfl⟩
    · subst key
      exact ⟨rfl, rfl⟩
  · obtain ⟨blinks, line, frame⟩ := keyAct_unstrapped (s := keyAccepted k s) unstrapped mem
    refine row crossing running role held down frame (by decide) ⟨panel, by rwa [settle_post], ?_, ?_⟩
    · have placed : strapped (keyAct k (keyAccepted k s)) = false := by
        rw [strapped, frame.loader_eq]
        exact unstrapped
      rw [settle_queue_of_unstrapped placed, line]
      rfl
    · rw [settle_line]
      obtain ⟨-, hush, -⟩ := startSending_line_eqs (keyAct k (keyAccepted k s))
      rw [hush, line]
      rfl
  · obtain ⟨blinks, line, counters⟩ := keyAct_refused (s := keyAccepted k s) placed full asks
    refine row crossing running role held down (keyAct_keeps _ k) (by decide) ⟨panel, by rwa [settle_post], ?_, ?_⟩
    · rw [settle_line, startSending_frames, line]
      rfl
    · rw [settle_counters, counters]
      rfl

end Sys2Proof.Machine
end


section
/-! SUPPORT. What the end of a command starts on the line, and the rows of the own frame, the line's conditions, the own
trigger and the bulletin refresh (chapter 9). -/

namespace Sys2Proof.Machine

variable {s t u : State} {f : Frame}

/-! ## What a command's end leaves of the line (R167, R171) -/

/-- With the receiver busy only a held Alert is started. -/
theorem settle_line_of_busy (h : s.line.receiver = .frame ∨ s.line.receiver = .discard ∨ s.line.receiver = .stuck) :
    ∃ d, (settle s).line = { s.line with driving := d } := by
  rw [settle_line, startSending_line_busy h]
  split
  · exact ⟨_, rfl⟩
  · exact ⟨s.line.driving, rfl⟩

theorem settle_line_of_code (h : s.line.receiver = .brk ∨ s.line.receiver = .codeWait) : (settle s).line = s.line := by
  rw [settle_line, startSending_line_code h]

/-- With no Alert held no trigger is started. -/
theorem settle_driving_of_unheld (unheld : s.line.alertHeld = false) : (settle s).line.driving = s.line.driving := by
  obtain ⟨-, -, -, -, -, -, -, driving, -⟩ := startHeadUnlessTaken_line_eqs s
  rw [settle_line, startSending_line_quiet unheld]
  split
  · exact driving
  · rfl

/-! ## A frame or a trigger cut on the line (R160, R168, R170, R173) -/

theorem receiving_of_onLine (sends : s.line.onLine = some f) : receiving s = false := by
  simp [receiving, sends]

theorem onLine_of_receiving (taking : receiving s = true) : s.line.onLine = none := by
  simp [receiving] at taking
  exact taking.2

theorem countCut_of_onLine (wire : List Byte) (sends : s.line.onLine = some f) : countCut wire s = s := by
  simp [countCut, receiving_of_onLine sends]

theorem takeArbitrationLost_sending (driving : s.line.driving = none) (sends : s.line.onLine = some f) :
    takeArbitrationLost s = countArbitrationLost ((dropOwnFrame s).setReceiver .frame) := by
  simp [takeArbitrationLost, sending, driving, sends]

theorem takeTransmitError_sending (cause : BitErrorCause) (sends : s.line.onLine = some f) :
    takeTransmitError cause s =
      if cause = .lineError then countDiscardedFrame (countBitError ((dropOwnFrame s).setReceiver .discard))
      else countBitError ((dropOwnFrame s).setReceiver .discard) := by
  cases cause <;> simp [takeTransmitError, sends]

theorem takeBreak_sending (wire : List Byte) (sends : s.line.onLine = some f) :
    takeBreak wire s = (countAborted (dropOwnFrame s)).setReceiver .brk := by
  simp [takeBreak, countCut_of_onLine wire sends, sends]

theorem takeBreak_receiving (wire : List Byte) (taking : receiving s = true) :
    takeBreak wire s = (countCut wire s).setReceiver .brk := by
  simp [takeBreak, onLine_of_receiving taking]

theorem takeStuck_line (s : State) :
    (takeStuck s).line =
      { s.line with
        queue := landed s.line.queue, onLine := none, receiver := .stuck, driving := none, fault := true } := by
  unfold takeStuck
  dsimp only
  split <;> rfl

theorem takeStuck_counters (s : State) :
    (takeStuck s).counters.stuckLine = if s.line.fault then s.counters.stuckLine else satInc s.counters.stuckLine := by
  unfold takeStuck
  dsimp only
  split <;> rfl

/-- Nothing is driven while the line fault holds, and the relay stands open (R173, R174). -/
theorem settle_of_fault (fault : s.line.fault = true) : (settle s).line = s.line ∧ (settle s).outputs.relay = false := by
  have still : startSending s = s := if_pos fault
  have open' : relayHealthy s = false := by simp [relayHealthy, fault]
  rw [settle_line, settle_outputs, still, outputsOf]
  refine ⟨rfl, ?_⟩
  split
  · exact open'
  · rfl

/-- Settles O18: each cause drops the frame, passes the receiver on and counts. -/
theorem cutFrameStaysQueued : Obligations.CutFrameStaysQueued := by
  intro f wire s running sends
  refine ⟨fun driving => ?_, fun cause => ?_, ?_, ?_⟩
  · refine changes_settled (work := takeArbitrationLost) rfl running (takeArbitrationLost_sending driving sends)
      (((dropOwnFrame_keeps s).trans (setReceiver_keeps _ _)).then (countArbitrationLost_keeps _)) (by decide) ?_
    obtain ⟨d, line⟩ := settle_line_of_busy (s := countArbitrationLost ((dropOwnFrame s).setReceiver .frame)) (.inl (by rfl))
    rw [line, settle_counters]
    exact ⟨rfl, rfl, rfl, rfl⟩
  · refine changes_settled (work := takeTransmitError cause) rfl running rfl (takeTransmitError_keeps s cause) (by decide) ?_
    have receiver : (takeTransmitError cause s).line = { s.line with
        queue := landed s.line.queue, onLine := none, receiver := .discard } := by
      rw [takeTransmitError_sending cause sends]
      split <;> rfl
    obtain ⟨d, line⟩ := settle_line_of_busy (s := takeTransmitError cause s) (.inr (.inl (by rw [receiver])))
    rw [line, settle_counters, receiver, takeTransmitError_sending cause sends]
    cases cause <;> exact ⟨rfl, rfl, rfl, rfl, rfl⟩
  · refine changes_settled (work := takeBreak wire) rfl running (takeBreak_sending wire sends)
      (((dropOwnFrame_keeps s).then (countAborted_keeps _)).then (setReceiver_keeps _ _)) (by decide) ?_
    rw [settle_line_of_code (.inl (by rfl)), settle_counters]
    exact ⟨rfl, rfl, rfl, rfl⟩
  · refine changes_settled (work := takeStuck) rfl running rfl (takeStuck_keeps s) (by decide) ?_
    obtain ⟨line, relay⟩ := settle_of_fault (s := takeStuck s) (by rw [takeStuck_line])
    rw [line, settle_counters, takeStuck_line]
    exact ⟨rfl, rfl, rfl, rfl, rfl, relay, takeStuck_counters s⟩

/-! ## The own trigger (R38, R171) -/

theorem takeHush_control (s : State) :
    (takeHush s).control = { s.control with hushed := s.control.hushed || s.control.posture == .evacuate } := by
  unfold takeHush
  split
  · next inside => rw [setHushed_control, inside]; simp
  · next elsewhere =>
    have quiet : (s.control.posture == .evacuate) = false := by simpa using elsewhere
    rw [quiet, Bool.or_false]

theorem takeDriven_alert (driving : s.line.driving = some .alert) :
    takeDriven s =
      s.setLine { s.line with driving := none, receiver := s.line.receiver.afterBreak, alertHeld := false } := by
  simp [takeDriven, driving]

theorem takeDriven_hush (driving : s.line.driving = some .hush) :
    takeDriven s =
      takeHush
        (s.setLine { s.line with driving := none, receiver := s.line.receiver.afterBreak, hushPending := false }) := by
  simp [takeDriven, driving]

/-- The line port after a lost trigger, by which of the two it was. -/
theorem takeTriggerLost_line {d : Trigger} (cause : TriggerLoss) (driving : s.line.driving = some d) :
    (takeTriggerLost cause s).line =
      if d = .alert then { s.line with receiver := s.line.receiver.afterBreak }
      else
        { s.line with
          driving := none
          receiver :=
            if cause = .driveFailed then s.line.receiver.afterBreak.afterFailedRun
            else s.line.receiver.afterBreak } := by
  unfold takeTriggerLost
  rw [driving]
  cases d <;> cases cause <;> rfl

theorem takeTriggerLost_bitError {d : Trigger} (cause : TriggerLoss) (driving : s.line.driving = some d) :
    (takeTriggerLost cause s).counters.bitError =
      if cause = .driveFailed then satInc s.counters.bitError else s.counters.bitError := by
  unfold takeTriggerLost
  rw [driving]
  cases d <;> cases cause <;> rfl

/-- A trigger under way leaves the line to it. -/
theorem settle_driving_of_alert (driving : s.line.driving = some .alert) : (settle s).line.driving = some .alert := by
  have free : lineFree s.line = false := by simp [lineFree, driving]
  rw [settle_line, startSending]
  simp only [free, Bool.false_and, Bool.false_eq_true, if_false]
  split
  · exact driving
  · split
    · rfl
    · exact driving

/-- Settles O19: the row's own change of the line port, and what the command's end then starts. -/
theorem triggerEnds : Obligations.TriggerEnds := by
  intro s running
  have lost := fun cause => takeTriggerLost_keeps s cause
  refine ⟨fun driving _ => ⟨?_, fun cause => ?_⟩, fun driving => ⟨?_, fun brk cause => ?_, fun mem cause => ?_⟩⟩
  · refine changes_settled (work := takeDriven) rfl running (takeDriven_alert driving) (setLine_keeps s _) (by decide) ?_
    refine ⟨?_, settle_driving_of_unheld (by rfl)⟩
    rw [settle_line]
    exact (startSending_line_eqs _).1
  · refine changes_settled (work := takeTriggerLost cause) rfl running rfl (lost cause) (by decide) ?_
    have line := takeTriggerLost_line cause driving
    rw [if_pos rfl] at line
    refine ⟨settle_driving_of_alert (by rw [line]; exact driving), ?_, ?_⟩
    · rw [settle_line, (startSending_line_eqs _).1, line]
    · rw [settle_counters, takeTriggerLost_bitError cause driving]
  · refine changes_settled (work := takeDriven) rfl running (takeDriven_hush driving)
      ((setLine_keeps s _).then (takeHush_keeps _)) (by decide) ?_
    obtain ⟨-, pending, -⟩ := startSending_line_eqs (takeHush
      (s.setLine { s.line with driving := none, receiver := s.line.receiver.afterBreak, hushPending := false }))
    rw [settle_line, pending, (takeHush_keeps _).line_eq, settle_control, takeHush_control]
    exact ⟨rfl, rfl⟩
  · refine changes_settled (work := takeTriggerLost cause) rfl running rfl (lost cause) (by decide) ?_
    have line := takeTriggerLost_line cause driving
    rw [if_neg (by decide), brk] at line
    have here : (takeTriggerLost cause s).line = { s.line with driving := none, receiver := .codeWait } := by
      rw [line]
      cases cause <;> rfl
    rw [settle_line_of_code (.inr (by rw [here])), settle_counters, takeTriggerLost_bitError cause driving]
    exact ⟨here, rfl⟩
  · refine changes_settled (work := takeTriggerLost cause) rfl running rfl (lost cause) (by decide) ?_
    have line := takeTriggerLost_line cause driving
    rw [if_neg (by decide)] at line
    rw [settle_counters, takeTriggerLost_bitError cause driving]
    refine ⟨?_, rfl⟩
    simp only [List.mem_cons, List.not_mem_nil, or_false] at mem
    obtain busy | code : (s.line.receiver = .frame ∨ s.line.receiver = .discard) ∨ s.line.receiver = .codeWait := by tauto
    · have after : (takeTriggerLost cause s).line =
          { s.line with
            driving := none
            receiver := if s.line.receiver = .frame ∧ cause = .driveFailed then .discard else s.line.receiver } := by
        rw [line]
        obtain frame | discard := busy
        · cases cause <;> simp [frame, Receiver.afterBreak, Receiver.afterFailedRun]
        · cases cause <;> simp [discard, Receiver.afterBreak, Receiver.afterFailedRun]
      have still : (takeTriggerLost cause s).line.receiver = .frame ∨ (takeTriggerLost cause s).line.receiver = .discard
          ∨ (takeTriggerLost cause s).line.receiver = .stuck := by
        rw [after]
        dsimp only
        split
        · exact .inr (.inl rfl)
        · exact busy.elim .inl fun discard => .inr (.inl discard)
      have crosses : alertMayCross (takeTriggerLost cause s).line = true := by rw [after]; rfl
      have uncoded : s.line.receiver ≠ .codeWait := by rcases busy with h | h <;> simp [h]
      rw [settle_line, startSending_line_busy still, crosses, after]
      by_cases starts : s.line.fault = false ∧ s.line.alertHeld = true
      · simp [starts, uncoded]
      · have unheld : ¬(s.line.alertHeld = true ∧ s.line.fault = false ∧ s.line.receiver ≠ .codeWait) :=
          fun h => starts ⟨h.2.1, h.1⟩
        rw [if_neg unheld]
        exact if_neg fun h => starts ⟨h.1, h.2.1⟩
    · rw [settle_line_of_code (.inr (by rw [line, code]; cases cause <;> rfl)), line, code]
      cases cause <;> simp [Receiver.afterBreak, Receiver.afterFailedRun]

/-! ## Another station's frame (R160 to R162, R170, R172) -/

theorem takeFramingError_receiving (wire : List Byte) (taking : receiving s = true) :
    takeFramingError wire s = countDiscardedFrame ((countCut wire s).setReceiver .discard) := if_pos taking

theorem takeFramingError_code (wire : List Byte) (waits : awaitsCode s = true) :
    takeFramingError wire s = s.setReceiver .discard := by
  have code : s.line.receiver = .brk ∨ s.line.receiver = .codeWait := by simpa [awaitsCode] using waits
  have out : receiving s = false := by rcases code with h | h <;> simp [receiving, h]
  unfold takeFramingError
  rw [out]
  rcases code with h | h <;> simp [h]

theorem countCut_counters_of_receiving (wire : List Byte) (taking : receiving s = true) :
    (countCut wire s).counters = headerCounted (cutCorrected wire) s.counters := by
  rw [countCut_counters, taking, Bool.true_and]

/-- With the receiver in Discard nothing but an own Alert may start. -/
theorem settle_of_discard (h : s.line.receiver = .discard) :
    (settle s).line.receiver = .discard ∧ (settle s).line.queue = s.line.queue := by
  obtain ⟨d, line⟩ := settle_line_of_busy (.inr (.inl h))
  rw [line]
  exact ⟨h, rfl⟩

/-- Settles O20: each row ends the frame, counts it, and hands nothing on. -/
theorem receiverEndsInDiscard : Obligations.ReceiverEndsInDiscard := by
  intro wire s running
  refine ⟨fun taking => ⟨?_, ?_, fun lost => ?_, fun corrected discarded => ?_, fun corrected source tag payload accepted => ?_⟩,
    fun waits => ?_⟩
  · refine changes_settled (work := takeFramingError wire) rfl running (takeFramingError_receiving wire taking)
      (((countCut_keeps s wire).then (setReceiver_keeps _ _)).then (countDiscardedFrame_keeps _)) (by decide) ?_
    obtain ⟨receiver, queue⟩ := settle_of_discard (s := countDiscardedFrame ((countCut wire s).setReceiver .discard)) (by rfl)
    have counters : (countDiscardedFrame ((countCut wire s).setReceiver .discard)).counters =
        { (countCut wire s).counters with discardedFrame := satInc (countCut wire s).counters.discardedFrame } := rfl
    have stands : (headerCounted (cutCorrected wire) s.counters).discardedFrame = s.counters.discardedFrame := by
      cases cutCorrected wire <;> rfl
    refine ⟨receiver, queue.trans ?_, ?_⟩
    · have queue : (countCut wire s).line.queue = s.line.queue := by rw [countCut_line]
      exact queue
    · rw [settle_counters, counters, countCut_counters_of_receiving wire taking, stands]
  · refine changes_settled (work := takeBreak wire) rfl running (takeBreak_receiving wire taking)
      ((countCut_keeps s wire).then (setReceiver_keeps _ _)) (by decide) ?_
    rw [settle_line_of_code (.inl (by rfl)), settle_counters]
    have queue : (countCut wire s).line.queue = s.line.queue := by rw [countCut_line]
    exact ⟨rfl, queue, countCut_counters_of_receiving wire taking⟩
  · have did : takeDiscarded wire s = countDiscardedHeader (endFrame false s) := by simp [takeDiscarded, taking, lost]
    refine changes_settled (work := takeDiscarded wire) rfl running did
      ((endFrame_keeps s false).then (countDiscardedHeader_keeps _)) (by decide) ?_
    obtain ⟨receiver, queue⟩ := settle_of_discard (s := countDiscardedHeader (endFrame false s)) (by rfl)
    exact ⟨receiver, queue, by rw [settle_counters]; rfl⟩
  · have did : takeDiscarded wire s = countDiscardedFrame (endFrame corrected s) := by
      simp [takeDiscarded, taking, discarded]
    refine changes_settled (work := takeDiscarded wire) rfl running did
      ((endFrame_keeps s corrected).then (countDiscardedFrame_keeps _)) (by decide) ?_
    rw [endFrame_eq]
    obtain ⟨receiver, queue⟩ := settle_of_discard (s := countDiscardedFrame
      ((s.setReceiver .discard).setCounters (headerCounted corrected s.counters))) (by rfl)
    refine ⟨receiver, queue, ?_⟩
    rw [settle_counters]
    cases corrected <;> rfl
  · have heard : Hears wire corrected source (.answer tag payload) s := ⟨running, taking, accepted⟩
    refine changes_heard (c := []) (want := wantAnswer) rfl heard rfl (.refl [] _) (by decide) ?_
    obtain ⟨receiver, queue⟩ := settle_of_discard (s := endFrame corrected s) (by rw [endFrame_line])
    exact ⟨receiver, queue.trans (by rw [endFrame_line]), by rw [id, settle_counters, endFrame_counters]⟩
  · refine changes_settled (work := takeFramingError wire) rfl running (takeFramingError_code wire waits)
      (setReceiver_keeps s _) (by decide) ?_
    exact settle_of_discard (s := s.setReceiver .discard) (by rfl)

/-! ## Bulletins (R74, R124, R165 to R167) -/

theorem byteOf_numberOf (b7 b6 b5 b4 b3 b2 b1 b0 : Bool) :
    bitsOf (byteOf (numberOf [b7, b6, b5, b4, b3, b2, b1, b0])) = [b7, b6, b5, b4, b3, b2, b1, b0] := by
  revert b7 b6 b5 b4 b3 b2 b1 b0
  decide

theorem openCalls_eq (s : State) : openCalls s = allEight.countP (fun i => (s.calls.slots.get i).isOpen) := by
  rw [openCalls, Eight.toList_eq, List.countP_map]
  rfl

/-- A captured bulletin shows what the station is (spec 11.2). -/
theorem captureBulletin_shows (s : State) : BulletinShows s (captureBulletin s) := by
  have flags := byteOf_numberOf s.hazard.blind ((dirtyHeads s.hazard).toList.any id) s.front.fault s.lamp.sign.fault
    s.lamp.chainA.fault s.lamp.chainB.fault s.peers.duplicate s.loader.profileFault
  simp only [bitsOf, List.cons.injEq, and_true] at flags
  obtain ⟨blind, dirty, front, sign, chainA, chainB, duplicate, profile⟩ := flags
  have leaf := fun n : Fin 4 => Four.get_map shownClass s.doors.leaves n
  refine ⟨rfl, rfl, rfl, blind, ?_, front, sign, chainA, chainB, duplicate, profile, rfl, rfl, rfl, fun n => ⟨?_, ?_⟩,
    by rw [← openCalls_eq]; rfl, fun k => ⟨?_, ?_⟩, rfl⟩
  · rw [show (captureBulletin s).flags.getLsbD 6 = _ from dirty, Four.any_iff]
    refine exists_congr fun k => ?_
    rw [dirtyHeads, Four.get_map]
    cases s.hazard.heads.get k <;> rfl
  · intro c exitDoor links role
    rw [show (captureBulletin s).doors = s.doors.leaves.map shownClass from rfl, Four.get_map, shownClass, role]
  · intro role
    rw [show (captureBulletin s).doors = s.doors.leaves.map shownClass from rfl, Four.get_map, shownClass]
    obtain role | role := role <;> rw [role]
  · intro h head
    simp [captureBulletin, headLevels, faultHeads, dirtyHeads, head]
  · intro head
    simp [captureBulletin, headLevels, faultHeads, dirtyHeads, head]

theorem advertises_its_route (s : State) : AdvertisesItsRoute s := by
  refine ⟨fun fire => ?_, fun calm => ⟨if_neg calm, fun next => ?_, fun next => ?_, fun j e next entry => ?_⟩⟩
  · simp [advertisedCost, advertisedHop, advertisedHops, fire, Config.noRoute]
  · exact ⟨advertisedHop_of_next_none next, advertisedHops_of_next_none next⟩
  · simp [advertisedHop, advertisedHops, calm, next]
  · have entry : s.peers.entries[j.val]? = some e := entry
    simp [advertisedHop, advertisedHops, calm, next, entry]

theorem LinePort.Queues.line {l m : LinePort} {like : Frame → Bool} (h : l.Queues like f m) :
    ∃ q n, m = { l with queue := q, placed := n } := by
  cases h <;> exact ⟨_, _, rfl⟩

/-- Queueing a bulletin changes of the line port the queue, the places given and the count. -/
theorem queueBulletin_line (s : State) :
    ∃ q n, (queueBulletin s).line = { s.line with queue := q, placed := n, bulletins := s.line.bulletins + 1 } := by
  obtain ⟨q, n, line⟩ := (queueReplacing_queues Frame.isBulletin
    (.bulletin (s.hazard.zone == .fire) (s.line.bulletins + 1) (captureBulletin s))
    (s.setLine { s.line with bulletins := s.line.bulletins + 1 })).line
  exact ⟨q, n, line⟩

theorem queueBulletin_keeps_of_room (room : HasRoom s ∨ Waits s (fun f => f.isBulletin = true)) :
    SameOutside [.line] s (queueBulletin s) :=
  ((queueBulletin_keeps s).narrow (b := .counters)
    (queueReplacing_counters (s := s.setLine { s.line with bulletins := s.line.bulletins + 1 }) room)).widen (by decide)

/-- On a line that has been Idle the head entry starts, unless another station's start bit was seen first (R160,
R167). -/
theorem settle_starts_head (numbered : strapped s = true) (loaded : loadComplete s = true) (clear : s.line.fault = false)
    (quiet : s.line.receiver = .quiet) (free : s.line.onLine = none) (rests : s.line.driving = none)
    (unheld : s.line.alertHeld = false) {e : QueueEntry} {rest : List QueueEntry} (queue : s.line.queue = e :: rest) :
    (settle s).line.receiver = .frame ∧ (settle s).line.startBits = s.line.startBits.tail
      ∧ (s.line.startBits.head? = some true → (settle s).line.onLine = none)
      ∧ (s.line.startBits.head? ≠ some true →
          ∃ e rest, (settle s).line.queue = e :: rest ∧ e.inFlight = true ∧ (settle s).line.onLine = some e.frame) := by
  have starts : s.line.fault = false ∧ lineFree s.line = true ∧ hasToSend s = true := by
    simp [clear, lineFree, quiet, free, rests, hasToSend, numbered, loaded, queue]
  rw [settle_line, startSending_line_quiet unheld, if_pos starts]
  unfold startHeadUnlessTaken
  split
  · next bits first =>
    rw [first]
    exact ⟨rfl, rfl, fun _ => free, fun h => absurd rfl h⟩
  · next bits first =>
    have line := startHead_line (s := s.setLine { s.line with startBits := bits }) queue
    rw [first, line]
    exact ⟨rfl, rfl, fun h => by simp at h, fun _ => ⟨_, _, rfl, rfl, rfl⟩⟩
  · next first =>
    rw [first, startHead_line queue]
    exact ⟨rfl, first, fun h => by simp at h, fun _ => ⟨_, _, rfl, rfl, rfl⟩⟩

/-- The line port when the own frame has ended with no mismatch (R169). -/
def frameEnded (s : State) : State :=
  s.setLine
    { s.line with queue := s.line.queue.filter (fun e => !e.inFlight), onLine := none, receiver := .discard }

theorem takeCompletion_sending (driving : s.line.driving = none) (sends : s.line.onLine = some f) :
    takeCompletion s = handCompletion f (frameEnded s) := by
  simp [takeCompletion, sending, driving, sends, frameEnded]

/-- Settles O21: the bulletin is captured as the timer restarts, and the command's end may start it. -/
theorem refreshQueuesABulletin : Obligations.RefreshQueuesABulletin := by
  refine ⟨fun s => ⟨captureBulletin_shows s, advertises_its_route s⟩, fun fire count b s running driving sends => ?_,
    fun n s running runs late room => ?_⟩
  · have did : takeCompletion s = (frameEnded s).setLine { (frameEnded s).line with refresh := some 0 } :=
      takeCompletion_sending driving sends
    refine changes_settled (work := takeCompletion) rfl running did ((setLine_keeps s _).trans (setLine_keeps _ _)) (by decide) ?_
    obtain ⟨d, line⟩ := settle_line_of_busy
      (s := (frameEnded s).setLine { (frameEnded s).line with refresh := some 0 }) (.inr (.inl (by rfl)))
    rw [line]
    exact ⟨rfl, rfl, rfl, rfl, rfl⟩
  · have did : takeRefresh s = (queueBulletin s).setLine { (queueBulletin s).line with refresh := some 0 } :=
      if_pos (due_of_le runs late)
    refine changes_settled (work := takeRefresh) rfl running did
      ((queueBulletin_keeps_of_room room).then (setLine_keeps _ _)) (by decide) ?_
    have waits := (queueBulletin_waits room).of_queue
      (t := (queueBulletin s).setLine { (queueBulletin s).line with refresh := some 0 }) (by rfl)
    obtain ⟨q, placed, line⟩ := queueBulletin_line s
    have frame := queueBulletin_keeps s
    have numbered : strapped (queueBulletin s) = strapped s := by rw [strapped, strapped, frame.loader_eq]
    have loaded : loadComplete (queueBulletin s) = loadComplete s := by
      rw [loadComplete, loadComplete, frame.loader_eq]
    generalize queueBulletin s = v at *
    obtain ⟨-, -, refresh, bulletins, -⟩ := startSending_line_eqs (v.setLine { v.line with refresh := some 0 })
    refine ⟨by rw [settle_line, refresh]; rfl, by rw [settle_line, bulletins, State.setLine_line, line], waits.settle, ?_⟩
    intro strap load clear quiet free rests unheld
    obtain ⟨e, mem, -⟩ := waits
    cases queue : q with
    | nil => simp [line, queue] at mem
    | cons first rest =>
      have started := settle_starts_head (s := v.setLine { v.line with refresh := some 0 }) (numbered.trans strap)
        (loaded.trans load) (by rw [State.setLine_line, line]; exact clear) (by rw [State.setLine_line, line]; exact quiet)
        (by rw [State.setLine_line, line]; exact free) (by rw [State.setLine_line, line]; exact rests)
        (by rw [State.setLine_line, line]; exact unheld) (e := first) (rest := rest)
        (by rw [State.setLine_line, line]; exact queue)
      have bits : (v.setLine { v.line with refresh := some 0 }).line.startBits = s.line.startBits := by
        rw [State.setLine_line, line]
      rwa [bits] at started

end Sys2Proof.Machine
end


section
/-! SUPPORT. What a change of posture leaves to the calls, and the rows of the posture controller: orders, the join wait
and the bulletins that it hears (chapter 2). -/

namespace Sys2Proof.Machine

variable {s t u : State} {source : Station}

/-! ## A change of posture (R25, R110) -/

/-- Leaves whose new records bring no intrusion and no jam ask for no call (R101). -/
theorem setLeaves_calls_of_quiet {new : Four Leaf}
    (quiet : ∀ n, newlyIntruded (s.doors.leaves.get n) (new.get n) = false
      ∧ newlyJammed (s.doors.leaves.get n) (new.get n) = false) : (setLeaves new s).calls = s.calls := by
  have none_asks : ∀ n u, leafRequests n (s.doors.leaves.get n) (new.get n) u = u := fun n u => by
    obtain ⟨intruded, jammed⟩ := quiet n
    simp [leafRequests, intruded, jammed]
  unfold setLeaves
  simp only [none_asks, List.foldl_fixed]
  split
  · rw [(computeRoute_keeps _).calls_eq]
    rfl
  · rfl

/-- A change of the lock demand brings no leaf to an alarm or a jam that it was not in (R84). -/
theorem Leaf.takeDemand_state (demand : Bool) (lf : Leaf) :
    (lf.takeDemand demand).state = lf.state
      ∨ (lf.takeDemand demand).state ∈ [LeafState.closed, .secured, .securing, .releasing] := by
  have shut : (lf.shut demand).state ∈ [LeafState.closed, .secured, .securing, .releasing] := by
    rw [Leaf.shut_state]
    split_ifs <;> simp
  cases demand with
  | false =>
    rw [Leaf.takeDemand_false]
    split
    · exact .inr shut
    · exact .inl rfl
  | true =>
    rw [Leaf.takeDemand_true]
    split
    · exact .inl rfl
    · exact .inr shut

theorem leafUnderPosture_state (v : State) (oldP : Posture) (oldB : Base) (lf : Leaf) :
    (leafUnderPosture v oldP oldB lf).state = lf.state
      ∨ (leafUnderPosture v oldP oldB lf).state ∈ [LeafState.closed, .secured, .securing, .releasing] := by
  have checked : ∀ (d : Bool) (l : Leaf), (l.propChecked d).state = l.state := fun d l => by rw [Leaf.propChecked_eq]
  unfold leafUnderPosture
  dsimp only
  rw [checked]
  split
  · exact .inl rfl
  · exact Leaf.takeDemand_state _ { lf with magnet := magnetNow v lf }

theorem quiet_of_state {old new : Leaf}
    (h : new.state = old.state ∨ new.state ∈ [LeafState.closed, .secured, .securing, .releasing]) :
    newlyIntruded old new = false ∧ newlyJammed old new = false := by
  obtain same | mem := h
  · cases state : old.state <;> simp [newlyIntruded, newlyJammed, same, state, LeafState.isJammed]
  · simp only [List.mem_cons, List.not_mem_nil, or_false] at mem
    rcases mem with state | state | state | state <;>
      simp [newlyIntruded, newlyJammed, state, LeafState.isJammed]

/-- The door unit's part of a change of posture asks for no call. -/
theorem doorsTakePosture_calls (oldP : Posture) (oldB : Base) (s : State) :
    (doorsTakePosture oldP oldB s).calls = s.calls :=
  setLeaves_calls_of_quiet fun n => by
    rw [Four.get_map]
    exact quiet_of_state (leafUnderPosture_state _ _ _ _)

/-- A posture that becomes Night asserts the active Motion inputs, and any other change leaves the calls (R25, R110). -/
theorem setPosture_calls (p : Posture) (b : Base) (s : State) :
    (setPosture p b s).calls =
      if s.control.posture ≠ .night ∧ p = .night then
        (requestMotion (s.setControl { s.control with posture := p, base := b })).calls
      else s.calls := by
  have led := doorsTakePosture_keeps (s.setControl { s.control with posture := p, base := b }) s.control.posture
    s.control.base
  have same : SameCalls (s.setControl { s.control with posture := p, base := b })
      (doorsTakePosture s.control.posture s.control.base (s.setControl { s.control with posture := p, base := b })) :=
    ⟨doorsTakePosture_calls _ _ _, led.loader_eq, led.control_eq⟩
  unfold setPosture
  dsimp only
  split
  · next unchanged => rw [if_neg fun becomes => becomes.1 (unchanged.1.trans becomes.2)]
  · rw [(queueBulletin_keeps _).calls_eq]
    split
    · next kept =>
      rw [if_neg fun becomes => becomes.1 (kept.trans becomes.2), same.calls]
      rfl
    · have shown : ∀ v, (lampTakePosture v).calls = v.calls := fun v => (lampTakePosture_keeps v).calls_eq
      rw [shown, callsTakePosture, same.control]
      split
      · next becomes =>
        rw [if_pos (show s.control.posture ≠ .night ∧ p = .night from becomes)]
        exact same.requestMotion.calls
      · next other =>
        rw [if_neg (show ¬(s.control.posture ≠ .night ∧ p = .night) from other), same.calls]
        rfl

theorem setPosture_brightness_of_change {p : Posture} (b : Base) (change : s.control.posture ≠ p) :
    (setPosture p b s).lamp.brightness = brightnessOf p := by
  have control := congrArg Control.posture (setPosture_control p b s)
  unfold setPosture at control ⊢
  dsimp only at control ⊢
  rw [if_neg fun same => change same.1] at control ⊢
  rw [if_neg change] at control ⊢
  rw [(queueBulletin_keeps _).control_eq] at control
  rw [(queueBulletin_keeps _).lamp_eq, brightnessAgrees_lampTakePosture, control]

/-! ## The join wait (R27) -/

theorem takeJoinExpiry_due {n : Nat} (startup : s.control.posture = .startup) (runs : s.control.joinTimer = some n)
    (late : 20 ≤ n) :
    takeJoinExpiry s = setPosture .night .night (s.setControl { s.control with joinTimer := none }) := by
  have ripe : due s.control.joinTimer Config.joinWait = true := due_of_le runs late
  simp [takeJoinExpiry, ripe, startup]

/-- Settles O12: the expiry is a change of posture to Night. -/
theorem joinWaitEndsInNight : Obligations.JoinWaitEndsInNight := by
  intro n s running startup runs late
  refine changes_settled (work := takeJoinExpiry) rfl running (takeJoinExpiry_due startup runs late)
    ((setControl_keeps s _).then (setPosture_keeps _ _ _)) (by decide) ?_
  have elsewhere : (s.setControl { s.control with joinTimer := none }).control.posture ≠ .night := by
    simp [startup]
  have dim := setPosture_brightness_of_change .night elsewhere
  rw [settle_control, settle_calls, settle_lamp, setPosture_control, setPosture_calls, if_pos ⟨elsewhere, rfl⟩]
  exact ⟨rfl, rfl, dim⟩

/-! ## Day and Night orders (R29, R30) -/

theorem takeBaseOrder_control (b : Base) (s : State) :
    (takeBaseOrder b s).control =
      if s.control.posture = .evacuate then { s.control with base := b, provisionalBase := false }
      else { s.control with posture := b.posture, base := b, joinTimer := none } := by
  unfold takeBaseOrder
  split
  · next inside => rw [setPosture_control, State.setControl_control, ← inside]
  · rw [setPosture_control]
    rfl

theorem takeBaseOrder_calls (b : Base) (s : State) :
    (takeBaseOrder b s).calls =
      if s.control.posture ≠ .night ∧ (takeBaseOrder b s).control.posture = .night then
        (requestMotion (s.setControl (takeBaseOrder b s).control)).calls
      else s.calls := by
  rw [takeBaseOrder_control]
  unfold takeBaseOrder
  by_cases inside : s.control.posture = .evacuate
  · rw [if_pos inside, if_pos inside, setPosture_calls, if_neg (by simp), if_neg (by simp [inside])]
    rfl
  · rw [if_neg inside, if_neg inside, setPosture_calls]
    rfl

/-- Settles O13: a Day or Night order is a change of posture, or in Evacuate of the base alone. -/
theorem baseOrdersSetPostureOrBase : Obligations.BaseOrdersSetPostureOrBase := by
  have ordered : ∀ (i : Instr) (o : Order) (b : Base) (wire : List Byte) (corrected : Bool) (source : Station) (s : State),
      exec i s = whileRunning (receive wire (wantOrder o)) s → takeOrder o = takeBaseOrder b →
      Hears wire corrected source (.order o) s →
      Changes i s [.control, .doors, .calls, .route, .lamp, .line, .counters, .outputs] (fun t =>
        t.control =
            (if s.control.posture = .evacuate then { s.control with base := b, provisionalBase := false }
            else { s.control with posture := b.posture, base := b, joinTimer := none })
          ∧ t.calls =
            if s.control.posture ≠ .night ∧ t.control.posture = .night then
              (requestMotion (s.setControl t.control)).calls
            else s.calls) := by
    intro i o b wire corrected source s row work heard
    refine changes_heard (want := wantOrder o) row heard (if_pos rfl) ?_ (d := [.control, .doors, .calls, .route, .lamp, .line, .counters, .outputs])
      (c := [.control, .doors, .calls, .route, .lamp, .line, .counters]) (by decide) ?_
    · rw [work]
      exact takeBaseOrder_keeps _ b
    · have ended := endFrame_sameCalls corrected s
      have asks := (⟨ended.calls, ended.loader, rfl⟩ : SameCalls (s.setControl (takeBaseOrder b (endFrame corrected s)).control)
        ((endFrame corrected s).setControl (takeBaseOrder b (endFrame corrected s)).control)).requestMotion.calls
      rw [work, settle_control, settle_calls, takeBaseOrder_calls, asks, ended.control, ended.calls]
      refine ⟨?_, rfl⟩
      rw [takeBaseOrder_control, ended.control]
  intro wire corrected source o b i s row heard
  obtain ⟨rfl, rfl, rfl⟩ | ⟨rfl, rfl, rfl⟩ := row
  · exact ordered _ .day .day wire corrected source s rfl rfl heard
  · exact ordered _ .night .night wire corrected source s rfl rfl heard

/-! ## Bulletins at the posture controller (R26, R28, R31, R34, R37) -/

theorem bulletinBase_eq (b : Bulletin) : bulletinBase b = shownBase b := by
  unfold bulletinBase shownBase
  cases b.posture <;> rfl

theorem shownBase_none {b : Bulletin} : shownBase b = none ↔ b.posture = .startup := by
  unfold shownBase
  cases b.posture <;> simp

theorem takeBase_control (b : Bulletin) (s : State) :
    (takeBase b s).control =
      if s.control.provisionalBase then
        { s.control with base := (shownBase b).getD s.control.base, provisionalBase := b.posture == .startup }
      else s.control := by
  unfold takeBase
  rw [bulletinBase_eq]
  cases shown : shownBase b with
  | none =>
    have startup : (b.posture == .startup) = true := by simpa using shownBase_none.1 shown
    simp only [Option.getD_none, startup]
    split
    · next provisional => rw [← provisional]
    · rfl
  | some base =>
    have named : (b.posture == .startup) = false := by
      rw [beq_eq_false_iff_ne]
      exact fun startup => by simp [shownBase_none.2 startup] at shown
    simp only [Option.getD_some, named]
    split
    · rw [setPosture_control]
      rfl
    · rfl

theorem joinedBy_control (source : Station) (s : State) :
    (joinedBy source s).control =
      if source ∈ s.control.fireSet then s.control
      else { s.control with fireSet := joinFireSet source s.control.fireSet, hushed := false } := by
  unfold joinedBy
  by_cases mem : source ∈ s.control.fireSet
  · simp [mem]
  · simp only [List.contains_eq_mem, mem, decide_false, Bool.false_eq_true, if_false, setHushed_control]
    rfl

theorem enterFromFireBulletin_control (b : Bulletin) (startup : s.control.posture = .startup) :
    (enterFromFireBulletin b s).control =
      { s.control with
        posture := .evacuate, base := (shownBase b).getD s.control.base, hushed := false, joinTimer := none
        provisionalBase := s.control.provisionalBase || b.posture == .startup } := by
  unfold enterFromFireBulletin
  rw [bulletinBase_eq]
  cases shown : shownBase b with
  | none => simp [enterEvacuateUnled_control, unledMark, startup, shownBase_none.1 shown]
  | some base =>
    have named : (b.posture == .startup) = false := by
      rw [beq_eq_false_iff_ne]
      exact fun startup => by simp [shownBase_none.2 startup] at shown
    simp [enterEvacuate_control, named]

theorem adopt_control (b : Bulletin) (s : State) :
    (adopt b s).control =
      if b.posture = .startup then s.control
      else
        { s.control with
          posture := b.posture, base := (shownBase b).getD s.control.base, joinTimer := none
          hushed := s.control.hushed && b.posture != .evacuate } := by
  unfold adopt shownBase
  cases b.posture <;> simp [setPosture_control, enterEvacuate_control]

/-- The table's part of a bulletin leaves the posture controller and the loader as they were. -/
theorem handBulletin_control (named : source ≠ 0) (foreign : source ≠ s.loader.station) (b : Bulletin) :
    ∃ v, v.control = s.control ∧ v.loader = s.loader
      ∧ handBulletin source b s = if b.hazard = .fire then takeFireBulletin source b v else takeOrdinaryBulletin source b v := by
  have table := peersTakeBulletin_keeps s source b
  refine ⟨peersTakeBulletin source b s, table.control_eq, table.loader_eq, ?_⟩
  rw [handBulletin, controlTakeBulletin, if_neg (by rw [table.loader_eq]; tauto)]

/-- The posture controller's block after a bulletin that shows Fire (R31, R34, R35). -/
theorem takeFireBulletin_control (source : Station) (b : Bulletin) (s : State) :
    (takeFireBulletin source b s).control =
      if s.control.posture = .evacuate then (takeBase b (joinedBy source s)).control
      else
        { (joinedBy source s).control with
          posture := .evacuate, hushed := false, joinTimer := none
          base := if s.control.posture = .startup then (shownBase b).getD s.control.base else s.control.base
          provisionalBase :=
            s.control.provisionalBase || (s.control.posture == .startup && b.posture == .startup) } := by
  have posture : (joinedBy source s).control.posture = s.control.posture := by rw [joinedBy_control]; split <;> rfl
  have base : (joinedBy source s).control.base = s.control.base := by rw [joinedBy_control]; split <;> rfl
  have mark : (joinedBy source s).control.provisionalBase = s.control.provisionalBase := by
    rw [joinedBy_control]; split <;> rfl
  rw [takeFireBulletin_eq, posture]
  split
  · rfl
  · split
    · next startup =>
      rw [enterFromFireBulletin_control b (posture.trans startup), base, mark, startup]
      rfl
    · next led => simp [enterEvacuate_control, base, ← mark, led]

theorem mem_joinedBy (m source : Station) (s : State) :
    m ∈ (joinedBy source s).control.fireSet ↔ m = source ∨ m ∈ s.control.fireSet := by
  rw [joinedBy_control]
  split
  · next mem => exact ⟨.inr, fun h => h.elim (fun same => same ▸ mem) id⟩
  · exact mem_joinFireSet _ _ _

theorem takeBase_fireSet (b : Bulletin) (s : State) :
    (takeBase b s).control.fireSet = s.control.fireSet ∧ (takeBase b s).control.posture = s.control.posture
      ∧ (takeBase b s).control.hushed = s.control.hushed := by
  rw [takeBase_control]
  split <;> exact ⟨rfl, rfl, rfl⟩

/-- Settles O24: the source joins, and the station enters Evacuate or takes the base while it is provisional. -/
theorem fireHeardMeansEvacuate : Obligations.FireHeardMeansEvacuate := by
  intro wire corrected asFire source count b s heard named foreign fire
  have ended := endFrame_sameCalls corrected s
  obtain ⟨v, control, loader, handed⟩ := handBulletin_control (s := endFrame corrected s) named
    (by rwa [ended.loader]) b
  rw [if_pos fire] at handed
  rw [ended.control] at control
  refine changes_heard (want := wantBulletin asFire) (exec_bulletinRow asFire wire s) heard (if_pos rfl)
    (handBulletin_keeps _ source b) (by decide) ?_
  rw [settle_control, handed]
  have member := fun m => mem_joinedBy m source v
  have joined := joinedBy_control source v
  have after := takeFireBulletin_control source b v
  have based := takeBase_control b (joinedBy source v)
  obtain ⟨set, posture, hushed⟩ := takeBase_fireSet b (joinedBy source v)
  rw [control] at member joined after
  by_cases inside : s.control.posture = .evacuate
  · rw [if_pos inside] at after
    have still : (joinedBy source v).control.posture = .evacuate ∧ (joinedBy source v).control.base = s.control.base
        ∧ (joinedBy source v).control.provisionalBase = s.control.provisionalBase := by
      rw [joined]
      split <;> exact ⟨inside, rfl, rfl⟩
    obtain ⟨evacuates, base, mark⟩ := still
    rw [after]
    refine ⟨posture.trans evacuates, fun m => by rw [set]; exact member m, fun new => ?_,
      fun calm => by simp [inside] at calm, fun calm => by simp [inside] at calm, fun _ => ⟨?_, ?_, fun old => ?_⟩⟩
    · rw [hushed, joined, if_neg new]
    · rw [based, mark, base]
      split <;> [rfl; exact base]
    · rw [based, mark]
      cases provisional : s.control.provisionalBase <;> simp [mark, provisional]
    · rw [hushed, joined, if_pos old]
  · rw [if_neg inside] at after
    rw [after]
    refine ⟨rfl, member, fun _ => rfl, fun calm => ?_, fun startup => ⟨rfl, ?_, ?_⟩, fun h => absurd h inside⟩
    · exact if_neg (by rcases calm with h | h <;> simp [h])
    · exact if_pos startup
    · simp [startup]

/-- Settles O25: the source leaves, and the station adopts in Startup or takes the base while it is provisional. -/
theorem bulletinIsAdoptedInStartup : Obligations.BulletinIsAdoptedInStartup := by
  intro wire corrected asFire source count b s heard named foreign below
  have ended := endFrame_sameCalls corrected s
  obtain ⟨v, control, loader, handed⟩ := handBulletin_control (s := endFrame corrected s) named
    (by rwa [ended.loader]) b
  rw [if_neg below] at handed
  rw [ended.control] at control
  refine changes_heard (want := wantBulletin asFire) (exec_bulletinRow asFire wire s) heard (if_pos rfl)
    (handBulletin_keeps _ source b) (by decide) ?_
  rw [settle_control, handed]
  have left : ∀ m, m ∈ leaveFireSet source s.control.fireSet ↔ m ≠ source ∧ m ∈ s.control.fireSet := fun m => by
    simp [leaveFireSet, and_comm]
  have adopted : ∀ u, u.control.posture = .startup → (takeOrdinaryBulletin source b u).control =
      (adopt b (u.setControl { u.control with fireSet := leaveFireSet source u.control.fireSet })).control :=
    fun u startup => by simp only [takeOrdinaryBulletin, State.setControl_control, startup]
  have based : ∀ u, u.control.posture ≠ .startup → (takeOrdinaryBulletin source b u).control =
      (takeBase b (u.setControl { u.control with fireSet := leaveFireSet source u.control.fireSet })).control :=
    fun u led => by
      cases posture : u.control.posture with
      | startup => exact absurd posture led
      | _ => simp only [takeOrdinaryBulletin, State.setControl_control, posture]
  by_cases startup : s.control.posture = .startup
  · have after := (adopted v (control ▸ startup)).trans (adopt_control b _)
    rw [State.setControl_control, control] at after
    rw [after]
    by_cases silent : b.posture = .startup
    · rw [if_pos silent]
      refine ⟨left, fun _ => startup.trans silent.symm, fun _ spoken => absurd silent spoken,
        fun _ evacuate => by simp [silent] at evacuate, fun _ => by rw [shownBase_none.2 silent]; rfl,
        fun led => absurd startup led, fun led => absurd startup led, fun led => absurd startup led⟩
    · rw [if_neg silent]
      refine ⟨left, fun _ => rfl, fun _ _ => rfl, fun _ evacuate => by simp [shownBase, evacuate], fun _ => rfl,
        fun led => absurd startup led, fun led => absurd startup led, fun led => absurd startup led⟩
  · have after := (based v (control ▸ startup)).trans (takeBase_control b _)
    rw [State.setControl_control, control] at after
    rw [after]
    refine ⟨fun m => ?_, fun h => absurd h startup, fun h => absurd h startup, fun h => absurd h startup,
      fun h => absurd h startup, fun _ => ?_, fun _ settled => ?_, fun _ provisional => ?_⟩
    · split <;> exact left m
    · split <;> rfl
    · rw [if_neg (by simp [settled])]
      rfl
    · rw [if_pos provisional]
      rfl

end Sys2Proof.Machine
end


section
/-! SUPPORT. What the blocks' operations leave of the line port beside the transmit queue, and the rows of the code bytes,
the Idle line, the peer table's timers and the own number (chapters 3 and 9). -/

namespace Sys2Proof.Machine

variable {c : List Block} {s t u : State} {R : State → State → Prop}

/-! ## Operations that reach the line port by the transmit queue alone -/

/-- A relation that the queueing of a bulletin or a notice keeps, that a change of posture keeps, and that reads of the
lamps no more than the supervised chains. -/
structure QueueRule (W : List Block) (R : State → State → Prop) : Prop extends NoticeRule W R where
  clear : [Block.hazard, .front, .doors, .route].all (· ∉ W) = true
  bulletin : ∀ s, R s (queueBulletin s)
  control : ∀ s x, x.alertPending = s.control.alertPending → R s (s.setControl x)
  lamp : ∀ s x, x.sign = s.lamp.sign → x.chainA = s.lamp.chainA → x.chainB = s.lamp.chainB → R s (s.setLamp x)

namespace QueueRule

variable {W : List Block} (r : QueueRule W R)
include r

theorem notices : NoticeRule W R := r.toNoticeRule

theorem apart {l : List Block} (part : l.all (· ∈ [Block.hazard, .front, .doors, .route]) = true) : l.all (· ∉ W) = true :=
  List.all_eq_true.2 fun b mem =>
    List.all_eq_true.1 r.clear b (of_decide_eq_true (List.all_eq_true.1 part b mem))

theorem deriveLamps (s : State) : R s (Machine.deriveLamps s) := by
  obtain ⟨-, -, -, sign, chainA, chainB⟩ := deriveLamps_light s
  exact r.lamp s (Machine.deriveLamps s).lamp sign chainA chainB

theorem decideSound (s : State) : R s (Machine.decideSound s) :=
  r.ite (r.refl s) (r.lamp s { s.lamp with sound := soundOf s, soundOn := true } rfl rfl rfl)

theorem lampTakePosture (s : State) : R s (Machine.lampTakePosture s) :=
  r.trans (r.trans (r.lamp s { s.lamp with brightness := brightnessOf s.control.posture } rfl rfl rfl) (r.deriveLamps _))
    (r.decideSound _)

theorem computeRouteFrom (before : Nat) (s : State) : R s (Machine.computeRouteFrom before s) := by
  unfold Machine.computeRouteFrom
  dsimp only
  have chosen : R s (s.setRoute (routeOf s)) := r.outside (setRoute_keeps s _) (r.apart rfl)
  refine r.trans chosen ?_
  generalize s.setRoute (routeOf s) = v
  have shown : R v (if (routeOf s).next = s.route.next then v else Machine.deriveLamps v) :=
    r.ite (r.refl v) (r.deriveLamps v)
  exact r.trans shown (r.ite (r.refl _) (r.bulletin _))

theorem setLeaves (new : Four Leaf) (s : State) : R s (Machine.setLeaves new s) := by
  unfold Machine.setLeaves
  dsimp only
  have stood : R s (s.setDoors { s.doors with leaves := new }) := r.outside (setDoors_keeps s _) (r.apart rfl)
  have requests : ∀ n old lf u, R u (leafRequests n old lf u) := fun n old lf u =>
    r.trans (r.ite (r.notices.requestCall _ u) (r.refl u)) (r.ite (r.notices.requestCall _ _) (r.refl _))
  refine r.trans (r.trans stood (r.foldl (fun u n => leafRequests n (s.doors.leaves.get n) (new.get n) u)
    (fun u n => requests n _ _ u) allFour _)) ?_
  exact r.ite (r.computeRouteFrom _ _) (r.refl _)

theorem setPosture (p : Posture) (b : Base) (s : State) : R s (Machine.setPosture p b s) := by
  unfold Machine.setPosture
  dsimp only
  refine r.ite (r.refl s) (r.trans ?_ (r.bulletin _))
  have led : R s (doorsTakePosture s.control.posture s.control.base
      (s.setControl { s.control with posture := p, base := b })) :=
    r.trans (r.control s { s.control with posture := p, base := b } rfl) (r.setLeaves _ _)
  refine r.trans led (r.ite (r.refl _) ?_)
  exact r.trans (r.ite (r.notices.requestMotion _) (r.refl _)) (r.lampTakePosture _)

theorem enterEvacuate (b : Base) (s : State) : R s (Machine.enterEvacuate b s) :=
  r.trans (r.control s { s.control with hushed := false, joinTimer := none } rfl) (r.setPosture _ _ _)

theorem enterEvacuateUnled (s : State) : R s (Machine.enterEvacuateUnled s) :=
  r.ite (r.trans (r.control s { s.control with provisionalBase := true } rfl) (r.enterEvacuate _ _)) (r.enterEvacuate _ s)

theorem takeAlert (s : State) : R s (Machine.takeAlert s) := r.ite (r.refl s) (r.enterEvacuateUnled s)

theorem setHushed (b : Bool) (s : State) : R s (Machine.setHushed b s) :=
  r.ite (r.refl s)
    (r.trans (r.control s { s.control with hushed := b } rfl) (r.decideSound _))

theorem takeHush (s : State) : R s (Machine.takeHush s) := r.ite (r.setHushed true s) (r.refl s)

theorem takeBaseOrder (b : Base) (s : State) : R s (Machine.takeBaseOrder b s) :=
  r.ite (r.trans (r.control s { s.control with provisionalBase := false } rfl) (r.setPosture _ _ _))
    (r.trans (r.control s { s.control with joinTimer := none } rfl) (r.setPosture _ _ _))

/-- The own fire, for a relation that the Alert request keeps (R32). -/
theorem takeOwnFire (alert : ∀ u, R u (makeAlertRequest u)) (s : State) : R s (Machine.takeOwnFire s) := by
  unfold Machine.takeOwnFire
  dsimp only
  refine r.trans (r.trans ?_ (r.ite (r.refl _) (r.enterEvacuateUnled _))) (alert _)
  exact r.trans (r.control s { s.control with fireSet := joinFireSet s.loader.station s.control.fireSet } rfl)
    (r.setHushed false _)

/-- The zone hazard's recomputation, for a zone that does not become Fire or a relation that the own fire keeps (R20). -/
theorem recomputeZone (fire : zoneOf s.hazard = .fire → ∀ u, R u (makeAlertRequest u)) : R s (Machine.recomputeZone s) := by
  unfold Machine.recomputeZone
  dsimp only
  refine r.ite (r.refl s) ?_
  have shown : R s (queueBulletin (s.setHazard { s.hazard with zone := zoneOf s.hazard })) :=
    r.trans (r.outside (setHazard_keeps s _) (r.apart rfl)) (r.bulletin _)
  refine r.trans ?_ (r.outside (evaluateMagnets_keeps _) (r.apart rfl))
  refine r.trans ?_ (r.computeRouteFrom _ _)
  split
  · next becomes => exact r.trans shown (r.takeOwnFire (fire becomes) _)
  · exact shown

theorem evaluateBlind (s : State) : R s (Machine.evaluateBlind s) :=
  r.ite (r.refl s) (r.trans (r.outside (setHazard_keeps s _) (r.apart rfl)) (r.bulletin _))

end QueueRule

/-! ## What stands of the line port (R163) -/

/-- The receiver and what the station drives stand, and in the queue an entry is new at a new place, or stands at an old
one and is in flight only if it was. -/
structure LinePort.Stands (l m : LinePort) : Prop where
  receiver : m.receiver = l.receiver
  onLine : m.onLine = l.onLine
  driving : m.driving = l.driving
  fault : m.fault = l.fault
  refresh : m.refresh = l.refresh
  hush : m.hushPending = l.hushPending
  placed : l.placed ≤ m.placed
  entries : ∀ x ∈ m.queue, (l.placed ≤ x.place ∧ x.inFlight = false)
    ∨ ∃ old ∈ l.queue, old.place = x.place ∧ (x.inFlight = true → old.inFlight = true)

namespace LinePort.Stands

variable {l m n : LinePort}

theorem refl (l : LinePort) : l.Stands l :=
  ⟨rfl, rfl, rfl, rfl, rfl, rfl, le_refl _, fun x mem => .inr ⟨x, mem, rfl, id⟩⟩

theorem trans (h : l.Stands m) (k : m.Stands n) : l.Stands n := by
  refine ⟨k.receiver.trans h.receiver, k.onLine.trans h.onLine, k.driving.trans h.driving, k.fault.trans h.fault,
    k.refresh.trans h.refresh, k.hush.trans h.hush, h.placed.trans k.placed, fun x mem => ?_⟩
  obtain ⟨new, landed⟩ | ⟨mid, mem, place, flight⟩ := k.entries x mem
  · exact .inl ⟨h.placed.trans new, landed⟩
  · obtain ⟨new, landed⟩ | ⟨old, mem, same, flew⟩ := h.entries mid mem
    · refine .inl ⟨place ▸ new, ?_⟩
      by_contra flies
      simp [flight (by simpa using flies)] at landed
    · exact .inr ⟨old, mem, same.trans place, flew ∘ flight⟩

theorem of_queues {like : Frame → Bool} {f : Frame} (h : l.Queues like f m) : l.Stands m := by
  have stays : ∀ {x : QueueEntry}, x ∈ l.queue → (l.placed ≤ x.place ∧ x.inFlight = false)
      ∨ ∃ old ∈ l.queue, old.place = x.place ∧ (x.inFlight = true → old.inFlight = true) :=
    fun mem => .inr ⟨_, mem, rfl, id⟩
  cases h with
  | replaced e here =>
    refine ⟨rfl, rfl, rfl, rfl, rfl, rfl, le_refl _, fun x mem => ?_⟩
    obtain rfl | mem := mem_insertEntry.1 mem
    · exact .inr ⟨e, here, rfl, by simp⟩
    · exact stays (List.mem_of_mem_filter mem)
  | placed =>
    refine ⟨rfl, rfl, rfl, rfl, rfl, rfl, Nat.le_succ _, fun x mem => ?_⟩
    obtain rfl | mem := mem_insertEntry.1 mem
    · exact .inl ⟨le_refl _, rfl⟩
    · exact stays mem
  | evicting =>
    refine ⟨rfl, rfl, rfl, rfl, rfl, rfl, Nat.le_succ _, fun x mem => ?_⟩
    obtain rfl | mem := mem_insertEntry.1 mem
    · exact .inl ⟨le_refl _, rfl⟩
    · exact stays (List.mem_of_mem_filter mem)
  | unchanged => exact refl l

end LinePort.Stands

theorem stands_rule : QueueRule [.line, .control] (fun s t => s.line.Stands t.line) where
  beside := rfl
  clear := rfl
  lamp s _ _ _ _ := .refl s.line
  trans := .trans
  outside h clear := by
    rw [h.line_eq fun mem => absurd (List.all_eq_true.1 clear _ mem) (by decide)]
    exact .refl _
  bulletin s := by
    have counted : s.line.Stands { s.line with bulletins := s.line.bulletins + 1 } :=
      ⟨rfl, rfl, rfl, rfl, rfl, rfl, le_refl _, fun x mem => .inr ⟨x, mem, rfl, id⟩⟩
    exact counted.trans (.of_queues (queueReplacing_queues _ _ (s.setLine _)))
  notice _ _ s := .of_queues (queueReplacing_queues _ _ s)
  control s _ _ := .refl s.line

/-- The held Alert and the Alert's mark stand. -/
def KeepsAlert (s t : State) : Prop :=
  t.line.alertHeld = s.line.alertHeld ∧ t.control.alertPending = s.control.alertPending

theorem keepsAlert_rule : QueueRule [.line, .control] KeepsAlert where
  beside := rfl
  clear := rfl
  lamp _ _ _ _ _ := ⟨rfl, rfl⟩
  trans h k := ⟨k.1.trans h.1, k.2.trans h.2⟩
  outside h clear := by
    have out : ∀ b ∈ [Block.line, .control], b ∉ _ := fun b mem k => absurd mem (by simpa using List.all_eq_true.1 clear b k)
    exact ⟨by rw [h.line_eq (out _ (by decide))], by rw [h.control_eq (out _ (by decide))]⟩
  bulletin s := by
    obtain ⟨q, n, line⟩ := queueBulletin_line s
    exact ⟨by rw [line], by rw [(queueBulletin_keeps s).control_eq]⟩
  notice count n s := by
    obtain ⟨q, m, line⟩ := (queueReplacing_queues (Frame.isNoticeOf n.slot) (.notice count n) s).line
    exact ⟨by rw [queueNotice, line], by rw [(queueNotice_keeps s count n).control_eq]⟩
  control _ _ mark := ⟨rfl, mark⟩

/-! ## Code bytes (R36, R38, R172) -/

theorem takeAlert_control (s : State) :
    (takeAlert s).control =
      if s.control.posture = .evacuate then s.control
      else
        { s.control with
          posture := .evacuate, hushed := false, joinTimer := none
          provisionalBase := s.control.provisionalBase || s.control.posture == .startup } := by
  unfold takeAlert
  split
  · rfl
  · have mark : unledMark s.control = (s.control.provisionalBase || s.control.posture == .startup) := by
      rw [unledMark, Bool.or_comm]
      rfl
    rw [enterEvacuateUnled_control, mark]

theorem takeCode_waiting {hand : State → State} (waits : awaitsCode s = true) :
    takeCode hand s = hand (s.setReceiver .discard) := if_pos waits

/-- A hand-off that stands by the receiver leaves it in Discard. -/
theorem settle_discard_of_stands (stands : (s.setReceiver .discard).line.Stands u.line) :
    (settle u).line.receiver = .discard := (settle_of_discard (s := u) stands.receiver).1

/-- Settles O15: the code's hand-off finds the receiver in Discard. -/
theorem codeBytesAreTaken : Obligations.CodeBytesAreTaken := by
  intro code s running waits
  have discards := settle_of_discard (s := s.setReceiver .discard) (by rfl)
  refine ⟨?_, ?_, fun notAlert notHush => ?_, ?_⟩
  · refine changes_settled (work := takeCode takeAlert) rfl running (takeCode_waiting waits)
      ((setReceiver_keeps s _).then (takeAlert_keeps _)) (by decide) ⟨settle_discard_of_stands (stands_rule.takeAlert _), ?_⟩
    rw [settle_control, takeAlert_control]
    rfl
  · refine changes_settled (work := takeCode takeHush) rfl running (takeCode_waiting waits)
      ((setReceiver_keeps s _).then (takeHush_keeps _)) (by decide) ⟨settle_discard_of_stands (stands_rule.takeHush _), ?_⟩
    rw [settle_control, takeHush_control]
    rfl
  · have other : ¬(code = Config.alertCode ∨ code = Config.hushCode) := not_or.2 ⟨notAlert, notHush⟩
    exact changes_settled (work := takeOtherCode code) rfl running ((if_neg other).trans (takeCode_waiting waits))
      (setReceiver_keeps s _) (by decide) discards.1
  · exact changes_settled (work := fun s => if awaitsCode s then s.setReceiver .discard else s) rfl running (if_pos waits)
      (setReceiver_keeps s _) (by decide) discards.1

/-! ## The own number and number 0 (R46, R54, R55, R174) -/

/-- The counter of duplicates stands. -/
def KeepsDuplicates (s t : State) : Prop := t.counters.duplicate = s.counters.duplicate

theorem queueReplacing_duplicates (like : Frame → Bool) (f : Frame) (s : State) :
    KeepsDuplicates s (queueReplacing like f s) := by
  unfold queueReplacing KeepsDuplicates
  split
  · rfl
  · split
    · rfl
    · split <;> rfl

theorem keepsDuplicates_rule : NoticeRule [.counters] KeepsDuplicates where
  trans h k := k.trans h
  outside h clear := by
    rw [KeepsDuplicates, h.counters_eq fun mem => absurd (List.all_eq_true.1 clear _ mem) (by decide)]
  beside := rfl
  notice _ _ s := queueReplacing_duplicates _ _ s

theorem queueBulletin_duplicates (s : State) : KeepsDuplicates s (queueBulletin s) :=
  queueReplacing_duplicates _ _ (s.setLine { s.line with bulletins := s.line.bulletins + 1 })

/-- The station once a foreign bulletin with its number has been counted (R54, R55). -/
def duplicateSeen (s : State) : State :=
  countDuplicate (s.setPeers { s.peers with duplicate := true, duplicateTimer := some 0 })

theorem takeForeign_eq (s : State) :
    takeForeign s =
      if s.peers.duplicate then duplicateSeen s else queueBulletin (requestCall .duplicate (duplicateSeen s)) := rfl

theorem takeForeign_keeps_few (s : State) :
    SameOutside [.calls, .line, .counters] (duplicateSeen s) (takeForeign s) := by
  rw [takeForeign_eq]
  exact .ite (.refl _ _) ((requestCall_keeps _ _).trans ((queueBulletin_keeps _).widen (by decide)))

theorem takeForeign_duplicates (s : State) : (takeForeign s).counters.duplicate = satInc s.counters.duplicate := by
  have w := keepsDuplicates_rule.toWatches
  have kept : KeepsDuplicates (duplicateSeen s) (takeForeign s) := by
    rw [takeForeign_eq]
    exact w.ite (w.refl _) (w.trans (keepsDuplicates_rule.requestCall _ _) (queueBulletin_duplicates _))
  exact kept

theorem takeForeign_call (first : s.peers.duplicate = false) : hasCall (takeForeign s) .duplicate = true := by
  rw [takeForeign_eq, first, if_neg Bool.false_ne_true, hasCall_congr (queueBulletin_keeps _).calls_eq]
  exact hasCall_requestCall _ _

/-- The relay stands open while the Duplicate fault holds (R174). -/
theorem settle_relay_of_duplicate (duplicate : s.peers.duplicate = true) : (settle s).outputs.relay = false := by
  have peers : (startSending s).peers = s.peers := (startSending_keeps s).peers_eq
  rw [settle_outputs, outputsOf]
  split
  · simp [relayHealthy, peers, duplicate]
  · rfl

/-- Settles O23: number 0 is disregarded at both blocks, the own number at the posture controller. -/
theorem ownNumberIsADuplicate : Obligations.OwnNumberIsADuplicate := by
  intro wire corrected asFire source count b s heard
  have row := exec_bulletinRow asFire wire s
  refine ⟨fun zero => ?_, fun named own => ?_⟩
  · have nothing : handBulletin source b (endFrame corrected s) = endFrame corrected s := by
      simp [handBulletin, peersTakeBulletin, controlTakeBulletin, zero]
    refine changes_heard (c := []) (want := wantBulletin asFire) row heard (if_pos rfl) (by rw [nothing]; exact .refl [] _)
      (by decide) ?_
    rw [nothing, settle_counters, endFrame_counters]
  · have handed : handBulletin source b (endFrame corrected s) = takeForeign (endFrame corrected s) := by
      have number : (takeForeign (endFrame corrected s)).loader.station = source := by
        rw [(takeForeign_keeps_few _).loader_eq, own]
        exact congrArg Loader.station (endFrame_loader corrected s)
      have table : peersTakeBulletin source b (endFrame corrected s) = takeForeign (endFrame corrected s) := by
        rw [peersTakeBulletin, if_neg named, endFrame_loader, if_pos own]
      rw [handBulletin, table, controlTakeBulletin, if_pos (.inr number.symm)]
    have frame := takeForeign_keeps_few (endFrame corrected s)
    have peers : (takeForeign (endFrame corrected s)).peers = { s.peers with duplicate := true, duplicateTimer := some 0 } := by
      rw [frame.peers_eq, ← endFrame_peers corrected s]
      rfl
    refine changes_heard (want := wantBulletin asFire) row heard (if_pos rfl) (c := [.peers, .calls, .line, .counters])
      (by rw [handed]; exact takeForeign_keeps _) (by decide) ?_
    rw [handed, settle_peers, settle_counters, peers, takeForeign_duplicates, endFrame_counters]
    refine ⟨rfl, by cases corrected <;> rfl, settle_relay_of_duplicate (by rw [peers]), fun first => ?_⟩
    rw [hasCall_congr (settle_calls _)]
    exact takeForeign_call (by rwa [endFrame_peers])

/-! ## The peer table's timers (R50, R51, R56) -/

theorem ageEntry_of_due {j : Fin 8} {e : Entry} {n limit : Nat} {before after : EntryStatus}
    (entry : entryAt s j = some e) (age : e.age = some n) (status : e.status = before) (late : limit ≤ n) :
    ageEntry j before after limit s = computeRoute (s.setEntry j { e with status := after }) := by
  unfold ageEntry
  rw [entry]
  exact if_pos (by simp [status, due_of_le age late])

theorem ageEntry_of_undue {j : Fin 8} {e : Entry} {n limit : Nat} {before after : EntryStatus}
    (entry : entryAt s j = some e) (age : e.age = some n) (h : e.status ≠ before ∨ n < limit) :
    ageEntry j before after limit s = s := by
  unfold ageEntry
  rw [entry]
  refine if_neg ?_
  obtain other | early := h
  · simp [other]
  · simp [due_of_lt age early]

/-- An expiry that is due makes one update of the table, of which the route unit is told. -/
theorem ageEntry_changes {i : Instr} {j : Fin 8} {e : Entry} {n limit : Nat} {before after : EntryStatus}
    (row : exec i s = whileRunning (ageEntry j before after limit) s) (running : s.power = .running)
    (entry : entryAt s j = some e) (age : e.age = some n) (status : e.status = before) (late : limit ≤ n) :
    Changes i s [.peers, .route, .lamp, .line, .counters, .outputs] (fun t =>
      t.peers = { s.peers with entries := s.peers.entries.set j.val { e with status := after } }) := by
  refine changes_settled (c := [.peers] ++ [.route, .lamp, .line, .counters]) row running
    (ageEntry_of_due entry age status late)
    ((setPeers_keeps s _).then (computeRoute_keeps _)) (by decide) ?_
  rw [settle_peers, (computeRoute_keeps _).peers_eq]
  rfl

/-- Settles O26: a due expiry updates the table, and any other does nothing. -/
theorem peerTimersExpire : Obligations.PeerTimersExpire := by
  refine ⟨fun j e n s running entry age => ⟨fun status late => ?_, fun status late => ?_, fun h => ?_, fun h => ?_⟩,
    fun m s running runs => ⟨fun late => ?_, fun early => ?_⟩⟩
  · exact ageEntry_changes (limit := Config.staleAge) rfl running entry age status late
  · exact ageEntry_changes (limit := Config.lostAge) rfl running entry age status late
  · exact changes_nothing (work := ageEntry j .current .stale Config.staleAge) rfl running (ageEntry_of_undue entry age h) trivial
  · exact changes_nothing (work := ageEntry j .stale .lost Config.lostAge) rfl running (ageEntry_of_undue entry age h) trivial
  · have did : takeDuplicateExpiry s
        = queueBulletin (s.setPeers { s.peers with duplicate := false, duplicateTimer := none }) :=
      if_pos (due_of_le runs late)
    refine changes_settled (work := takeDuplicateExpiry) rfl running did ((setPeers_keeps s _).then (queueBulletin_keeps _))
      (by decide) ?_
    obtain ⟨q, n, line⟩ := queueBulletin_line (s.setPeers { s.peers with duplicate := false, duplicateTimer := none })
    rw [settle_peers, settle_counters, settle_line, (queueBulletin_keeps _).peers_eq, queueBulletin_duplicates]
    obtain ⟨-, -, -, bulletins, -⟩ := startSending_line_eqs
      (queueBulletin (s.setPeers { s.peers with duplicate := false, duplicateTimer := none }))
    exact ⟨rfl, by rw [bulletins, line]; rfl, rfl⟩
  · have undue : due s.peers.duplicateTimer Config.duplicateTime = false := due_of_lt runs early
    exact changes_nothing (work := takeDuplicateExpiry) rfl running (if_neg (by rw [undue]; decide)) trivial

/-! ## The Idle line (R140, R160, R167, R171, R173) -/

theorem changes_lineIdle {d : List Block} {p : State → Prop} (running : s.power = .running) (kept : SameOutside c s (takeIdle s))
    (sub : ∀ b, b ∈ c ++ [.line, .outputs] → b ∈ d) (holds : p (settleAtIdle (takeIdle s))) : Changes .lineIdle s d p :=
  ⟨settleAtIdle (takeIdle s), if_pos running, (kept.then (settleAtIdle_keeps _)).widen sub, holds⟩

theorem settleAtIdle_line (s : State) : (settleAtIdle s).line = (startAtIdle s).line := rfl

theorem takeIdle_clear (mem : s.line.receiver ∈ [Receiver.discard, .quiet, .stuck]) (clear : s.line.fault = false) :
    takeIdle s = s.setReceiver .quiet := by
  have still : (s.setReceiver .quiet).line.fault = false := clear
  simp only [List.mem_cons, List.not_mem_nil, or_false] at mem
  unfold takeIdle
  rcases mem with h | h | h <;> rw [h] <;> simp [still]

theorem takeIdle_fault (stuck : s.line.receiver = .stuck) (fault : s.line.fault = true) :
    takeIdle s = clearLineFault (s.setReceiver .quiet) := by
  have still : (s.setReceiver .quiet).line.fault = true := fault
  unfold takeIdle
  rw [stuck]
  simp [still]

/-- A held Alert is driven as the line comes Idle, where no trigger is under way (R171). -/
theorem startAtIdle_alert (clear : s.line.fault = false) (quiet : s.line.receiver = .quiet) (rests : s.line.driving = none)
    (holds : s.line.alertHeld = true) :
    (startAtIdle s).line = { s.line with receiver := .frame, driving := some .alert } := by
  have starts : alertStarts s.line = true := by simp [alertStarts, alertMayCross, quiet, rests, holds]
  have did : startAtIdle s = startAlert s := by
    unfold startAtIdle
    rw [if_neg (by simp [clear]), if_pos starts]
  rw [did]
  simp [startAlert, quiet, Receiver.ownStart]

theorem startAtIdle_free (clear : s.line.fault = false) (quiet : s.line.receiver = .quiet) (rests : s.line.driving = none)
    (free : s.line.onLine = none) (unheld : s.line.alertHeld = false) :
    startAtIdle s =
      if s.line.hushPending then s.setLine { s.line with driving := some .hush, receiver := .frame }
      else if hasToSend s then startHead s
      else s := by
  have waits : ¬alertStarts s.line = true := by simp [alertStarts, unheld]
  have idle : lineFree s.line = true := by simp [lineFree, rests, free, quiet]
  unfold startAtIdle
  rw [if_neg (by simp [clear]), if_neg waits, if_pos idle]

/-! ## A request's call in the queue (R163, R164) -/

/-- Queueing a frame whose like waits leaves the queue no longer, and else it is longer by one at most. -/
theorem queueReplacing_length (like : Frame → Bool) (f : Frame) (s : State) :
    (queueReplacing like f s).line.queue.length ≤ s.line.queue.length + 1
      ∧ (Waits s (fun g => like g = true) →
          (queueReplacing like f s).line.queue.length ≤ s.line.queue.length) := by
  have queued := queueReplacing_queues like f s
  generalize (queueReplacing like f s).line = m at queued
  have shorter : ∀ {p : QueueEntry → Bool} {e : QueueEntry}, e ∈ s.line.queue → p e = false →
      (s.line.queue.filter p).length + 1 ≤ s.line.queue.length := fun mem out => filter_length_lt mem out
  cases queued with
  | replaced e mem alike =>
    have := shorter (p := fun e => !like e.frame) mem (by simp [alike])
    rw [length_insertEntry]
    exact ⟨by omega, fun _ => by omega⟩
  | placed fresh =>
    rw [length_insertEntry]
    exact ⟨le_refl _, fun ⟨e, mem, alike⟩ => absurd alike (by simp [fresh e mem])⟩
  | evicting fresh victim mem =>
    have := shorter (p := fun e => e.place != victim.place) mem (by simp)
    rw [length_insertEntry]
    exact ⟨by omega, fun _ => by omega⟩
  | unchanged => exact ⟨Nat.le_succ _, fun _ => le_refl _⟩

/-- A raised call's notices take one place in the queue, the Cleared notice of an evicted call being replaced (R113,
R163). -/
theorem requestCall_queue_length (src : Source) (room : s.line.queue.length ≤ 10) :
    (requestCall src s).line.queue.length ≤ 11 := by
  have raised : ∀ (i : Fin 8) (v : State), (raiseInto i src v).line.queue.length ≤ v.line.queue.length + 1
      ∧ (Waits v (fun f => f.isNoticeOf i = true) →
          (raiseInto i src v).line.queue.length ≤ v.line.queue.length) := fun i v => by
    rw [raiseInto_eq]
    exact queueReplacing_length (Frame.isNoticeOf i) _ (v.setSlot i (raisedSlot v i src))
  unfold requestCall
  split
  · omega
  · unfold raiseCall
    split
    · next i _ =>
      have := (raised i s).1
      omega
    · split
      · next i _ =>
        have has : HasRoom s := by
          have : s.line.queue.length < Config.queueLimit := by rw [Config.queueLimit]; omega
          exact this
        have waits : Waits (queueCleared i s) (fun f => f.isNoticeOf i = true) := by
          obtain ⟨e, mem, here⟩ := queueNotice_waits (s := s) (n := clearedNotice i (s.calls.slots.get i))
            (count := (s.calls.slots.get i).notices + 1) (.inl has)
          exact ⟨e, mem, by rw [here]; simp [Frame.isNoticeOf, clearedNotice]⟩
        have longer : (queueCleared i s).line.queue.length ≤ s.line.queue.length + 1 :=
          (queueReplacing_length (Frame.isNoticeOf i) _ s).1
        have pended : (pendIfAsserted (s.calls.slots.get i).source (queueCleared i s)).line = (queueCleared i s).line :=
          (pendIfAsserted_keeps _ _).line_eq
        have := (raised i (pendIfAsserted (s.calls.slots.get i).source (queueCleared i s))).2
          (waits.of_queue (by rw [pended]))
        rw [pended] at this
        omega
      · rw [(setPendingFlag_keeps s src).line_eq]
        omega

/-- The count of bulletins stands. -/
def KeepsBulletins (s t : State) : Prop := t.line.bulletins = s.line.bulletins

theorem keepsBulletins_rule : NoticeRule [.line] KeepsBulletins where
  trans h k := k.trans h
  outside h clear := by
    rw [KeepsBulletins, h.line_eq fun mem => absurd (List.all_eq_true.1 clear _ mem) (by decide)]
  beside := rfl
  notice count n s := by
    obtain ⟨q, m, line⟩ := (queueReplacing_queues (Frame.isNoticeOf n.slot) (.notice count n) s).line
    rw [KeepsBulletins, queueNotice, line]

/-- A bulletin's content is told by the blocks beside the line port, the counters and the pins. -/
theorem captureBulletin_congr (same : SameOutside [.line, .counters, .outputs] s t) :
    captureBulletin t = captureBulletin s := by
  unfold captureBulletin bulletinFlags advertisedHop advertisedHops openCalls
  rw [same.hazard_eq, same.control_eq, same.front_eq, same.lamp_eq, same.peers_eq, same.loader_eq, same.route_eq,
    same.doors_eq, same.calls_eq]

/-- The station as the Idle that ends the line fault has asked for the Line call (R173). -/
def faultCleared (s : State) : State := requestCall .line ((s.setReceiver .quiet).setLine { (s.setReceiver .quiet).line with fault := false })

theorem clearLineFault_eq (s : State) :
    clearLineFault (s.setReceiver .quiet) =
      (queueBulletin (faultCleared s)).setLine
        { (queueBulletin (faultCleared s)).line with
          refresh := (queueBulletin (faultCleared s)).line.refresh.map (fun _ => 0) } := rfl

theorem faultCleared_keeps (s : State) : SameOutside [.calls, .line, .counters] s (faultCleared s) :=
  (((setReceiver_keeps s _).trans (setLine_keeps _ _)).widen (by decide)).trans (requestCall_keeps _ _)

/-- The line port once the call has been asked for. -/
theorem faultCleared_line (s : State) :
    (faultCleared s).line.fault = false ∧ (faultCleared s).line.receiver = .quiet
      ∧ (faultCleared s).line.driving = s.line.driving ∧ (faultCleared s).line.refresh = s.line.refresh
      ∧ (faultCleared s).line.alertHeld = s.line.alertHeld ∧ (faultCleared s).line.bulletins = s.line.bulletins := by
  have stands := stands_rule.notices.requestCall .line
    ((s.setReceiver .quiet).setLine { (s.setReceiver .quiet).line with fault := false })
  have alert := keepsAlert_rule.notices.requestCall .line
    ((s.setReceiver .quiet).setLine { (s.setReceiver .quiet).line with fault := false })
  exact ⟨stands.fault, stands.receiver, stands.driving, stands.refresh, alert.1, keepsBulletins_rule.requestCall .line _⟩

theorem faultCleared_room (short : s.line.queue.length ≤ 10) : HasRoom (faultCleared s) := by
  have : (faultCleared s).line.queue.length ≤ 11 := requestCall_queue_length
    (s := (s.setReceiver .quiet).setLine { (s.setReceiver .quiet).line with fault := false }) .line short
  rw [HasRoom, Config.queueLimit]
  omega

theorem Waits.settleAtIdle {p : Frame → Prop} (h : Waits s p) : Waits (settleAtIdle s) p := by
  obtain ⟨e, mem, holds⟩ := h
  have : e.frame ∈ (Machine.settleAtIdle s).line.queue.map (·.frame) := by
    rw [settleAtIdle_line, startAtIdle_frames]
    exact List.mem_map_of_mem mem
  obtain ⟨e', mem', same⟩ := List.mem_map.1 this
  exact ⟨e', mem', same ▸ holds⟩

/-- Settles O16: what comes Idle is a quiet line with no fault, on which the start then acts. -/
theorem idleLineStartsSending : Obligations.IdleLineStartsSending := by
  intro s running
  refine ⟨fun receiver clear free rests unheld => ?_, fun mem clear rests holds => ?_, fun stuck fault => ?_⟩
  · have mem : s.line.receiver ∈ [Receiver.discard, .quiet, .stuck] := by rcases receiver with h | h <;> simp [h]
    have did := takeIdle_clear mem clear
    refine changes_lineIdle running (did ▸ setReceiver_keeps s .quiet) (by decide) ?_
    rw [settleAtIdle_line, did, startAtIdle_free (s := s.setReceiver .quiet) clear (by rfl) rests free unheld]
    by_cases hush : s.line.hushPending = true
    · rw [if_pos hush, if_pos (show (s.setReceiver .quiet).line.hushPending = true from hush)]
      rfl
    · rw [if_neg hush, if_neg (show ¬(s.setReceiver .quiet).line.hushPending = true from hush)]
      cases queue : s.line.queue with
      | nil =>
        have none_waits : ¬hasToSend (s.setReceiver .quiet) = true := by simp [hasToSend, State.setReceiver, queue]
        rw [if_neg none_waits]
        simp [State.setReceiver]
      | cons e rest =>
        have sends : hasToSend (s.setReceiver .quiet) = (strapped s && loadComplete s) := by
          simp [hasToSend, State.setReceiver, queue, strapped, loadComplete]
        rw [sends]
        dsimp only
        split
        · rw [startHead_line (s := s.setReceiver .quiet) queue]
          rfl
        · simp [State.setReceiver, queue]
  · have did := takeIdle_clear mem clear
    refine changes_lineIdle running (did ▸ setReceiver_keeps s .quiet) (by decide) ?_
    rw [settleAtIdle_line, did, startAtIdle_alert (s := s.setReceiver .quiet) clear (by rfl) rests holds]
    rfl
  · have did := takeIdle_fault stuck fault
    rw [clearLineFault_eq] at did
    refine changes_lineIdle running (takeIdle_keeps s) (by decide) ?_
    rw [did]
    have frame := faultCleared_keeps s
    have asked : hasCall (faultCleared s) .line = true := hasCall_requestCall _ _
    have room := fun short => faultCleared_room (s := s) short
    obtain ⟨clear, quiet, driving, refresh, alert, bulletins⟩ := faultCleared_line s
    generalize faultCleared s = v at *
    obtain ⟨q, n, line⟩ := queueBulletin_line v
    have after : ((queueBulletin v).setLine
        { (queueBulletin v).line with refresh := (queueBulletin v).line.refresh.map (fun _ => 0) }).line =
        { v.line with
          queue := q, placed := n, bulletins := v.line.bulletins + 1, refresh := v.line.refresh.map (fun _ => 0) } := by
      rw [State.setLine_line, line]
    have waits := fun short => (queueBulletin_waits (s := v) (.inl (room short))).of_queue (t := (queueBulletin v).setLine
        { (queueBulletin v).line with refresh := (queueBulletin v).line.refresh.map (fun _ => 0) }) (by rfl)
    have kept : SameOutside [.line, .counters, .outputs] v (settleAtIdle ((queueBulletin v).setLine
        { (queueBulletin v).line with refresh := (queueBulletin v).line.refresh.map (fun _ => 0) })) :=
      (((queueBulletin_keeps v).then (setLine_keeps _ _)).then (settleAtIdle_keeps _)).widen (by decide)
    generalize (queueBulletin v).setLine
        { (queueBulletin v).line with refresh := (queueBulletin v).line.refresh.map (fun _ => 0) } = u at *
    obtain ⟨-, -, refresh', bulletins', fault', -⟩ := startAtIdle_line_eqs u
    refine ⟨?_, ?_, ?_, ?_, fun holds rests => ?_, fun short => ?_⟩
    · rw [settleAtIdle_line, fault', after]
      exact clear
    · rw [hasCall_congr kept.calls_eq]
      exact asked
    · rw [settleAtIdle_line, bulletins', after, ← bulletins]
    · rw [settleAtIdle_line, refresh', after, ← refresh]
    · rw [settleAtIdle_line, startAtIdle_alert (by rw [after]; exact clear) (by rw [after]; exact quiet)
        (by rw [after]; exact driving.trans rests) (by rw [after]; exact alert.trans holds)]
    · have shown := (waits short).settleAtIdle
      rw [captureBulletin_congr kept, ← frame.hazard_eq, ← bulletins]
      exact shown

end Sys2Proof.Machine
end


section
/-! SUPPORT. What a Restore leaves of the calls, the Alert request of a zone that becomes Fire, and the rows of the
Restore, the fire press and the completed own frame (sections 1.6, 1.7, 2.4, 2.7, 9.4). -/

namespace Sys2Proof.Machine

variable {c : List Block} {s t u e : State} {f : Frame}

/-! ## The zone hazard's recomputation (R20, R32) -/

/-- A zone that does not become Fire reaches neither the posture controller nor the calls. -/
theorem recomputeZone_keeps_of_calm (calm : zoneOf s.hazard ≠ .fire) :
    SameOutside [.hazard, .line, .counters, .route, .lamp, .doors] s (recomputeZone s) := by
  unfold recomputeZone
  dsimp only
  rw [if_neg calm]
  refine .ite (.refl _ s) ?_
  exact ((((setHazard_keeps s _).then (queueBulletin_keeps _)).then (computeRouteFrom_keeps _ _)).then
    (evaluateMagnets_keeps _)).widen (by decide)

/-- An entry to Evacuate asks for no call. -/
theorem enterEvacuate_calls (b : Base) (s : State) : (enterEvacuate b s).calls = s.calls := by
  rw [enterEvacuate, setPosture_calls, if_neg (by simp)]
  rfl

theorem enterEvacuateUnled_calls (s : State) : (enterEvacuateUnled s).calls = s.calls := by
  unfold enterEvacuateUnled
  split
  · exact enterEvacuate_calls _ _
  · exact enterEvacuate_calls _ s

theorem makeAlertRequest_calls (s : State) : (makeAlertRequest s).calls = s.calls := (makeAlertRequest_keeps s).calls_eq

theorem takeOwnFire_calls (s : State) : (takeOwnFire s).calls = s.calls := by
  unfold takeOwnFire
  dsimp only
  rw [makeAlertRequest_calls]
  have hushed : (setHushed false (s.setControl
      { s.control with fireSet := joinFireSet s.loader.station s.control.fireSet })).calls = s.calls :=
    (setHushed_keeps _ false).calls_eq
  split
  · exact hushed
  · rw [enterEvacuateUnled_calls, hushed]

theorem recomputeZone_calls (s : State) : (recomputeZone s).calls = s.calls := by
  unfold recomputeZone
  dsimp only
  have shown : (queueBulletin (s.setHazard { s.hazard with zone := zoneOf s.hazard })).calls = s.calls :=
    (queueBulletin_keeps _).calls_eq
  split
  · rfl
  · rw [(evaluateMagnets_keeps _).calls_eq, (computeRouteFrom_keeps _ _).calls_eq]
    split
    · rw [takeOwnFire_calls, shown]
    · exact shown

/-- A zone that becomes Fire brings what the own fire brings (R32). -/
theorem recomputeZone_control_of_fire (was : s.hazard.zone ≠ .fire) (fire : zoneOf s.hazard = .fire) :
    (recomputeZone s).control = (takeOwnFire (queueBulletin (s.setHazard { s.hazard with zone := .fire }))).control := by
  unfold recomputeZone
  dsimp only
  rw [fire, if_neg fun same => was same.symm, if_pos rfl, (evaluateMagnets_keeps _).control_eq,
    (computeRouteFrom_keeps _ _).control_eq]

/-! ## The Alert request (R32, R33, R171) -/

/-- The held Alert and the Alert's mark are as after the request. -/
def AsksAlert (s t : State) : Prop :=
  t.line.alertHeld = (makeAlertRequest s).line.alertHeld
    ∧ t.control.alertPending = (makeAlertRequest s).control.alertPending

theorem makeAlertRequest_alertHeld (s : State) :
    (makeAlertRequest s).line.alertHeld = (s.line.alertHeld || (strapped s && loadComplete s)) := by
  unfold makeAlertRequest
  cases strapped s <;> cases loadComplete s <;> simp [requestAlert]

theorem AsksAlert.of_keeps {v w : State} (before : KeepsAlert s v) (loader : v.loader = s.loader) (asks : AsksAlert v w)
    (after : KeepsAlert w t) : AsksAlert s t := by
  have numbered : strapped v = strapped s := by rw [strapped, strapped, loader]
  have loaded : loadComplete v = loadComplete s := by rw [loadComplete, loadComplete, loader]
  unfold AsksAlert KeepsAlert at *
  rw [makeAlertRequest_alertHeld, makeAlertRequest_control] at asks ⊢
  rw [before.1, before.2, numbered, loaded] at asks
  exact ⟨after.1.trans asks.1, after.2.trans asks.2⟩

theorem takeOwnFire_asksAlert (s : State) : AsksAlert s (takeOwnFire s) := by
  have r := keepsAlert_rule
  unfold takeOwnFire
  dsimp only
  have hushed : KeepsAlert s (setHushed false (s.setControl
      { s.control with fireSet := joinFireSet s.loader.station s.control.fireSet })) :=
    r.trans (r.control s { s.control with fireSet := joinFireSet s.loader.station s.control.fireSet } rfl) (r.setHushed false _)
  have loader : (setHushed false (s.setControl
      { s.control with fireSet := joinFireSet s.loader.station s.control.fireSet })).loader = s.loader :=
    (setHushed_keeps _ false).loader_eq
  generalize setHushed false _ = v at hushed loader
  refine .of_keeps (w := makeAlertRequest _) (r.trans hushed (r.ite (r.refl v) (r.enterEvacuateUnled v))) ?_ ⟨rfl, rfl⟩
    (r.refl _)
  rw [← loader]
  split
  · rfl
  · exact (enterEvacuateUnled_keeps v).loader_eq

/-- A zone that becomes Fire makes the Alert request (R32, R33). -/
theorem recomputeZone_asksAlert (was : s.hazard.zone ≠ .fire) (fire : zoneOf s.hazard = .fire) :
    AsksAlert s (recomputeZone s) := by
  have r := keepsAlert_rule
  have shown : KeepsAlert s (queueBulletin (s.setHazard { s.hazard with zone := .fire })) :=
    r.trans (r.outside (setHazard_keeps s _) rfl) (r.bulletin _)
  have loader : (queueBulletin (s.setHazard { s.hazard with zone := .fire })).loader = s.loader :=
    (queueBulletin_keeps _).loader_eq
  unfold recomputeZone
  dsimp only
  rw [fire, if_neg fun same => was same.symm, if_pos rfl]
  exact .of_keeps shown loader (takeOwnFire_asksAlert _)
    (r.trans (r.computeRouteFrom _ _) (r.outside (evaluateMagnets_keeps _) rfl))

theorem makeAlertRequest_stands (s : State) : s.line.Stands (makeAlertRequest s).line := by
  have held : s.line.Stands { s.line with alertHeld := true } :=
    ⟨rfl, rfl, rfl, rfl, rfl, rfl, le_refl _, fun x mem => .inr ⟨x, mem, rfl, id⟩⟩
  unfold makeAlertRequest
  split
  · exact .refl _
  · split
    · exact held
    · exact .refl _

/-- A request on a line port that else stands is driven by the command's end (R171, log entry 47). -/
theorem AsksAlert.settle (asks : AsksAlert s u) (stands : s.line.Stands u.line) : AlertRequested s (settle u) := by
  obtain ⟨held, mark⟩ := asks
  rw [makeAlertRequest_alertHeld] at held
  rw [makeAlertRequest_control] at mark
  have still : (Machine.settle u).line.alertHeld = u.line.alertHeld := by
    rw [settle_line]
    exact (startSending_line_eqs u).1
  refine ⟨fun unstrapped => ?_, fun numbered early => ?_, fun numbered loaded => ⟨?_, fun clear brk code mayCross => ?_⟩⟩
  · have out : strapped s = false := by simp [strapped, unstrapped]
    rw [still, settle_control, held, mark]
    simp [out]
  · have placed : strapped s = true := strapped_eq_true.2 numbered
    rw [still, settle_control, held, mark]
    simp [placed, early]
  · rw [still, held]
    simp [strapped_eq_true.2 numbered, loaded]
  · have asked : u.line.alertHeld = true := by simp [held, strapped_eq_true.2 numbered, loaded]
    by_cases under : u.line.driving = some .alert
    · exact settle_driving_of_alert under
    · have crosses : alertMayCross u.line = true := by
        unfold alertMayCross
        split
        · rfl
        · next hush =>
          have : u.line.receiver ≠ .discard := fun discard =>
            mayCross ⟨stands.driving ▸ hush, stands.receiver ▸ discard⟩
          simpa using this
        · next alert => exact absurd alert under
      have starts : alertStarts u.line = true := by
        simp [alertStarts, asked, crosses, stands.receiver, brk, code]
      rw [settle_line, startSending, if_neg (by simp [stands.fault, clear]), if_pos starts]
      rfl

/-! ## The fire press (R19, R32, R33, R108) -/

/-- The station as a Fire point's press is taken (R19). -/
def firePressed (k : Fin 6) (s : State) : State :=
  (s.setInput k { s.calls.inputs.get k with pressed := false }).setHazard { s.hazard with manualFire := true }

theorem takeFirePress_fire {k : Fin 6} (pressed : (s.calls.inputs.get k).pressed = true)
    (point : inputKind s k = .firePoint) :
    takeFirePress k s = requestCall (.input k) (recomputeZone (firePressed k s)) := by
  simp only [takeFirePress, pressed, point]
  rfl

/-- After the press the station is in Evacuate with its own number in its fire set (R32). -/
theorem firePressed_control (k : Fin 6) (agrees : FireInEvacuate s) :
    (recomputeZone (firePressed k s)).control.posture = .evacuate
      ∧ s.loader.station ∈ (recomputeZone (firePressed k s)).control.fireSet := by
  have fire : zoneOf (firePressed k s).hazard = .fire := zoneOf_of_manual (by rfl)
  by_cases was : s.hazard.zone = .fire
  · have still : recomputeZone (firePressed k s) = firePressed k s := if_pos (fire.trans was.symm)
    rw [still]
    exact agrees was
  · rw [recomputeZone_control_of_fire (s := firePressed k s) was fire, takeOwnFire_control,
      (queueBulletin_keeps _).control_eq, (queueBulletin_keeps _).loader_eq]
    have joined : s.loader.station ∈ joinFireSet s.loader.station s.control.fireSet :=
      (mem_joinFireSet _ _ _).2 (.inl rfl)
    split
    · next inside => exact ⟨inside, joined⟩
    · exact ⟨rfl, joined⟩

/-- Settles O36: the press is taken, the zone recomputed under the latch, and the source asks. -/
theorem firePressSetsTheLatch : Obligations.FirePressSetsTheLatch := by
  intro k s running agrees pressed point
  have did := takeFirePress_fire pressed point
  have fire : zoneOf (firePressed k s).hazard = .fire := zoneOf_of_manual (by rfl)
  have hazard : (recomputeZone (firePressed k s)).hazard =
      { s.hazard with manualFire := true, zone := .fire } := by rw [recomputeZone_hazard, fire]; rfl
  have calls : (recomputeZone (firePressed k s)).calls = (firePressed k s).calls := recomputeZone_calls _
  obtain ⟨evacuates, joined⟩ := firePressed_control k agrees
  have asks := requestCall_keeps (recomputeZone (firePressed k s)) (.input k)
  have inputs := (SameAside.requestCall (.input k) (recomputeZone (firePressed k s))).inputs
  have request := fun was : s.hazard.zone ≠ .fire => recomputeZone_asksAlert (s := firePressed k s) was fire
  have stands := stands_rule.recomputeZone (s := firePressed k s) fun _ => makeAlertRequest_stands
  have number : (recomputeZone (firePressed k s)).loader = s.loader := (recomputeZone_keeps _).loader_eq
  have taken := (stands_rule.notices.requestCall (.input k) (recomputeZone (firePressed k s)))
  have mark := (keepsAlert_rule.notices.requestCall (.input k) (recomputeZone (firePressed k s)))
  refine changes_settled (work := takeFirePress k) rfl running did
    (((setCalls_keeps s _).then (setHazard_keeps _ _)).then ((recomputeZone_keeps _).then asks)) (by decide) ?_
  have started : KeepsAlert s (firePressed k s) := ⟨rfl, rfl⟩
  rw [settle_hazard, settle_control, settle_loader, settle_calls, hasCall_congr (settle_calls _), asks.hazard_eq,
    asks.control_eq, asks.loader_eq, inputs, calls, hazard, number]
  refine ⟨rfl, rfl, rfl, evacuates, joined, ?_, hasCall_requestCall _ _, fun was => ?_⟩
  · simp [firePressed, State.setInput]
  · exact (AsksAlert.of_keeps started (by rfl) (request was) mark).settle (stands.trans taken)

/-! ## The calls after a Restore (R22, R23, R41, R123) -/

/-- No open call is a Fire call, and no Fire source waits. -/
def NoFireCall (s : State) : Prop :=
  (∀ i : Fin 8, (s.calls.slots.get i).isOpen = true → (s.calls.slots.get i).kind ≠ some .fire)
    ∧ ∀ src ∈ s.calls.pending, kindOf s src ≠ .fire

namespace NoFireCall

theorem of_same (same : SameCalls s t) (h : NoFireCall s) : NoFireCall t := by
  unfold NoFireCall
  simp only [same.kindOf, same.calls]
  exact h

theorem kindOf_asserted {k : Fin 6} (calls : asserted s k = true) : kindOf s (.input k) ≠ .fire := by
  have motion : inputKind s k = .motion := by
    simp only [asserted, Bool.and_eq_true, beq_iff_eq] at calls
    exact calls.1.1
  simp [kindOf_motion motion]

theorem raiseInto {i : Fin 8} {src : Source} (other : kindOf s src ≠ .fire) (h : NoFireCall s) :
    NoFireCall (Machine.raiseInto i src s) := by
  obtain ⟨slots, pending⟩ := h
  have aside := SameAside.raiseInto i src s
  unfold NoFireCall
  simp only [aside.kindOf, raiseInto_calls]
  refine ⟨fun j isOpen => ?_, pending⟩
  rw [Eight.get_set] at isOpen ⊢
  split at isOpen
  · rw [if_pos ‹_›]
    simpa [raisedSlot] using other
  · rw [if_neg ‹_›]
    exact slots j isOpen

theorem setPendingFlag {src : Source} (other : kindOf s src ≠ .fire) (h : NoFireCall s) :
    NoFireCall (Machine.setPendingFlag src s) := by
  obtain ⟨slots, pending⟩ := h
  have aside := SameAside.setPendingFlag src s
  unfold NoFireCall
  simp only [aside.kindOf, setPendingFlag_calls]
  refine ⟨slots, fun x mem => ?_⟩
  split at mem
  · exact pending x mem
  · obtain mem | mem := List.mem_append.1 mem
    · exact pending x mem
    · rw [List.mem_singleton] at mem
      exact mem ▸ other

theorem pendIfAsserted (src : Option Source) (h : NoFireCall s) : NoFireCall (Machine.pendIfAsserted src s) := by
  unfold Machine.pendIfAsserted
  split
  · split
    · next calls => exact h.setPendingFlag (kindOf_asserted calls)
    · exact h
  · exact h

theorem requestCall {src : Source} (other : kindOf s src ≠ .fire) (h : NoFireCall s) :
    NoFireCall (Machine.requestCall src s) := by
  unfold Machine.requestCall
  split
  · exact h
  · unfold Machine.raiseCall
    split
    · exact h.raiseInto other
    · split
      · next i _ =>
        have kept := SameAside.queueNotice ((s.calls.slots.get i).notices + 1) (clearedNotice i (s.calls.slots.get i)) s
        have aside := kept.trans (SameAside.pendIfAsserted (s.calls.slots.get i).source (queueCleared i s))
        refine ((h.of_same (.of_queueCleared i s)).pendIfAsserted _).raiseInto ?_
        rwa [aside.kindOf]
      · exact h.setPendingFlag other

theorem requestMotion (h : NoFireCall s) : NoFireCall (Machine.requestMotion s) :=
  List.foldlRecOn allSix _ h fun u clean k _ => by
    split
    · next calls => exact clean.requestCall (kindOf_asserted calls)
    · exact clean

theorem servePending (n : Nat) (h : NoFireCall s) : NoFireCall (Machine.servePending n s) := by
  induction n generalizing s with
  | zero => exact h
  | succ n ih =>
    unfold Machine.servePending
    split
    · next i src free top =>
      refine ih (.raiseInto (h.2 src (topPending_mem top)) ⟨h.1, fun x mem => h.2 x (List.mem_of_mem_filter mem)⟩)
    · exact h

theorem setPosture (p : Posture) (b : Base) (h : NoFireCall s) : NoFireCall (Machine.setPosture p b s) := by
  have led : NoFireCall (s.setControl { s.control with posture := p, base := b }) := h
  have aside : (Machine.setPosture p b s).loader = s.loader := (setPosture_keeps s p b).loader_eq
  have calls := setPosture_calls p b s
  have kinds : ∀ src, kindOf (Machine.setPosture p b s) src = kindOf s src := kindOf_congr aside
  have requested : ∀ src, kindOf (Machine.requestMotion (s.setControl { s.control with posture := p, base := b })) src
      = kindOf s src := (SameAside.requestMotion _).kindOf
  unfold NoFireCall
  rw [calls]
  simp only [kinds]
  split
  · obtain ⟨slots, pending⟩ := led.requestMotion
    exact ⟨slots, fun src mem => requested src ▸ pending src mem⟩
  · exact h

/-- Closing every Fire call and dropping the Fire sources that wait leaves none (R123). -/
theorem closeFireCalls (s : State) : NoFireCall (Machine.closeFireCalls s) := by
  have closed : NoFireCall (groupClosed (fun sl => sl.kind == some .fire) (· == .fire) s) := by
    refine ⟨fun i isOpen => ?_, fun src mem => ?_⟩
    · simp only [groupClosed, State.setCalls_calls, Eight.get_map] at isOpen ⊢
      split at isOpen
      · simp [Slot.closed, Slot.isOpen] at isOpen
      · next stays =>
        rw [if_neg stays]
        simpa [isOpen] using stays
    · simp only [groupClosed, State.setCalls_calls, List.mem_filter, Bool.not_eq_true', beq_eq_false_iff_ne] at mem
      exact mem.2
  exact ((closed.servePending 8).requestMotion).of_same (dropPending_calls _ _ s).afterClosing

end NoFireCall

/-! ## An accepted Restore (R23, R41) -/

theorem restoreHazard_hazard (s : State) :
    (restoreHazard s).hazard.heads = s.hazard.heads.map (fun o => o.map (Head.restored s.front.fault))
      ∧ (restoreHazard s).hazard.manualFire = false := by
  rw [restoreHazard, recomputeZone_hazard]
  exact ⟨rfl, rfl⟩

theorem restoreHazard_keeps_of_acceptable (acceptable : restoreAcceptable s = true) :
    SameOutside [.hazard, .line, .counters, .route, .lamp, .doors] s (restoreHazard s) := by
  have below := restoreHazard_below acceptable
  rw [restoreHazard, recomputeZone_hazard] at below
  exact ((setHazard_keeps s _).widen (by decide)).trans (recomputeZone_keeps_of_calm below)

/-- What an accepted Restore leaves of the posture controller, the heads and the calls. -/
theorem acceptRestore_spec (acceptable : restoreAcceptable s = true) :
    (acceptRestore s).control =
        { s.control with
          posture := s.control.base.posture, fireSet := [], hushed := false, provisionalBase := false }
      ∧ (acceptRestore s).hazard = (restoreHazard s).hazard ∧ NoFireCall (acceptRestore s) := by
  have eased := restoreHazard_keeps_of_acceptable acceptable
  have closed := closeFireCalls_keeps (restoreHazard s)
  have clean := NoFireCall.closeFireCalls (restoreHazard s)
  have control : (closeFireCalls (restoreHazard s)).control = s.control := by rw [closed.control_eq, eased.control_eq]
  have hazard : (closeFireCalls (restoreHazard s)).hazard = (restoreHazard s).hazard := closed.hazard_eq
  unfold acceptRestore
  dsimp only
  generalize closeFireCalls (restoreHazard s) = v at clean control hazard
  refine ⟨?_, ?_, NoFireCall.setPosture _ _ (s := v.setControl _) clean⟩
  · rw [setPosture_control, State.setControl_control, control]
  · rw [(setPosture_keeps _ _ _).hazard_eq]
    exact hazard

theorem restoreAcceptable_congr (hazard : t.hazard = s.hazard) (front : t.front = s.front) (loader : t.loader = s.loader)
    (calls : t.calls = s.calls) : restoreAcceptable t = restoreAcceptable s := by
  have counts : ∀ i, countsAsFirePoint t i = countsAsFirePoint s i := fun i => by
    simp only [countsAsFirePoint, loadComplete, inputKind, loader]
  simp only [restoreAcceptable, hazard, front, calls, counts]

/-- R22 in the rules' words. -/
theorem restoreAcceptable_iff (s : State) :
    restoreAcceptable s = true ↔
      (∀ (k : Fin 4) (h : Head), s.hazard.heads.get k = some h →
        (h.fault = false → s.front.fault = false → h.fireWorthy = false)
          ∧ (h.fault = true ∨ s.front.fault = true → h.level ≠ .fire))
        ∧ (loadComplete s = true → ∀ i : Fin 6, inputKind s i = .firePoint → (s.calls.inputs.get i).active = false)
        ∧ (loadComplete s = false → ∀ i : Fin 6, (s.calls.inputs.get i).active = false) := by
  have heads : ∀ (h : Head) (fault : Bool), headAllowsRestore fault h = true ↔
      (h.fault = false → fault = false → h.fireWorthy = false) ∧ (h.fault = true ∨ fault = true → h.level ≠ .fire) := by
    intro h fault
    unfold headAllowsRestore
    cases h.fault <;> cases fault <;> simp
  rw [restoreAcceptable, Bool.and_eq_true, Four.all_iff]
  refine and_congr ⟨fun all k h here => ?_, fun all k => ?_⟩ ?_
  · have := all k
    rw [here] at this
    exact (heads h _).1 this
  · cases here : s.hazard.heads.get k with
    | none => rfl
    | some h => exact (heads h _).2 (all k h here)
  · have points : allSix.all (fun i => !(countsAsFirePoint s i && (s.calls.inputs.get i).active)) = true ↔
        ∀ i : Fin 6, countsAsFirePoint s i = true → (s.calls.inputs.get i).active = false := by
      simp [List.all_eq_true, mem_allSix, imp_iff_not_or]
    rw [points]
    cases loaded : loadComplete s <;> simp [countsAsFirePoint, loaded]

/-- Settles O14: the order is judged as at the frame's end, which leaves all that the test reads. -/
theorem restoreIsJudged : Obligations.RestoreIsJudged := by
  refine ⟨restoreAcceptable_iff, fun wire corrected source s heard => ?_⟩
  have frame := endFrame_keeps s corrected
  have test := restoreAcceptable_congr frame.hazard_eq frame.front_eq frame.loader_eq frame.calls_eq
  have control : (endFrame corrected s).control = s.control := frame.control_eq
  have hazard : (endFrame corrected s).hazard = s.hazard := frame.hazard_eq
  have wanted : wantOrder .restore source (.order .restore) = some (takeOrder .restore) := rfl
  refine ⟨fun refused => ?_, fun inside acceptable => ?_⟩
  · have did : takeOrder .restore (endFrame corrected s) =
        if s.control.posture = .evacuate ∧ s.hazard.zone = .fire then queueBulletin (endFrame corrected s)
        else endFrame corrected s := by
      change takeRestore (endFrame corrected s) = _
      unfold takeRestore refuseRestore
      rw [control, test, hazard]
      by_cases inside : s.control.posture = .evacuate
      · have unacceptable := refused.resolve_left fun h => h inside
        simp [inside, unacceptable]
      · simp [inside]
    refine changes_heard (want := wantOrder .restore) rfl heard wanted (c := [.line, .counters])
      (by rw [did]; exact .ite (queueBulletin_keeps _) (.refl _ _)) (by decide) ?_
    rw [did]
    refine ⟨fun calm => ?_, fun inside fire => ?_⟩
    · rw [if_neg (by tauto), settle_queue_of_discard (by rw [endFrame_line]), endFrame_line]
    · rw [if_pos ⟨inside, fire⟩]
      obtain ⟨q, n, line⟩ := queueBulletin_line (endFrame corrected s)
      obtain ⟨-, -, -, bulletins, -⟩ := startSending_line_eqs (queueBulletin (endFrame corrected s))
      refine ⟨by rw [settle_line, bulletins, line, endFrame_line], fun room => ?_⟩
      have waits := (queueBulletin_waits (endFrame_room (corrected := corrected) room)).settle
      have same : captureBulletin (endFrame corrected s) = captureBulletin s :=
        captureBulletin_congr (frame.widen (by decide))
      rwa [hazard, fire, same, endFrame_line] at waits
  · have did : takeOrder .restore (endFrame corrected s) = acceptRestore (endFrame corrected s) := by
      change takeRestore (endFrame corrected s) = _
      rw [takeRestore, control, if_pos inside, if_pos (test.trans acceptable)]
    have below := restoreHazard_below (test.trans acceptable)
    obtain ⟨heads, manual⟩ := restoreHazard_hazard (endFrame corrected s)
    obtain ⟨ctrl, haz, clean, -⟩ := acceptRestore_spec (test.trans acceptable)
    refine changes_heard (want := wantOrder .restore) rfl heard wanted (by rw [did]; exact acceptRestore_keeps _)
      (by decide) ?_
    rw [did, settle_control, settle_hazard, settle_calls, ctrl, haz, control]
    refine ⟨rfl, rfl, rfl, rfl, rfl, manual, below, ?_, clean⟩
    rw [heads, hazard, frame.front_eq]

end Sys2Proof.Machine
end


section
/-! SUPPORT. What the completion of an own frame hands on (sections 9.3, 9.4). -/

namespace Sys2Proof.Machine

variable {c W : List Block} {s t u e : State} {f : Frame} {R : State → State → Prop}

/-! ## The hand-offs and the line port (R169) -/

theorem QueueRule.takeRestore (r : QueueRule W R) (s : State) : R s (Machine.takeRestore s) := by
  unfold Machine.takeRestore
  split
  · split
    · next acceptable =>
      have below := restoreHazard_below acceptable
      rw [restoreHazard, recomputeZone_hazard] at below
      have eased : R s (restoreHazard s) :=
        r.trans (r.outside (setHazard_keeps s _) (r.apart rfl)) (r.recomputeZone fun fire => absurd fire below)
      have closed : R s (closeFireCalls (restoreHazard s)) := r.trans eased (r.notices.closeGroup _ _ _)
      unfold acceptRestore
      dsimp only
      generalize closeFireCalls (restoreHazard s) = v at closed
      refine r.trans (r.trans closed (r.control v { v.control with
        fireSet := [], hushed := false, provisionalBase := false } rfl)) (r.setPosture _ _ _)
    · exact r.ite (r.bulletin s) (r.refl s)
  · exact r.refl s

theorem QueueRule.takeOrder (r : QueueRule W R) (o : Order) (s : State) : R s (Machine.takeOrder o s) := by
  cases o with
  | day | night => exact r.takeBaseOrder _ s
  | restore => exact r.takeRestore s

theorem takeNotice_line (source : Station) (n : Notice) (s : State) : (takeNotice source n s).line = s.line :=
  (takeNotice_keeps s source n).line_eq

/-- Every hand-off but a bulletin's stands by the line port. -/
theorem handCompletion_stands (other : f.isBulletin = false) (s : State) : s.line.Stands (handCompletion f s).line := by
  cases f with
  | bulletin => simp [Frame.isBulletin] at other
  | order o => exact stands_rule.takeOrder o s
  | take target slot seq => exact stands_rule.notices.handTake _ target slot seq s
  | cancel target slot seq => exact stands_rule.notices.handCancel _ target slot seq s
  | notice count n => exact stands_rule.outside (takeNotice_keeps s _ n) rfl
  | request | answer => exact .refl _

/-- A frame whose completion hands on nothing. -/
theorem frameEnded_handsOnNothing (s : State) : HandsOnNothing s (settle (frameEnded s)) := by
  rw [HandsOnNothing, settle_queue_of_discard (s := frameEnded s) (by rfl), settle_calls, settle_control, settle_hazard,
    settle_post, settle_doors, settle_route, settle_lamp, settle_counters]
  exact ⟨rfl, rfl, rfl, rfl, rfl, rfl, rfl, rfl, rfl⟩

/-- An own order is applied as if heard (R30, R40). -/
theorem takeOrder_applied (o : Order) (s : State) : OrderApplied o s (settle (takeOrder o (frameEnded s))) := by
  have test : restoreAcceptable (frameEnded s) = restoreAcceptable s := restoreAcceptable_congr rfl rfl rfl rfl
  refine ⟨fun b base => ?_, fun restore elsewhere => ?_, fun restore inside refused => ?_, fun restore inside acceptable => ?_⟩
  · have did : takeOrder o (frameEnded s) = takeBaseOrder b (frameEnded s) := by
      obtain ⟨rfl, rfl⟩ | ⟨rfl, rfl⟩ := base <;> rfl
    rw [did, settle_hazard, settle_control, takeBaseOrder_control, (takeBaseOrder_keeps _ b).hazard_eq]
    exact ⟨rfl, rfl⟩
  · subst restore
    have did : takeOrder .restore (frameEnded s) = frameEnded s := if_neg elsewhere
    rw [did]
    exact frameEnded_handsOnNothing s
  · subst restore
    have did : takeOrder .restore (frameEnded s) =
        if s.hazard.zone = .fire then queueBulletin (frameEnded s) else frameEnded s := by
      change takeRestore (frameEnded s) = _
      rw [takeRestore, if_pos (show (frameEnded s).control.posture = .evacuate from inside),
        if_neg (by rw [test, refused]; exact Bool.false_ne_true)]
      rfl
    have frame : SameOutside [.line, .counters] (frameEnded s) (takeOrder .restore (frameEnded s)) := by
      rw [did]
      exact .ite (queueBulletin_keeps _) (.refl _ _)
    obtain ⟨-, -, -, bulletins, -⟩ := startSending_line_eqs (takeOrder .restore (frameEnded s))
    rw [settle_hazard, settle_control, settle_calls, frame.hazard_eq, frame.control_eq, frame.calls_eq, settle_line,
      bulletins, did]
    refine ⟨rfl, rfl, rfl, ?_⟩
    split
    · obtain ⟨q, n, line⟩ := queueBulletin_line (frameEnded s)
      rw [line]
      rfl
    · rfl
  · subst restore
    have did : takeOrder .restore (frameEnded s) = acceptRestore (frameEnded s) := by
      change takeRestore (frameEnded s) = _
      rw [takeRestore, if_pos (show (frameEnded s).control.posture = .evacuate from inside),
        if_pos (test.trans acceptable)]
    have below := restoreHazard_below (test.trans acceptable)
    obtain ⟨heads, manual⟩ := restoreHazard_hazard (frameEnded s)
    obtain ⟨control, hazard, clean, -⟩ := acceptRestore_spec (test.trans acceptable)
    rw [did, settle_control, settle_hazard, settle_calls, control, hazard]
    exact ⟨rfl, rfl, rfl, rfl, rfl, manual, below, heads, clean⟩

theorem frameEnded_sameCalls (s : State) : SameCalls s (frameEnded s) := ⟨rfl, rfl, rfl⟩

/-- Settles O17: the frame has ended, and the hand-off of its kind acts on the station without it. -/
theorem completionIsHandedOn : Obligations.CompletionIsHandedOn := by
  intro f s running driving sends
  have landed : ∀ x ∈ (frameEnded s).line.queue, x.inFlight = false := fun x mem => by
    simpa using (List.mem_filter.1 (show x ∈ s.line.queue.filter (fun e => !e.inFlight) from mem)).2
  have stood : ∀ x ∈ (frameEnded s).line.queue, x ∈ s.line.queue := fun x mem =>
    List.mem_of_mem_filter (show x ∈ s.line.queue.filter (fun e => !e.inFlight) from mem)
  refine changes_settled (work := takeCompletion) rfl running (takeCompletion_sending driving sends)
    ((setLine_keeps s _).then (handCompletion_keeps _ f)) (by decide) ?_
  by_cases bulletin : f.isBulletin = true
  · obtain ⟨fire, count, b, rfl⟩ : ∃ fire count b, f = .bulletin fire count b := by
      cases f <;> simp [Frame.isBulletin] at bulletin ⊢
    obtain ⟨d, line⟩ := settle_line_of_busy (s := handCompletion (.bulletin fire count b) (frameEnded s)) (.inr (.inl (by rfl)))
    rw [line]
    exact ⟨rfl, rfl, landed, fun x mem => .inr ⟨x, stood x mem, landed x mem, rfl⟩, fun _ => ⟨rfl, rfl⟩,
      fun other => by simp [Frame.isBulletin] at other, by simp, by simp, by simp, by simp, by simp⟩
  · have other : f.isBulletin = false := by simpa using bulletin
    have stands := handCompletion_stands other (frameEnded s)
    have receiver : (handCompletion f (frameEnded s)).line.receiver = .discard := stands.receiver
    obtain ⟨d, line⟩ := settle_line_of_busy (.inr (.inl receiver))
    have lands : ∀ x ∈ (handCompletion f (frameEnded s)).line.queue, x.inFlight = false ∧
        (s.line.placed ≤ x.place ∨ ∃ old ∈ s.line.queue, old.inFlight = false ∧ old.place = x.place) := fun x mem => by
      obtain ⟨new, still⟩ | ⟨old, was, place, flight⟩ := stands.entries x mem
      · exact ⟨still, .inl new⟩
      · have still := landed old was
        refine ⟨?_, .inr ⟨old, stood old was, still, place⟩⟩
        by_contra flies
        simp [flight (by simpa using flies)] at still
    rw [line]
    refine ⟨stands.onLine, receiver, fun x mem => (lands x mem).1, fun x mem => (lands x mem).2, fun h => absurd h bulletin,
      fun _ => stands.refresh, fun o order => ?_, fun target slot seq take => ?_, fun target slot seq cancel => ?_,
      fun count n notice => ?_, fun silent => ?_⟩
    · subst order
      exact takeOrder_applied o s
    · subst take
      refine ⟨fun here i slot_eq named => ?_, fun dropped => ?_⟩
      · have handed : handCompletion (.take target slot seq) (frameEnded s) =
            judgeTake s.loader.station i seq (frameEnded s) := handTake_addressed (s := frameEnded s) here named slot_eq
        rw [settle_calls, handed, judgeTake_calls]
        rfl
      · have nothing : handCompletion (.take target slot seq) (frameEnded s) = frameEnded s :=
          handTake_disregarded (s := frameEnded s) (source := s.loader.station) (dropped.imp id .inr)
        rw [nothing]
        exact frameEnded_handsOnNothing s
    · subst cancel
      refine ⟨fun here i slot_eq named => ?_, fun dropped => ?_⟩
      · have handed : handCompletion (.cancel target slot seq) (frameEnded s) =
            judgeCancel s.loader.station i seq (frameEnded s) := handCancel_addressed (s := frameEnded s) here named slot_eq
        have applied := (judgeCancel_applied s.loader.station i seq (frameEnded s)).of_same (frameEnded_sameCalls s) rfl
        rw [handed, settle_calls]
        exact applied named
      · have nothing : handCompletion (.cancel target slot seq) (frameEnded s) = frameEnded s :=
          handCancel_disregarded (s := frameEnded s) (source := s.loader.station) (dropped.imp id .inr)
        rw [nothing]
        exact frameEnded_handsOnNothing s
    · subst notice
      have handed : handCompletion (.notice count n) (frameEnded s) = takeNotice s.loader.station n (frameEnded s) := rfl
      rw [handed]
      refine ⟨by rw [takeNotice_line]; rfl, fun dropped => ?_, fun role named => ?_⟩
      · rw [settle_post, takeNotice, if_pos (show (frameEnded s).post.role = false ∨ s.loader.station = 0 from dropped)]
        rfl
      · exact (takeNotice_applied (s := frameEnded s) role named).of_same rfl rfl rfl (settle_post _) (by rw [settle_counters])
    · have nothing : handCompletion f (frameEnded s) = frameEnded s := by
        obtain ⟨target, area, index, rfl⟩ | ⟨tag, payload, rfl⟩ := silent <;> rfl
      rw [nothing]
      exact frameEnded_handsOnNothing s

end Sys2Proof.Machine
end


section
/-! SUPPORT. What a head's step makes of a reading, case by case (sections 1.3 to 1.5). -/

namespace Sys2Proof.Machine

variable {required : Nat} {r : HeadReading} {h n : Head}

/-! ## The fault check (R12, R14) -/

theorem badReading_eq (k : HeadKind) (r : HeadReading) :
    badReading k r =
      if k = .smoke then decide (r.second.toNat - r.first.toNat < 4) else r.first.toNat == 0 || r.first.toNat == 1023 := by
  cases k <;> rfl

theorem faultRun_eq (k : HeadKind) : faultRun k = (if k = .smoke then 9 else 2) + 1 := by cases k <;> rfl

theorem Head.checkFault_frozen_bad (frozen : h.fault = true) (bad : badReading h.kind r = true) :
    h.checkFault r = { h with goodRun := 0 } := by
  simp [Head.checkFault, frozen, bad]

theorem Head.checkFault_frozen_good (frozen : h.fault = true) (good : badReading h.kind r = false) :
    h.checkFault r =
      if h.goodRun < 2 then { h with goodRun := h.goodRun + 1 }
      else { h with fault := false, confirm := 0, badRun := 0, goodRun := 0 } := by
  simp only [Head.checkFault, frozen, good, Config.recoveryRun, if_true, Bool.false_eq_true, if_false]
  exact if_congr (by omega) rfl rfl

theorem Head.checkFault_healthy_good (healthy : h.fault = false) (good : badReading h.kind r = false) :
    h.checkFault r = { h with badRun := 0 } := by
  simp [Head.checkFault, healthy, good]

theorem Head.checkFault_healthy_bad (healthy : h.fault = false) (bad : badReading h.kind r = true) :
    h.checkFault r =
      if h.badRun < (if h.kind = .smoke then 9 else 2) then { h with badRun := h.badRun + 1 } else h.enterFault := by
  simp [Head.checkFault, healthy, bad, faultRun_eq]

theorem Head.enterFault_eq (h : Head) :
    h.enterFault =
      { h with
        fault := true, confirm := 0, badRun := 0, goodRun := 0
        window := if h.kind = .smoke then h.window else [] } := by
  unfold Head.enterFault
  cases kind : h.kind <;> rfl

theorem Head.step_of_frozen (frozen : (h.checkFault r).fault = true) : h.step required r = h.checkFault r :=
  if_pos frozen

theorem Head.step_of_healthy (healthy : (h.checkFault r).fault = false) :
    h.step required r = ((h.checkFault r).grade required r).maintain r := if_neg (by simp [healthy])

/-! ## Grading and maintenance (R9 to R11, R13, R15 to R17) -/

/-- Maintenance leaves what the grading set, and the fault's runs. -/
theorem Head.maintain_keeps (r : HeadReading) (h : Head) :
    (h.maintain r).kind = h.kind ∧ (h.maintain r).thresholds = h.thresholds ∧ (h.maintain r).refused = h.refused
      ∧ (h.maintain r).graded = h.graded ∧ (h.maintain r).confirm = h.confirm ∧ (h.maintain r).level = h.level
      ∧ (h.maintain r).excess = h.excess ∧ (h.maintain r).temperature = h.temperature ∧ (h.maintain r).rise = h.rise
      ∧ (h.maintain r).fireWorthy = h.fireWorthy ∧ (h.maintain r).fault = h.fault
      ∧ (h.maintain r).badRun = h.badRun ∧ (h.maintain r).goodRun = h.goodRun := by
  unfold Head.maintain Head.checkDirty
  repeat' split
  all_goals exact ⟨rfl, rfl, rfl, rfl, rfl, rfl, rfl, rfl, rfl, rfl, rfl, rfl, rfl⟩

theorem entryLevel_spec (h : Head) (confirmed : Prop) [Decidable confirmed] (excess temperature rise : Nat) :
    EntryLevel h confirmed excess temperature rise
      (entryLevel h.kind h.thresholds (decide confirmed) excess temperature rise) := by
  refine ⟨fun yes => by simp [entryLevel, yes], fun no smoke => by simp [entryLevel, no, smoke],
    fun no heat => by simp [entryLevel, no, heat]⟩

theorem holdLevel_spec (h : Head) (excess temperature rise : Nat) :
    HoldLevel h excess temperature rise (holdLevel h.kind h.thresholds excess temperature rise) :=
  ⟨fun smoke => by rw [smoke]; rfl, fun heat => by rw [heat]; rfl⟩

/-- The update of a baseline never runs below 0 (R10). -/
theorem updatedBaseline_eq (b v : Nat) :
    (updatedBaseline b v : Int) = (b : Int) + ((v : Int) * 64 - b).tdiv 64 := by
  have large : 0 ≤ (b : Int) + ((v : Int) * 64 - b).tdiv 64 := by
    rw [Int.tdiv_eq_ediv, show Int.sign 64 = 1 from rfl]
    split <;> omega
  rw [updatedBaseline, Int.toNat_of_nonneg large]

/-- What the maintenance of a Smoke head makes of its baseline (R10, R11). -/
theorem maintain_baseline (smoke : h.kind = .smoke) :
    BaselineFollows (r.second.toNat - r.first.toNat) h (h.maintain r)
      ∧ (h.maintain r).window = h.window := by
  unfold Head.maintain
  rw [smoke]
  dsimp only
  cases seeded : h.baseline with
  | none =>
    exact ⟨⟨fun _ => ⟨rfl, rfl, by simp [Head.checkDirty, smokeReading, Config.dirtyAbove]⟩,
      fun b some => absurd (seeded.symm.trans some) nofun⟩, rfl⟩
  | some b =>
    dsimp only
    have other : ∀ {c}, h.baseline = some c → c = b := fun found => Option.some.inj (found.symm.trans seeded)
    split
    next early =>
      refine ⟨⟨fun none => absurd (seeded.symm.trans none) nofun, fun c found => ?_⟩, rfl⟩
      obtain rfl := other found
      exact ⟨fun _ => ⟨rfl, rfl, rfl⟩, fun late => absurd early (Nat.not_lt.mpr (Nat.succ_le_succ late))⟩
    next late =>
      have notEarly : ¬h.updates < 63 := fun early => late (Nat.succ_lt_succ early)
      split
      next clear =>
        refine ⟨⟨fun none => absurd (seeded.symm.trans none) nofun, fun c found => ?_⟩, rfl⟩
        obtain rfl := other found
        exact ⟨fun early => absurd early notEarly, fun _ => ⟨rfl, fun loud => absurd clear loud,
          fun _ => ⟨_, rfl, rfl, updatedBaseline_eq _ _⟩⟩⟩
      next loud =>
        refine ⟨⟨fun none => absurd (seeded.symm.trans none) nofun, fun c found => ?_⟩, rfl⟩
        obtain rfl := other found
        exact ⟨fun early => absurd early notEarly, fun _ => ⟨rfl, fun _ => ⟨rfl, rfl⟩,
          fun clear => absurd clear loud⟩⟩

/-- What the maintenance of a Heat head leaves (R13). -/
theorem maintain_heat (heat : h.kind = .heat) :
    h.maintain r = { h with window := joinWindow r.first.toNat h.window } := by
  unfold Head.maintain
  rw [heat]

theorem grade_excess_of_smoke (smoke : h.kind = .smoke) :
    (h.grade required r).excess = excessOf h.baseline (smokeReading r) := by
  unfold Head.grade
  rw [smoke]

theorem grade_fireWorthy_of_smoke (smoke : h.kind = .smoke) :
    (h.grade required r).fireWorthy = decide (h.thresholds.three ≤ (h.grade required r).excess) := by
  unfold Head.grade
  rw [smoke]
  rfl

/-- The step of a healthy head in the rules' words (R9 to R11, R13, R15 to R17). -/
theorem graded_maintained (required : Nat) (r : HeadReading) (h : Head) :
    GradedBy required r h ((h.grade required r).maintain r) := by
  obtain ⟨kind, thresholds, refused, graded, confirm, level, excess, temperature, rise, worthy, -, -, -⟩ :=
    Head.maintain_keeps r (h.grade required r)
  refine ⟨kind, thresholds, refused, graded, ?_, ?_, ?_, ?_, ?_⟩
  · rw [confirm, worthy]
    rfl
  · intro fire
    rw [level]
    exact if_pos fire
  · intro calm
    rw [confirm, excess, temperature, rise, level]
    exact ⟨_, _, entryLevel_spec h _ _ _ _, holdLevel_spec h _ _ _, if_neg calm⟩
  · intro smoke
    obtain ⟨follows, window⟩ := maintain_baseline (h := h.grade required r) (r := r) smoke
    rw [excess, worthy]
    refine ⟨?_, grade_fireWorthy_of_smoke smoke, window, follows⟩
    rw [grade_excess_of_smoke smoke]
    cases h.baseline <;> rfl
  · intro heat
    rw [temperature, rise, worthy, maintain_heat (h := h.grade required r) heat]
    refine ⟨?_, ?_, ?_, rfl, rfl, rfl, rfl⟩ <;>
      simp [Head.grade, heat, riseOf, fireWorthyAt, Config.windowLimit]

/-! ## Fire is confirmed (R16, R17) -/

theorem higher_lower_fire {e l k : Level} (calm : l ≠ .fire) (fire : e.higher (l.lower k) = .fire) : e = .fire := by
  revert calm fire
  cases e <;> cases l <;> cases k <;> decide

theorem stepped_ne_fire {a b : Prop} [Decidable a] [Decidable b] :
    (if a then Level.prealarm else if b then .watch else .clear) ≠ .fire := by
  split
  · exact nofun
  · split <;> exact nofun

/-- A level below Fire comes to Fire only by a Fire-worthy reading that meets the confirm requirement. -/
theorem GradedBy.confirmed (by_ : GradedBy required r h n) (some : 0 < required) (calm : h.level ≠ .fire)
    (fire : n.level = .fire) : n.fireWorthy = true ∧ required ≤ h.confirm + 1 := by
  obtain ⟨-, -, -, -, confirm, -, level, -, -⟩ := by_
  obtain ⟨e, k, entry, -, higher⟩ := level calm
  have entered : e = .fire := higher_lower_fire calm (higher ▸ fire)
  have met : required ≤ n.confirm := by
    by_contra unmet
    obtain ⟨-, smoke, heat⟩ := entry
    cases kind : h.kind with
    | smoke => exact stepped_ne_fire (smoke unmet kind |>.symm.trans entered)
    | heat => exact stepped_ne_fire (heat unmet kind |>.symm.trans entered)
  rw [confirm] at met
  split at met
  · exact ⟨‹_›, met.trans (Nat.min_le_left _ _)⟩
  · omega

/-! ## The step as a whole -/

/-- The fault check leaves the level, and may only clear the confirm count. -/
theorem Head.checkFault_keeps (r : HeadReading) (h : Head) :
    (h.checkFault r).level = h.level ∧ (h.checkFault r).confirm ≤ h.confirm := by
  rw [Head.checkFault]
  dsimp only [Head.enterFault]
  repeat' split
  all_goals exact ⟨rfl, by simp⟩

theorem Head.step_fire_stays (required : Nat) (r : HeadReading) (fire : h.level = .fire) :
    (h.step required r).level = .fire := by
  have checked : (h.checkFault r).level = .fire := (Head.checkFault_keeps r h).1.trans fire
  rw [Head.step]
  split
  · exact checked
  · obtain ⟨-, -, -, -, -, stays, -⟩ := graded_maintained required r (h.checkFault r)
    exact stays checked

theorem Head.step_keeps_runs (healthy : (h.checkFault r).fault = false) :
    (h.step required r).fault = false ∧ (h.step required r).badRun = (h.checkFault r).badRun
      ∧ (h.step required r).goodRun = (h.checkFault r).goodRun
      ∧ GradedBy required r (h.checkFault r) (h.step required r) := by
  rw [Head.step_of_healthy healthy]
  obtain ⟨-, -, -, -, -, -, -, -, -, -, fault, badRun, goodRun⟩ :=
    Head.maintain_keeps r ((h.checkFault r).grade required r)
  exact ⟨fault.trans healthy, badRun, goodRun, graded_maintained required r _⟩

/-- A head below Fire that comes to Fire is not frozen and has read Fire in a run long enough. -/
theorem Head.step_fire_confirmed (some : 0 < required) (calm : h.level ≠ .fire)
    (fire : (h.step required r).level = .fire) :
    (h.step required r).fault = false ∧ (h.step required r).fireWorthy = true ∧ required ≤ h.confirm + 1 := by
  have kept := Head.checkFault_keeps r h
  cases fault : (h.checkFault r).fault with
  | true =>
    rw [Head.step_of_frozen fault, kept.1] at fire
    exact absurd fire calm
  | false =>
    obtain ⟨healthy, -, -, graded⟩ := Head.step_keeps_runs (required := required) fault
    obtain ⟨worthy, confirmed⟩ := graded.confirmed some (kept.1 ▸ calm) fire
    exact ⟨healthy, worthy, confirmed.trans (Nat.succ_le_succ kept.2)⟩

/-- Settles O11: the fault check decides between the count of a frozen head and the grading. -/
theorem fireLatchesAndNeedsConfirmation : Obligations.FireLatchesAndNeedsConfirmation := by
  intro required r h some
  refine ⟨Head.step_fire_stays required r, Head.step_fire_confirmed some, fun bad asBad => ?_⟩
  rw [← badReading_eq] at asBad
  subst asBad
  refine ⟨fun frozen bad => ?_, fun frozen good early => ?_, fun frozen good late => ?_,
    fun healthy bad long => ?_, fun healthy short => ?_⟩
  · have checked := Head.checkFault_frozen_bad frozen bad
    rw [Head.step_of_frozen (by rw [checked]; exact frozen), checked]
  · have checked := (Head.checkFault_frozen_good frozen good).trans (if_pos early)
    rw [Head.step_of_frozen (by rw [checked]; exact frozen), checked]
  · have checked := (Head.checkFault_frozen_good frozen good).trans (if_neg (Nat.not_lt.mpr late))
    obtain ⟨fault, badRun, -, graded⟩ :=
      Head.step_keeps_runs (h := h) (r := r) (required := required) (by rw [checked])
    rw [checked] at badRun graded
    exact ⟨fault, badRun, graded⟩
  · have checked := (Head.checkFault_healthy_bad healthy bad).trans (if_neg (Nat.not_lt.mpr long))
    rw [Head.enterFault_eq] at checked
    rw [Head.step_of_frozen (by rw [checked]), checked]
  · cases bad : badReading h.kind r with
    | false =>
      have checked := Head.checkFault_healthy_good healthy bad
      obtain ⟨fault, badRun, goodRun, graded⟩ :=
        Head.step_keeps_runs (h := h) (r := r) (required := required) (by rw [checked]; exact healthy)
      rw [checked] at badRun goodRun graded
      exact ⟨fault, badRun, goodRun, graded⟩
    | true =>
      have checked := (Head.checkFault_healthy_bad healthy bad).trans
        (if_pos (short.resolve_left (by simp [bad])))
      obtain ⟨fault, badRun, goodRun, graded⟩ :=
        Head.step_keeps_runs (h := h) (r := r) (required := required) (by rw [checked]; exact healthy)
      rw [checked] at badRun goodRun graded
      exact ⟨fault, badRun, goodRun, graded⟩

end Sys2Proof.Machine
end


section
/-! SUPPORT. What a scan's start makes of the head set, what an invalid scan leaves, and the rows of the scan interval
and of the scans that are discarded (sections 1.1, 1.2). -/

namespace Sys2Proof.Machine

variable {c W : List Block} {s t u : State} {R : State → State → Prop} {present : BitVec 4}

/-! ## The head set changes (R7, R19, R20, R21) -/

/-- The hazard evaluator with a new head set, before zone and Blind are re-evaluated. -/
def Hazard.withHeads (new : Four (Option Head)) (h : Hazard) : Hazard :=
  { h with heads := new, manualFire := h.manualFire || fireRemoved h.heads new }

/-- The station as a new head set is taken, with the bulletin that a change of the Dirty marks asks for (R11). -/
def headsShown (new : Four (Option Head)) (s : State) : State :=
  if dirtyHeads (s.hazard.withHeads new) = dirtyHeads s.hazard then s.setHazard (s.hazard.withHeads new)
  else queueBulletin (s.setHazard (s.hazard.withHeads new))

theorem changeHeads_eq (new : Four (Option Head)) (s : State) :
    changeHeads new s = evaluateBlind (recomputeZone (headsShown new s)) := rfl

theorem headsShown_keeps (new : Four (Option Head)) (s : State) :
    SameOutside [.line, .counters] (s.setHazard (s.hazard.withHeads new)) (headsShown new s) :=
  .ite (.refl _ _) (queueBulletin_keeps _)

theorem changeHeads_hazard (new : Four (Option Head)) (s : State) :
    (changeHeads new s).hazard =
      { s.hazard.withHeads new with
        zone := zoneOf (s.hazard.withHeads new), blind := blindOf s.front.fault new } := by
  rw [changeHeads_eq, evaluateBlind_hazard, recomputeZone_hazard, recomputeZone_front, (headsShown_keeps new s).hazard_eq,
    (headsShown_keeps new s).front_eq]
  rfl

theorem changeHeads_front (new : Four (Option Head)) (s : State) : (changeHeads new s).front = s.front :=
  (changeHeads_keeps s new).front_eq (by decide)

/-- A change of the head set asks for no call. -/
theorem changeHeads_calls (new : Four (Option Head)) (s : State) : (changeHeads new s).calls = s.calls := by
  rw [changeHeads_eq, (evaluateBlind_keeps _).calls_eq, recomputeZone_calls, (headsShown_keeps new s).calls_eq]
  rfl

theorem QueueRule.changeHeads (r : QueueRule W R)
    (alert : ∀ u, R u (makeAlertRequest u)) (new : Four (Option Head)) (s : State) :
    R s (Machine.changeHeads new s) := by
  rw [changeHeads_eq]
  have set : R s (s.setHazard (s.hazard.withHeads new)) := r.outside (setHazard_keeps s _) (r.apart rfl)
  have shown : R s (headsShown new s) := r.ite set (r.trans set (r.bulletin _))
  exact r.trans (r.trans shown (r.recomputeZone fun _ => alert)) (r.evaluateBlind _)

/-! ## A scan starts (R1, R7) -/

/-- The head set under the presence senses (R7). -/
def headsPresent (present : BitVec 4) (heads : Four (Option Head)) : Four (Option Head) :=
  Four.tabulate (fun k => headByPresence (present.getLsbD k.val) (heads.get k))

theorem headsPresent_get (k : Fin 4) (heads : Four (Option Head)) :
    (headsPresent present heads).get k =
      if present.getLsbD k.val then some ((heads.get k).getD (Head.fresh .smoke ⟨12, 24, 40⟩ false)) else none := by
  rw [headsPresent, Four.get_tabulate]
  rfl

theorem startScan_loaded (warmUp : Bool) (loaded : s.loader.state = .loaded) :
    startScan warmUp present s = beginScan warmUp s :=
  if_neg (show ¬(s.loader.state != .loaded) = true by simp [loaded])

theorem startScan_early (warmUp : Bool) (early : s.loader.state ≠ .loaded) :
    startScan warmUp present s = changeHeads (headsPresent present s.hazard.heads) (beginScan warmUp s) :=
  if_pos (show (s.loader.state != .loaded) = true by simp [early])

/-- The sequencer once a scan has begun (R1). -/
def FrontEnd.scanning (warmUp : Bool) (f : FrontEnd) : FrontEnd :=
  { f with scan := some ⟨warmUp, false⟩, scanHeld := false, interval := true }

theorem startScan_front (warmUp : Bool) (s : State) :
    (startScan warmUp present s).front = s.front.scanning warmUp := by
  by_cases loaded : s.loader.state = .loaded
  · rw [startScan_loaded warmUp loaded]
    rfl
  · rw [startScan_early warmUp loaded, changeHeads_front]
    rfl

/-- A head at Fire leaves the set where its presence sense is off (R7, R19). -/
theorem fireRemoved_present (heads : Four (Option Head)) :
    fireRemoved heads (headsPresent present heads) = true ↔
      ∃ (k : Fin 4) (h : Head), heads.get k = some h ∧ h.level = .fire ∧ present.getLsbD k.val = false := by
  have all : ∀ k : Fin 4, k ∈ allFour := by decide
  rw [fireRemoved, List.any_eq_true]
  refine exists_congr fun k => ?_
  rw [headsPresent_get]
  cases heads.get k <;> cases present.getLsbD k.val <;> simp [all k]

/-- Settles O8: the interval holds a scan while one converts, and else starts it, where the head set follows the
presence senses before the load. -/
theorem intervalStartsOrHoldsAScan : Obligations.IntervalStartsOrHoldsAScan := by
  intro present s running
  have row : exec (.scanIntervalExpiry present) s = whileRunning (takeInterval present) s := rfl
  have starts : s.front.scan = none → takeInterval present s = startScan false present s :=
    fun idle => if_neg (by simp [idle])
  refine ⟨fun converting => ?_, fun idle loaded => ?_, fun idle early => ?_⟩
  · refine changes_settled row running (if_pos converting) (setFront_keeps s _) (by decide) ?_
    rw [settle_front]
    rfl
  · refine changes_settled row running ((starts idle).trans (startScan_loaded false loaded)) (beginScan_keeps s false)
      (by decide) ?_
    rw [settle_front, settle_lamp]
    exact ⟨rfl, rfl⟩
  · refine changes_settled row running ((starts idle).trans (startScan_early false early))
      ((beginScan_keeps s false).then (changeHeads_keeps _ _)) (by decide) ?_
    rw [settle_front, settle_hazard, changeHeads_front, changeHeads_hazard]
    refine ⟨rfl, fun k => headsPresent_get k _, ?_, fun manual => zoneOf_of_manual manual⟩
    rw [← fireRemoved_present]
    exact Bool.or_eq_true _ _ ▸ Iff.rfl

/-! ## What stands through a scan's start (R5, R153 to R155) -/

/-- The supervised chains and the count of invalid scans stand. -/
structure ChainsStand (s t : State) : Prop where
  sign : t.lamp.sign = s.lamp.sign
  chainA : t.lamp.chainA = s.lamp.chainA
  chainB : t.lamp.chainB = s.lamp.chainB
  invalid : t.counters.invalidScan = s.counters.invalidScan

theorem queueReplacing_invalid (like : Frame → Bool) (f : Frame) (s : State) :
    (queueReplacing like f s).counters.invalidScan = s.counters.invalidScan := by
  unfold queueReplacing
  split
  · rfl
  · split
    · rfl
    · split <;> rfl

theorem queueReplacing_chains (like : Frame → Bool) (f : Frame) (s : State) : ChainsStand s (queueReplacing like f s) := by
  have lamp : (queueReplacing like f s).lamp = s.lamp := (queueReplacing_keeps s like f).lamp_eq
  exact ⟨by rw [lamp], by rw [lamp], by rw [lamp], queueReplacing_invalid like f s⟩

theorem chains_rule : QueueRule [.lamp, .counters] ChainsStand where
  trans h k := ⟨k.1.trans h.1, k.2.trans h.2, k.3.trans h.3, k.4.trans h.4⟩
  outside h clear := by
    have out : ∀ b ∈ [Block.lamp, .counters], b ∉ _ := fun b mem k => absurd mem (by simpa using List.all_eq_true.1 clear b k)
    have lamp := h.lamp_eq (out _ (by decide))
    exact ⟨by rw [lamp], by rw [lamp], by rw [lamp], by rw [h.counters_eq (out _ (by decide))]⟩
  beside := rfl
  clear := rfl
  bulletin s := by
    have lamp : (queueBulletin s).lamp = s.lamp := (queueBulletin_keeps s).lamp_eq
    exact ⟨by rw [lamp], by rw [lamp], by rw [lamp],
      queueReplacing_invalid _ _ (s.setLine { s.line with bulletins := s.line.bulletins + 1 })⟩
  notice _ _ s := queueReplacing_chains _ _ s
  control _ _ _ := ⟨rfl, rfl, rfl, rfl⟩
  lamp _ _ sign chainA chainB := ⟨sign, chainA, chainB, rfl⟩

theorem makeAlertRequest_chains (s : State) : ChainsStand s (makeAlertRequest s) :=
  chains_rule.outside (makeAlertRequest_keeps s) rfl

theorem startScan_chains (warmUp : Bool) (s : State) : ChainsStand s (startScan warmUp present s) := by
  have begun : ChainsStand s (beginScan warmUp s) := ⟨rfl, rfl, rfl, rfl⟩
  exact chains_rule.ite (chains_rule.trans begun (chains_rule.changeHeads makeAlertRequest_chains _ _)) begun

/-! ## An invalid scan (R4, R5) -/

/-- The front end after an invalid scan (R4, R5). -/
def FrontEnd.invalidated (f : FrontEnd) : FrontEnd :=
  { f with invalidRun := min (f.invalidRun + 1) 3, fault := f.fault || decide (2 ≤ f.invalidRun) }

/-- The station as an invalid scan has been counted, with the fault where it sets (R4, R5). -/
def invalidSeen (s : State) : State :=
  let counted := (s.setFront s.front.invalidated).setCounters { s.counters with invalidScan := satInc s.counters.invalidScan }
  if s.front.fault = false ∧ 2 ≤ s.front.invalidRun then counted.setHazard { s.hazard with blind := true } else counted

theorem takeInvalidScan_eq (s : State) :
    takeInvalidScan s =
      if s.front.fault = false ∧ 2 ≤ s.front.invalidRun then
        recomputeZone (queueBulletin (requestCall .frontEnd (invalidSeen s)))
      else invalidSeen s := by
  have limit : min (s.front.invalidRun + 1) Config.invalidLimit = Config.invalidLimit ↔ 2 ≤ s.front.invalidRun := by
    rw [Config.invalidLimit]
    omega
  by_cases sets : s.front.fault = false ∧ 2 ≤ s.front.invalidRun
  · have raised : s.front.invalidated = { s.front with invalidRun := min (s.front.invalidRun + 1) 3, fault := true } := by
      simp [FrontEnd.invalidated, sets.2]
    rw [if_pos sets, invalidSeen, if_pos sets, raised]
    exact if_pos (show min (s.front.invalidRun + 1) Config.invalidLimit = Config.invalidLimit ∧ s.front.fault = false from
      ⟨limit.2 sets.2, sets.1⟩)
  · have same : s.front.invalidated = { s.front with invalidRun := min (s.front.invalidRun + 1) 3 } := by
      have still : (s.front.fault || decide (2 ≤ s.front.invalidRun)) = s.front.fault := by
        cases fault : s.front.fault with
        | true => rfl
        | false => rw [decide_eq_false fun long => sets ⟨fault, long⟩]; rfl
      rw [FrontEnd.invalidated, still]
    rw [if_neg sets, invalidSeen, if_neg sets, same]
    exact if_neg (show ¬(min (s.front.invalidRun + 1) Config.invalidLimit = Config.invalidLimit ∧ s.front.fault = false) from
      fun both => sets ⟨both.2, limit.1 both.1⟩)

theorem invalidSeen_front (s : State) : (invalidSeen s).front = s.front.invalidated := by
  unfold invalidSeen
  dsimp only
  split <;> rfl

theorem takeInvalidScan_front (s : State) : (takeInvalidScan s).front = s.front.invalidated := by
  rw [takeInvalidScan_eq]
  split
  · rw [recomputeZone_front, (queueBulletin_keeps _).front_eq, (requestCall_keeps _ _).front_eq, invalidSeen_front]
  · exact invalidSeen_front s

theorem invalidSeen_heads (s : State) : (invalidSeen s).hazard.heads = s.hazard.heads := by
  unfold invalidSeen
  dsimp only
  split <;> rfl

theorem takeInvalidScan_heads (s : State) : (takeInvalidScan s).hazard.heads = s.hazard.heads := by
  rw [takeInvalidScan_eq]
  split
  · rw [recomputeZone_hazard, (queueBulletin_keeps _).hazard_eq, (requestCall_keeps _ _).hazard_eq]
    exact invalidSeen_heads s
  · exact invalidSeen_heads s

theorem takeInvalidScan_chains (s : State) : ChainsStand (invalidSeen s) (takeInvalidScan s) := by
  have r := chains_rule
  rw [takeInvalidScan_eq]
  refine r.ite ?_ (r.refl _)
  exact r.trans (r.trans (r.notices.requestCall _ _) (r.bulletin _)) (r.recomputeZone fun _ => makeAlertRequest_chains)

/-- The fault that sets has its call and Blind (R5). -/
theorem takeInvalidScan_sets (sets : s.front.fault = false ∧ 2 ≤ s.front.invalidRun) :
    (takeInvalidScan s).hazard.blind = true ∧ hasCall (takeInvalidScan s) .frontEnd = true := by
  rw [takeInvalidScan_eq, if_pos sets, recomputeZone_hazard, hasCall_congr (recomputeZone_calls _),
    hasCall_congr (queueBulletin_keeps _).calls_eq, (queueBulletin_keeps _).hazard_eq, (requestCall_keeps _ _).hazard_eq]
  refine ⟨?_, hasCall_requestCall _ _⟩
  rw [invalidSeen, if_pos sets]
  rfl

/-- The relay stands open while the Front-end fault holds (R174). -/
theorem settle_relay_of_frontEnd (fault : s.front.fault = true) : (settle s).outputs.relay = false := by
  have front : (startSending s).front = s.front := (startSending_keeps s).front_eq
  rw [settle_outputs, outputsOf]
  split
  · simp [relayHealthy, front, fault]
  · rfl

/-! ## A scan completes, and one that was held starts (R1, R2, R7) -/

/-- The station as a conversion has ended. -/
def scanEnded (s : State) : State := s.setFront { s.front with scan := none, scanHeld := false }

/-- What a scan that was held makes of the station. -/
def nextScan (held : Bool) (present : BitVec 4) (s : State) : State := if held then startScan false present s else s

theorem takeScan_eq {r : ScanReadings} {scan : Scan} (converting : s.front.scan = some scan) :
    takeScan r present s = nextScan s.front.scanHeld present (takeResult scan r (scanEnded s)) := by
  rw [takeScan, converting]
  rfl

theorem nextScan_keeps (held : Bool) (s : State) : SameOutside scanFootprint s (nextScan held present s) :=
  .ite (startScan_keeps s _ _) (.refl _ s)

theorem nextScan_front (held : Bool) (s : State) :
    (nextScan held present s).front = if held then s.front.scanning false else s.front := by
  cases held with
  | true => exact startScan_front false s
  | false => rfl

theorem nextScan_heads (held : Bool) (s : State) (k : Fin 4) :
    (nextScan held present s).hazard.heads.get k =
      if held = true ∧ s.loader.state ≠ .loaded then
        if present.getLsbD k.val then some ((s.hazard.heads.get k).getD (Head.fresh .smoke ⟨12, 24, 40⟩ false)) else none
      else s.hazard.heads.get k := by
  cases held with
  | false => exact (if_neg (by simp)).symm
  | true =>
    change (startScan false present s).hazard.heads.get k = _
    by_cases loaded : s.loader.state = .loaded
    · rw [startScan_loaded false loaded, if_neg (by simp [loaded])]
      rfl
    · rw [startScan_early false loaded, changeHeads_hazard, if_pos ⟨rfl, loaded⟩]
      exact headsPresent_get k _

/-- A scan's start asks for no call. -/
theorem nextScan_calls (held : Bool) (s : State) : (nextScan held present s).calls = s.calls := by
  cases held with
  | false => rfl
  | true =>
    change (startScan false present s).calls = _
    by_cases loaded : s.loader.state = .loaded
    · rw [startScan_loaded false loaded]
      rfl
    · rw [startScan_early false loaded, changeHeads_calls]
      rfl

theorem nextScan_chains (held : Bool) (s : State) : ChainsStand s (nextScan held present s) :=
  chains_rule.ite (startScan_chains false s) (chains_rule.refl s)

/-- Under the Front-end fault Blind stands through a scan's start (R21). -/
theorem nextScan_blind (held : Bool) (fault : s.front.fault = true) (blind : s.hazard.blind = true) :
    (nextScan held present s).hazard.blind = true := by
  cases held with
  | false => exact blind
  | true =>
    change (startScan false present s).hazard.blind = true
    by_cases loaded : s.loader.state = .loaded
    · rw [startScan_loaded false loaded]
      exact blind
    · rw [startScan_early false loaded, changeHeads_hazard]
      exact blindOf_eq_true.2 (.inl fault)

theorem takeResult_discarded {scan : Scan} {r : ScanReadings} (discarded : scan.warmUp = true ∨ scan.void = true) :
    takeResult scan r s = s := if_pos (by simpa using discarded)

theorem takeResult_invalid {scan : Scan} {r : ScanReadings} (warm : scan.warmUp = false) (valid : scan.void = false)
    (outOfBand : r.refh.toNat < 960 ∨ 63 < r.refl.toNat) : takeResult scan r s = takeInvalidScan s := by
  have judged : referencesInBand r = false := by
    rw [referencesInBand, Bool.and_eq_false_iff, decide_eq_false_iff_not, decide_eq_false_iff_not]
    omega
  rw [takeResult, if_neg (by simp [warm, valid]), if_neg (by simp [judged])]

/-- Settles O9: warm-up and an overtaken scan end the conversion alone, an invalid one counts and may set the fault;
then a held scan starts. -/
theorem discardedScansTouchNoHead : Obligations.DiscardedScansTouchNoHead := by
  intro r present scan s running converting
  have row : exec (.scanResult r present) s = whileRunning (takeScan r present) s := rfl
  have discard : ∀ held, (scan.warmUp = true ∨ scan.void = true) → s.front.scanHeld = held →
      takeScan r present s = nextScan held present (scanEnded s) := fun held discarded given => by
    rw [takeScan_eq converting, takeResult_discarded discarded, given]
  refine ⟨fun discarded unheld => ?_, fun discarded held loaded => ?_, fun discarded held early => ?_,
    fun warm valid outOfBand => ?_⟩
  · refine changes_settled row running (discard false discarded unheld) (setFront_keeps s _) (by decide) ?_
    rw [settle_front]
    rfl
  · refine changes_settled row running ((discard true discarded held).trans (startScan_loaded false loaded))
      ((setFront_keeps s _).then (beginScan_keeps _ false)) (by decide) ?_
    rw [settle_front, settle_lamp]
    exact ⟨rfl, rfl⟩
  · refine changes_settled row running (discard true discarded held) ((setFront_keeps s _).then (nextScan_keeps true _))
      (by decide) ?_
    rw [settle_front, settle_hazard, nextScan_front]
    exact ⟨rfl, fun k => (nextScan_heads true _ k).trans (if_pos ⟨rfl, early⟩)⟩
  · have did : takeScan r present s = nextScan s.front.scanHeld present (takeInvalidScan (scanEnded s)) := by
      rw [takeScan_eq converting, takeResult_invalid warm valid outOfBand]
    have front := takeInvalidScan_front (scanEnded s)
    have loader : (takeInvalidScan (scanEnded s)).loader = s.loader := (takeInvalidScan_keeps (scanEnded s)).loader_eq
    have heads := takeInvalidScan_heads (scanEnded s)
    have sets := takeInvalidScan_sets (s := scanEnded s)
    have seen : (invalidSeen (scanEnded s)).lamp = s.lamp
        ∧ (invalidSeen (scanEnded s)).counters.invalidScan = satInc s.counters.invalidScan := by
      unfold invalidSeen
      dsimp only
      split <;> exact ⟨rfl, rfl⟩
    obtain ⟨sign, chainA, chainB, count⟩ :=
      chains_rule.trans (takeInvalidScan_chains (scanEnded s)) (nextScan_chains (present := present) s.front.scanHeld _)
    rw [seen.1] at sign chainA chainB
    rw [seen.2] at count
    have kept := (setFront_keeps s { s.front with scan := none, scanHeld := false }).then
      ((takeInvalidScan_keeps (scanEnded s)).then (nextScan_keeps (present := present) s.front.scanHeld _))
    have blind := nextScan_blind (present := present) (s := takeInvalidScan (scanEnded s)) s.front.scanHeld
    have relay := settle_relay_of_frontEnd (s := nextScan s.front.scanHeld present (takeInvalidScan (scanEnded s)))
    refine changes_settled row running did kept (by decide) ?_
    rw [nextScan_front, front] at relay
    rw [settle_hazard, settle_front, settle_counters, settle_lamp, hasCall_congr (settle_calls _), nextScan_front, front,
      hasCall_congr (nextScan_calls _ _)]
    rw [front] at blind
    refine ⟨fun k => ?_, ?_, ?_, ?_, ?_, count, sign, chainA, chainB, ?_, fun clear long => ?_⟩
    · rw [nextScan_heads, loader, heads]
      rfl
    · cases s.front.scanHeld <;> rfl
    · cases s.front.scanHeld <;> rfl
    · cases s.front.scanHeld <;> rfl
    · cases s.front.scanHeld <;> rfl
    · cases s.front.scanHeld <;> rfl
    · have fault : (scanEnded s).front.invalidated.fault = true := by
        change (s.front.fault || decide (2 ≤ s.front.invalidRun)) = true
        simp [long]
      refine ⟨blind fault (sets ⟨clear, long⟩).1, (sets ⟨clear, long⟩).2, relay ?_⟩
      cases s.front.scanHeld <;> exact fault

end Sys2Proof.Machine
end


section
/-! SUPPORT. What a valid scan makes of the heads, the chains, the calls and the Alert request, and its row (sections
1.1 to 1.6, 2.4, 6.3, 8.4). -/

namespace Sys2Proof.Machine

variable {c W : List Block} {s t u v : State} {R : State → State → Prop} {present : BitVec 4} {src x : Source}

/-! ## Calls that no station has taken, through others' requests (R113) -/

theorem hasTaken_iff :
    hasTaken s x = true ↔ ∃ (i : Fin 8) (n : Station), (s.calls.slots.get i).state = .taken n
      ∧ (s.calls.slots.get i).source = some x := by
  rw [hasTaken, Eight.toList_eq, List.any_map, List.any_eq_true]
  refine ⟨fun ⟨i, _, taken⟩ => ⟨i, ?_⟩, fun ⟨i, n, state, source⟩ => ⟨i, List.mem_finRange i, ?_⟩⟩
  · dsimp only [Function.comp] at taken
    split at taken
    · next n state => exact ⟨n, state, by simpa using taken⟩
    · exact nomatch taken
  · simp [Function.comp, state, source]

/-- A request leaves every slot, or raises its own call in it. -/
theorem requestCall_slot (src : Source) (s : State) (i : Fin 8) :
    (requestCall src s).calls.slots.get i = s.calls.slots.get i
      ∨ ((requestCall src s).calls.slots.get i).state = .raised := by
  have raised : ∀ j, (s.calls.slots.set j (raisedSlot s j src)).get i = s.calls.slots.get i
      ∨ ((s.calls.slots.set j (raisedSlot s j src)).get i).state = .raised := fun j => by
    by_cases here : i = j
    · rw [here, Eight.get_set_self]
      exact .inr rfl
    · exact .inl (Eight.get_set_of_ne _ _ _ _ here)
  cases has : hasCall s src with
  | true => exact .inl (by rw [requestCall_of_hasCall has])
  | false =>
    rw [requestCall_of_new has]
    cases free : freeSlot s with
    | some j =>
      rw [raiseCall_of_free free, raiseInto_calls]
      exact raised j
    | none =>
      cases evicted : evictedSlot s (kindOf s src).rank with
      | none =>
        rw [raiseCall_of_none free evicted, setPendingFlag_calls]
        exact .inl rfl
      | some j =>
        rw [raiseCall_evicting free evicted]
        exact raised j

/-- A source that no station has taken stays so, and keeps its call. -/
def CallsHold (s t : State) : Prop :=
  ∀ x, hasTaken s x = false → hasTaken t x = false ∧ (hasCall s x = true → hasCall t x = true)

theorem callsHold_watches : Watches [.calls] CallsHold where
  trans h k x untaken := by
    obtain ⟨mid, has⟩ := h x untaken
    obtain ⟨late, still⟩ := k x mid
    exact ⟨late, still ∘ has⟩
  outside h clear x untaken := by
    have calls := h.calls_eq fun mem => absurd (List.all_eq_true.1 clear _ mem) (by decide)
    rw [hasTaken, hasCall_congr calls, calls]
    exact ⟨untaken, id⟩

theorem CallsHold.of_calls (same : t.calls = s.calls) : CallsHold s t := fun x untaken => by
  rw [hasTaken, hasCall_congr same, same]
  exact ⟨untaken, id⟩

theorem CallsHold.requestCall (src : Source) (s : State) : CallsHold s (Machine.requestCall src s) := by
  intro x untaken
  refine ⟨?_, fun has => hasCall_requestCall_stays has (.inl untaken)⟩
  by_contra taken
  obtain ⟨i, n, state, source⟩ := hasTaken_iff.1 (by simpa using taken)
  obtain same | raised := requestCall_slot src s i
  · rw [same] at state source
    exact Bool.false_ne_true (untaken.symm.trans (hasTaken_iff.2 ⟨i, n, state, source⟩))
  · exact nomatch state.symm.trans raised

/-- A source that asks along the way has its call at the end. -/
theorem CallsHold.asked (before : CallsHold s u) (after : CallsHold (Machine.requestCall x u) t)
    (untaken : hasTaken s x = false) : hasCall t x = true :=
  (after x (CallsHold.requestCall x u x (before x untaken).1).1).2 (hasCall_requestCall x u)

/-! ## A head's step and what it asks (R11, R12, R14, R18) -/

/-- The calls that a head's step asks for are held. -/
def HeadAsked (s t : State) (k : Fin 4) (old new : Head) : Prop :=
  (old.level ≠ .fire → new.level = .fire → hasTaken s (.head k) = false → hasCall t (.head k) = true)
    ∧ (old.fault = false → new.fault = true → hasTaken s (.headFault k) = false → hasCall t (.headFault k) = true)
    ∧ (old.dirty = false → new.dirty = true → hasTaken s (.headDirty k) = false → hasCall t (.headDirty k) = true)

theorem headRequests_calls (k : Fin 4) (old new : Head) (s : State) :
    CallsHold s (headRequests k old new s) ∧ HeadAsked s (headRequests k old new s) k old new := by
  have w := callsHold_watches
  have held : ∀ (p : Prop) [Decidable p] src u, CallsHold u (if p then requestCall src u else u) :=
    fun p _ src u => w.ite (.requestCall src u) (w.refl u)
  have queued : ∀ u, CallsHold u (if new.dirty != old.dirty then queueBulletin u else u) :=
    fun u => w.ite (w.outside (queueBulletin_keeps u) rfl) (w.refl u)
  unfold headRequests
  dsimp only
  refine ⟨w.trans (w.trans (w.trans (held _ _ s) (held _ _ _)) (held _ _ _)) (queued _), fun calm fire untaken => ?_,
    fun healthy fault untaken => ?_, fun clean dirty untaken => ?_⟩
  · rw [if_pos (show (new.level == .fire && old.level != .fire) = true by simp [fire, calm])]
    exact (held _ _ s).asked (w.trans (held _ _ _) (queued _)) untaken
  · rw [if_pos (show (new.fault && !old.fault) = true by simp [fault, healthy])]
    exact (w.refl s).asked (w.trans (w.trans (held _ _ _) (held _ _ _)) (queued _)) untaken
  · rw [if_pos (show (new.dirty && !old.dirty) = true by simp [dirty, clean])]
    exact (w.trans (held _ _ s) (held _ _ _)).asked (queued _) untaken

theorem HeadAsked.before {k : Fin 4} {old new : Head} (asked : HeadAsked u t k old new) (held : CallsHold s u) :
    HeadAsked s t k old new := by
  obtain ⟨fire, fault, dirty⟩ := asked
  exact ⟨fun was now untaken => fire was now (held _ untaken).1, fun was now untaken => fault was now (held _ untaken).1,
    fun was now untaken => dirty was now (held _ untaken).1⟩

theorem HeadAsked.after {k : Fin 4} {old new : Head} (asked : HeadAsked s u k old new) (through : CallsHold s u)
    (held : CallsHold u t) : HeadAsked s t k old new := by
  have still : ∀ {x}, hasTaken s x = false → hasCall u x = true → hasCall t x = true := fun untaken =>
    (held _ (through _ untaken).1).2
  obtain ⟨fire, fault, dirty⟩ := asked
  exact ⟨fun was now untaken => still untaken (fire was now untaken),
    fun was now untaken => still untaken (fault was now untaken),
    fun was now untaken => still untaken (dirty was now untaken)⟩

/-- A head's step at a station (R15, R16). -/
def headStep (posture : Posture) (readings : Four HeadReading) (k : Fin 4) (h : Head) : Head :=
  h.step (confirmRequired posture) (readings.get k)

theorem stepHead_hazard (readings : Four HeadReading) (s : State) (k : Fin 4) :
    (stepHead readings s k).hazard =
      { s.hazard with
        heads := s.hazard.heads.set k ((s.hazard.heads.get k).map (headStep s.control.posture readings k)) } := by
  unfold stepHead
  split
  · next h here =>
    rw [(headRequests_keeps _ k _ _).hazard_eq, here]
    rfl
  · next absent =>
    have same : s.hazard.heads.set k ((s.hazard.heads.get k).map (headStep s.control.posture readings k)) = s.hazard.heads := by
      refine Four.ext_get fun i => ?_
      by_cases own : i = k
      · rw [own, Four.get_set_self, absent]
        rfl
      · exact Four.get_set_of_ne _ _ _ _ own
    rw [same]

theorem stepHead_calls (readings : Four HeadReading) (s : State) (k : Fin 4) :
    CallsHold s (stepHead readings s k)
      ∧ ∀ h, s.hazard.heads.get k = some h →
          HeadAsked s (stepHead readings s k) k h (headStep s.control.posture readings k h) := by
  unfold stepHead
  split
  · next h here =>
    have set : CallsHold s (s.setHead k (headStep s.control.posture readings k h)) := .of_calls rfl
    obtain ⟨held, asked⟩ := headRequests_calls k h (headStep s.control.posture readings k h)
      (s.setHead k (headStep s.control.posture readings k h))
    refine ⟨callsHold_watches.trans set held, fun old found => ?_⟩
    obtain rfl := Option.some.inj (here.symm.trans found)
    exact asked.before set
  · next absent => exact ⟨callsHold_watches.refl s, fun h here => nomatch absent.symm.trans here⟩

/-- The heads of a list take their steps one after another, each once. -/
theorem stepHeads_spec (readings : Four HeadReading) (l : List (Fin 4)) (once : l.Nodup) (s : State) :
    (l.foldl (stepHead readings) s).control = s.control
      ∧ (l.foldl (stepHead readings) s).hazard.zone = s.hazard.zone
      ∧ (∀ k, (l.foldl (stepHead readings) s).hazard.heads.get k =
          if k ∈ l then (s.hazard.heads.get k).map (headStep s.control.posture readings k) else s.hazard.heads.get k)
      ∧ CallsHold s (l.foldl (stepHead readings) s)
      ∧ ∀ k ∈ l, ∀ h, s.hazard.heads.get k = some h →
          HeadAsked s (l.foldl (stepHead readings) s) k h (headStep s.control.posture readings k h) := by
  induction l generalizing s with
  | nil => exact ⟨rfl, rfl, fun k => rfl, callsHold_watches.refl s, nofun⟩
  | cons j l ih =>
    obtain ⟨out, once⟩ := List.nodup_cons.1 once
    obtain ⟨control, zone, heads, held, asked⟩ := ih once (stepHead readings s j)
    obtain ⟨first, own⟩ := stepHead_calls readings s j
    have posture : (stepHead readings s j).control = s.control := (stepHead_keeps s readings j).control_eq
    have others : ∀ k, k ≠ j → (stepHead readings s j).hazard.heads.get k = s.hazard.heads.get k := fun k other => by
      rw [stepHead_hazard]
      exact Four.get_set_of_ne _ _ _ _ other
    rw [posture] at heads asked
    rw [List.foldl_cons]
    refine ⟨control.trans posture, by rw [zone, stepHead_hazard], fun k => ?_, callsHold_watches.trans first held,
      fun k mem h here => ?_⟩
    · rw [heads k]
      by_cases this : k = j
      · subst this
        rw [if_neg out, if_pos List.mem_cons_self, stepHead_hazard]
        exact Four.get_set_self _ _ _
      · rw [others k this]
        exact if_congr (by simp [this]) rfl rfl
    · obtain rfl | late := List.mem_cons.1 mem
      · exact (own h here).after first held
      · have other : k ≠ j := fun same => out (same ▸ late)
        exact (asked k late h ((others k other).trans here)).before first

theorem QueueRule.stepHead (r : QueueRule W R) (readings : Four HeadReading) (s : State) (k : Fin 4) :
    R s (Machine.stepHead readings s k) := by
  unfold Machine.stepHead headRequests
  split
  · next h _ =>
    have asks : ∀ (p : Prop) [Decidable p] src u, R u (if p then requestCall src u else u) :=
      fun p _ src u => r.ite (r.notices.requestCall src u) (r.refl u)
    have set : R s (s.setHead k (headStep s.control.posture readings k h)) :=
      r.outside (setHazard_keeps s _) (r.apart rfl)
    exact r.trans (r.trans (r.trans (r.trans set (asks _ _ _)) (asks _ _ _)) (asks _ _ _)) (r.ite (r.bulletin _) (r.refl _))
  · exact r.refl s

/-! ## A valid scan begins (R2, R6) -/

/-- The station as a valid scan's heads are about to step. -/
def validSeen (r : ScanReadings) (s : State) : State :=
  storeRaw r (clearFrontEndFault (s.setFront { s.front with invalidRun := 0 }))

theorem clearFrontEndFault_hazard (s : State) :
    (clearFrontEndFault s).hazard.heads = s.hazard.heads ∧ (clearFrontEndFault s).hazard.zone = s.hazard.zone := by
  unfold clearFrontEndFault
  dsimp only
  split
  · rw [(queueBulletin_keeps _).hazard_eq]
    exact ⟨rfl, rfl⟩
  · exact ⟨rfl, rfl⟩

theorem clearFrontEndFault_front (s : State) : (clearFrontEndFault s).front = { s.front with fault := false } := by
  unfold clearFrontEndFault
  dsimp only
  split
  · rw [(queueBulletin_keeps _).front_eq]
    rfl
  · next clear =>
    have same : s.front.fault = false := by simpa using clear
    rw [← same]

theorem validSeen_front (r : ScanReadings) (s : State) :
    (validSeen r s).front.scan = s.front.scan ∧ (validSeen r s).front.scanHeld = s.front.scanHeld
      ∧ (validSeen r s).front.invalidRun = 0 ∧ (validSeen r s).front.fault = false
      ∧ (validSeen r s).front.lastRaw.refh = r.refh ∧ (validSeen r s).front.lastRaw.isg = r.isg := by
  unfold validSeen storeRaw
  dsimp only [State.setFront_front]
  rw [clearFrontEndFault_front]
  exact ⟨rfl, rfl, rfl, rfl, rfl, rfl⟩

theorem validSeen_keeps (r : ScanReadings) (s : State) :
    SameOutside [.front, .hazard, .line, .counters] s (validSeen r s) := by
  have cleared : ∀ u, SameOutside [.front, .hazard, .line, .counters] u (clearFrontEndFault u) := fun u =>
    .ite ((((setFront_keeps u _).then (setHazard_keeps _ _)).then (queueBulletin_keeps _)).widen (by decide)) (.refl _ u)
  exact (((setFront_keeps s _).then (cleared _)).then (setFront_keeps _ _)).widen (by decide)

theorem validSeen_hazard (r : ScanReadings) (s : State) :
    (validSeen r s).hazard.heads = s.hazard.heads ∧ (validSeen r s).hazard.zone = s.hazard.zone :=
  clearFrontEndFault_hazard (s.setFront { s.front with invalidRun := 0 })

theorem QueueRule.validSeen (r : QueueRule W R) (readings : ScanReadings) (s : State) :
    R s (Machine.validSeen readings s) := by
  have front : ∀ u x, R u (u.setFront x) := fun u x => r.outside (setFront_keeps u x) (r.apart rfl)
  have cleared : ∀ u, R u (clearFrontEndFault u) := fun u =>
    r.ite (r.trans (r.trans (front u _) (r.outside (setHazard_keeps _ _) (r.apart rfl))) (r.bulletin _)) (r.refl u)
  exact r.trans (r.trans (front s _) (cleared _)) (front _ _)

/-- The station once every head has stepped, before the zone is re-evaluated. -/
def headsStepped (r : ScanReadings) (s : State) : State := allFour.foldl (stepHead r.heads) (validSeen r s)

theorem takeValidScan_eq (r : ScanReadings) (s : State) :
    takeValidScan r s = takeChains s.lamp r (evaluateBlind (recomputeZone (headsStepped r s))) := rfl

theorem QueueRule.headsStepped (r : QueueRule W R) (readings : ScanReadings) (s : State) :
    R s (Machine.headsStepped readings s) :=
  r.trans (r.validSeen readings s) (r.foldl _ (r.stepHead readings.heads) allFour _)

/-! ## Chains (R153 to R155, R157) -/

/-- The lamps once each chain has taken its reading. -/
def Lamp.graded (l shown : Lamp) (r : ScanReadings) : Lamp :=
  { l with
    sign := l.sign.take r.isg.toNat false
    chainA := l.chainA.take r.isa.toNat (shown.showBefore r.sinceA).darkA
    chainB := l.chainB.take r.isb.toNat (shown.showBefore r.sinceB).darkB }

theorem chainRequests_lamp (src : Source) (old new : Chain) (s : State) : (chainRequests src old new s).lamp = s.lamp :=
  (chainRequests_keeps s src old new).lamp_eq

theorem takeChains_lamp (shown : Lamp) (r : ScanReadings) (s : State) :
    (takeChains shown r s).lamp = s.lamp.graded shown r := by
  unfold takeChains
  dsimp only
  rw [chainRequests_lamp, State.setLamp_lamp, chainRequests_lamp, State.setLamp_lamp, chainRequests_lamp,
    State.setLamp_lamp]
  rfl

theorem chainRequests_calls (src : Source) (old new : Chain) (s : State) :
    CallsHold s (chainRequests src old new s)
      ∧ (old.fault = false → new.fault = true → hasTaken s src = false →
          hasCall (chainRequests src old new s) src = true) := by
  have w := callsHold_watches
  have queued : ∀ u, CallsHold u (if new.fault != old.fault then queueBulletin u else u) :=
    fun u => w.ite (w.outside (queueBulletin_keeps u) rfl) (w.refl u)
  unfold chainRequests
  dsimp only
  refine ⟨w.trans (w.ite (.requestCall src s) (w.refl s)) (queued _), fun was now untaken => ?_⟩
  rw [if_pos (show (new.fault && !old.fault) = true by simp [was, now])]
  exact (w.refl s).asked (queued _) untaken

/-- A chain that newly enters Fault has its call after the three have taken their readings (R154, R155). -/
theorem takeChains_calls (shown : Lamp) (r : ScanReadings) (s : State) :
    CallsHold s (takeChains shown r s)
      ∧ (s.lamp.sign.fault = false → (s.lamp.graded shown r).sign.fault = true → hasTaken s .chainSign = false →
          hasCall (takeChains shown r s) .chainSign = true)
      ∧ (s.lamp.chainA.fault = false → (s.lamp.graded shown r).chainA.fault = true → hasTaken s .chainA = false →
          hasCall (takeChains shown r s) .chainA = true)
      ∧ (s.lamp.chainB.fault = false → (s.lamp.graded shown r).chainB.fault = true → hasTaken s .chainB = false →
          hasCall (takeChains shown r s) .chainB = true) := by
  have w := callsHold_watches
  have lamps : ∀ u l, CallsHold u (u.setLamp l) := fun u l => .of_calls rfl
  unfold takeChains
  dsimp only
  simp only [chainRequests_lamp, State.setLamp_lamp]
  generalize one : s.setLamp { s.lamp with sign := s.lamp.sign.take r.isg.toNat false } = u
  have first : CallsHold s u := one ▸ lamps _ _
  obtain ⟨sign, askedSign⟩ := chainRequests_calls .chainSign s.lamp.sign (s.lamp.sign.take r.isg.toNat false) u
  generalize two : (chainRequests .chainSign s.lamp.sign (s.lamp.sign.take r.isg.toNat false) u).setLamp _ = v
  have second : CallsHold (chainRequests .chainSign s.lamp.sign (s.lamp.sign.take r.isg.toNat false) u) v := two ▸ lamps _ _
  obtain ⟨chainA, askedA⟩ := chainRequests_calls .chainA s.lamp.chainA
    (s.lamp.chainA.take r.isa.toNat (shown.showBefore r.sinceA).darkA) v
  generalize three : (chainRequests .chainA s.lamp.chainA _ v).setLamp _ = n
  have third : CallsHold (chainRequests .chainA s.lamp.chainA
    (s.lamp.chainA.take r.isa.toNat (shown.showBefore r.sinceA).darkA) v) n := three ▸ lamps _ _
  obtain ⟨chainB, askedB⟩ := chainRequests_calls .chainB s.lamp.chainB
    (s.lamp.chainB.take r.isb.toNat (shown.showBefore r.sinceB).darkB) n
  have beforeA := w.trans (w.trans first sign) second
  have beforeB := w.trans (w.trans beforeA chainA) third
  refine ⟨w.trans beforeB chainB, fun was now untaken => ?_, fun was now untaken => ?_, fun was now untaken => ?_⟩
  · have signed := first _ untaken
    have mid := w.trans first sign _ untaken
    exact (w.trans (w.trans (w.trans second chainA) third) chainB _ mid.1).2 (askedSign was now signed.1)
  · have mid := w.trans beforeA chainA _ untaken
    exact (w.trans third chainB _ mid.1).2 (askedA was now (beforeA _ untaken).1)
  · exact askedB was now (beforeB _ untaken).1

theorem Chain.take_spec (c : Chain) (reading : Nat) :
    c.take reading true = c
      ∧ (c.fault = false →
          (32 ≤ reading → c.take reading false = { c with lowRun := 0 })
          ∧ (reading < 32 → c.lowRun < 2 → c.take reading false = { c with lowRun := c.lowRun + 1 })
          ∧ (reading < 32 → 2 ≤ c.lowRun → c.take reading false = ⟨true, 0, 0⟩))
      ∧ (c.fault = true →
          (reading < 32 → c.take reading false = { c with recovery := 0 })
          ∧ (32 ≤ reading → c.recovery < 2 → c.take reading false = { c with recovery := c.recovery + 1 })
          ∧ (32 ≤ reading → 2 ≤ c.recovery → c.take reading false = ⟨false, 0, 0⟩)) := by
  have lit : ∀ n, n < 2 ↔ n + 1 < Config.chainRun := fun _ => Nat.succ_lt_succ_iff.symm
  refine ⟨rfl, fun healthy => ⟨fun high => ?_, fun low early => ?_, fun low late => ?_⟩,
    fun faulty => ⟨fun low => ?_, fun high early => ?_, fun high late => ?_⟩⟩
  · simp [Chain.take, healthy, Config.chainFloor, Nat.not_lt.2 high]
  · simp [Chain.take, healthy, Config.chainFloor, low, (lit _).1 early]
  · simp [Chain.take, healthy, Config.chainFloor, low, ← lit, Nat.not_lt.2 late]
  · simp [Chain.take, faulty, Config.chainFloor, low]
  · simp [Chain.take, faulty, Config.chainFloor, Nat.not_lt.2 high, (lit _).1 early]
  · simp [Chain.take, faulty, Config.chainFloor, Nat.not_lt.2 high, ← lit, Nat.not_lt.2 late]

/-! ## The Alert request along a work (R32, R33) -/

theorem AsksAlert.trans (first : AsksAlert s u) (loader : u.loader = s.loader) (second : AsksAlert u t) : AsksAlert s t := by
  have numbered : strapped u = strapped s := by rw [strapped, strapped, loader]
  have loaded : loadComplete u = loadComplete s := by rw [loadComplete, loadComplete, loader]
  unfold AsksAlert at *
  rw [makeAlertRequest_alertHeld, makeAlertRequest_control] at *
  rw [first.1, first.2, numbered, loaded] at second
  exact ⟨second.1.trans (by simp), second.2.trans (by simp)⟩

/-- The work keeps the Alert's marks or makes the Alert request, and a zone that becomes Fire makes it. -/
structure AlertFollows (s t : State) : Prop where
  loader : t.loader = s.loader
  marks : KeepsAlert s t ∨ AsksAlert s t
  asks : s.hazard.zone ≠ .fire → t.hazard.zone = .fire → AsksAlert s t

namespace AlertFollows

theorem of_keeps (marks : KeepsAlert s t) (zone : t.hazard.zone = s.hazard.zone) (loader : t.loader = s.loader) :
    AlertFollows s t := ⟨loader, .inl marks, fun calm fire => absurd (zone.symm.trans fire) calm⟩

theorem trans (h : AlertFollows s u) (k : AlertFollows u t) : AlertFollows s t := by
  have first : ∀ {w}, w.loader = u.loader → AsksAlert u w → AsksAlert s w := fun _ asks =>
    h.marks.elim (fun kept => .of_keeps kept h.loader asks (keepsAlert_rule.refl _)) fun asked => asked.trans h.loader asks
  have then_ : AsksAlert s u → AsksAlert s t := fun asked =>
    k.marks.elim (fun kept => .of_keeps (keepsAlert_rule.refl s) rfl asked kept) fun asks => asked.trans h.loader asks
  refine ⟨k.loader.trans h.loader, ?_, fun calm fire => ?_⟩
  · obtain kept | asks := k.marks
    · obtain before | asked := h.marks
      · exact .inl (keepsAlert_rule.trans before kept)
      · exact .inr (then_ asked)
    · exact .inr (first k.loader asks)
  · by_cases mid : u.hazard.zone = .fire
    · exact then_ (h.asks calm mid)
    · exact first k.loader (k.asks mid fire)

theorem recomputeZone (s : State) : AlertFollows s (Machine.recomputeZone s) := by
  have loader : (Machine.recomputeZone s).loader = s.loader := (recomputeZone_keeps s).loader_eq
  have zone : (Machine.recomputeZone s).hazard.zone = zoneOf s.hazard := by rw [recomputeZone_hazard]
  by_cases fire : zoneOf s.hazard = .fire
  · by_cases was : s.hazard.zone = .fire
    · have still : Machine.recomputeZone s = s := if_pos (fire.trans was.symm)
      rw [still]
      exact .of_keeps (keepsAlert_rule.refl s) rfl rfl
    · exact ⟨loader, .inr (recomputeZone_asksAlert was fire), fun _ _ => recomputeZone_asksAlert was fire⟩
  · exact ⟨loader, .inl (keepsAlert_rule.recomputeZone fun becomes => absurd becomes fire),
      fun _ becomes => absurd (zone.symm.trans becomes) fire⟩

theorem changeHeads (new : Four (Option Head)) (s : State) : AlertFollows s (Machine.changeHeads new s) := by
  have r := keepsAlert_rule
  have set : KeepsAlert s (s.setHazard (s.hazard.withHeads new)) := ⟨rfl, rfl⟩
  have shown : AlertFollows s (headsShown new s) := .of_keeps (r.ite set (r.trans set (r.bulletin _)))
    (by rw [(headsShown_keeps new s).hazard_eq]; rfl) (by rw [(headsShown_keeps new s).loader_eq]; rfl)
  rw [changeHeads_eq]
  exact (shown.trans (.recomputeZone _)).trans (.of_keeps (r.evaluateBlind _) (by rw [evaluateBlind_hazard])
    (evaluateBlind_keeps _).loader_eq)

theorem nextScan (held : Bool) (s : State) : AlertFollows s (Machine.nextScan held present s) := by
  have still : AlertFollows s s := .of_keeps (keepsAlert_rule.refl s) rfl rfl
  have begun : AlertFollows s (beginScan false s) := .of_keeps ⟨rfl, rfl⟩ rfl rfl
  cases held with
  | false => exact still
  | true =>
    change AlertFollows s (startScan false present s)
    by_cases loaded : s.loader.state = .loaded
    · rwa [startScan_loaded false loaded]
    · rw [startScan_early false loaded]
      exact begun.trans (.changeHeads _ _)

end AlertFollows

theorem showBefore_spec (since : Nat) (l : Lamp) :
    l.showBefore 0 = stripShow l ∧ ∀ show', l.turns[since]? = some show' → l.showBefore (since + 1) = show' := by
  refine ⟨by simp [Lamp.showBefore], fun show' found => ?_⟩
  obtain ⟨short, -⟩ := List.getElem?_eq_some_iff.1 found
  rw [Lamp.showBefore, Nat.min_eq_left short, List.getD_cons_succ, List.getD_eq_getElem?_getD, found]
  rfl

/-! ## A valid scan's row -/

theorem QueueRule.nextScan (r : QueueRule W R) (alert : ∀ u, R u (makeAlertRequest u)) (held : Bool)
    (present : BitVec 4) (scan : [Block.lamp].all (· ∉ W) = true) (s : State) : R s (Machine.nextScan held present s) := by
  have begun : R s (beginScan false s) :=
    r.trans (r.outside (setFront_keeps s _) (r.apart rfl)) (r.outside (setLamp_keeps _ _) scan)
  exact r.ite (r.ite (r.trans begun (r.changeHeads alert _ _)) begun) (r.refl s)

theorem QueueRule.takeChains (r : QueueRule W R) (clear : [Block.lamp].all (· ∉ W) = true) (shown : Lamp)
    (readings : ScanReadings) (s : State) : R s (Machine.takeChains shown readings s) := by
  have asks : ∀ src old new u, R u (chainRequests src old new u) := fun src old new u =>
    r.trans (r.ite (r.notices.requestCall src u) (r.refl u)) (r.ite (r.bulletin _) (r.refl _))
  have lamps : ∀ u l, R u (u.setLamp l) := fun u l => r.outside (setLamp_keeps u l) clear
  exact r.trans (r.trans (r.trans (r.trans (r.trans (lamps s _) (asks _ _ _ _)) (lamps _ _)) (asks _ _ _ _)) (lamps _ _))
    (asks _ _ _ _)

/-- The station once zone and Blind follow the heads' steps. -/
def headsJudged (r : ScanReadings) (s : State) : State := evaluateBlind (recomputeZone (headsStepped r s))

theorem QueueRule.headsJudged (r : QueueRule W R) (alert : ∀ u, R u (makeAlertRequest u)) (readings : ScanReadings)
    (s : State) : R s (Machine.headsJudged readings s) :=
  r.trans (r.trans (r.headsStepped readings s) (r.recomputeZone fun _ => alert)) (r.evaluateBlind _)

theorem headsStepped_keeps (r : ScanReadings) (s : State) :
    SameOutside [.hazard, .calls, .line, .counters] (validSeen r s) (headsStepped r s) :=
  .foldl _ (fun u k => stepHead_keeps u r.heads k) allFour _

theorem headsJudged_keeps (r : ScanReadings) (s : State) :
    SameOutside [.hazard, .control, .doors, .calls, .route, .lamp, .line, .counters] (validSeen r s) (headsJudged r s) :=
  (((headsStepped_keeps r s).then (recomputeZone_keeps _)).then (evaluateBlind_keeps _)).widen (by decide)

theorem headsStepped_spec (r : ScanReadings) (s : State) :
    (headsStepped r s).hazard.zone = s.hazard.zone
      ∧ (∀ k, (headsStepped r s).hazard.heads.get k = (s.hazard.heads.get k).map (headStep s.control.posture r.heads k))
      ∧ CallsHold s (headsStepped r s)
      ∧ ∀ k h, s.hazard.heads.get k = some h →
          HeadAsked s (headsStepped r s) k h (headStep s.control.posture r.heads k h) := by
  have seen := validSeen_keeps r s
  have held : CallsHold s (validSeen r s) := callsHold_watches.outside seen rfl
  obtain ⟨heads, zone⟩ := validSeen_hazard r s
  obtain ⟨-, zones, steps, calls, asked⟩ := stepHeads_spec r.heads allFour (by decide) (validSeen r s)
  rw [seen.control_eq, heads] at steps asked
  refine ⟨zones.trans zone, fun k => (steps k).trans (if_pos (mem_allFour k)), callsHold_watches.trans held calls,
    fun k h here => (asked k (mem_allFour k) h here).before held⟩

theorem headsJudged_spec (r : ScanReadings) (s : State) :
    (∀ k, (headsJudged r s).hazard.heads.get k = (s.hazard.heads.get k).map (headStep s.control.posture r.heads k))
      ∧ CallsHold s (headsJudged r s)
      ∧ (∀ k h, s.hazard.heads.get k = some h →
          HeadAsked s (headsJudged r s) k h (headStep s.control.posture r.heads k h))
      ∧ AlertFollows s (headsJudged r s) := by
  obtain ⟨zone, heads, calls, asked⟩ := headsStepped_spec r s
  have same : (headsJudged r s).calls = (headsStepped r s).calls := by
    rw [headsJudged, (evaluateBlind_keeps _).calls_eq, recomputeZone_calls]
  have follows : AlertFollows s (headsStepped r s) := .of_keeps (keepsAlert_rule.headsStepped r s) zone
    (by rw [(headsStepped_keeps r s).loader_eq, (validSeen_keeps r s).loader_eq])
  refine ⟨fun k => ?_, callsHold_watches.trans calls (.of_calls same), fun k h here => (asked k h here).after calls
    (.of_calls same), (follows.trans (.recomputeZone _)).trans (.of_keeps (keepsAlert_rule.evaluateBlind _)
      (by rw [headsJudged, evaluateBlind_hazard]) (evaluateBlind_keeps _).loader_eq)⟩
  rw [headsJudged, evaluateBlind_hazard, recomputeZone_hazard]
  exact heads k

theorem takeResult_valid {r : ScanReadings} (high : 960 ≤ r.refh.toNat) (low : r.refl.toNat ≤ 63) (s : State) :
    takeResult ⟨false, false⟩ r s = takeChains s.lamp r (headsJudged r s) := by
  have judged : referencesInBand r = true := by
    rw [referencesInBand, Bool.and_eq_true, decide_eq_true_iff, decide_eq_true_iff]
    exact ⟨high, low⟩
  exact (if_neg (by decide)).trans ((if_pos judged).trans (takeValidScan_eq r s))

/-- Settles O10: every head steps under the posture, then the zone, Blind and the chains follow, and a held scan starts. -/
theorem validScanStepsEveryHead : Obligations.ValidScanStepsEveryHead := by
  refine ⟨fun r present s running converting high low => ?_, Chain.take_spec, fun since l =>
    ⟨stripShow_of_lit, stripShow_of_flash, stripShow_of_chase, showBefore_spec since l⟩⟩
  have did : takeScan r present s =
      nextScan s.front.scanHeld present (takeChains s.lamp r (headsJudged r (scanEnded s))) := by
    rw [takeScan_eq converting, takeResult_valid high low]
    rfl
  have w := callsHold_watches
  have keeps := headsJudged_keeps r (scanEnded s)
  have seen := validSeen_keeps r (scanEnded s)
  obtain ⟨heads, calls, asked, follows⟩ := headsJudged_spec r (scanEnded s)
  obtain ⟨sign, chainA, chainB, -⟩ := chains_rule.headsJudged makeAlertRequest_chains r (scanEnded s)
  obtain ⟨scan, scanHeld, run, fault, refh, isg⟩ := validSeen_front r (scanEnded s)
  obtain ⟨chained, askedSign, askedA, askedB⟩ := takeChains_calls s.lamp r (headsJudged r (scanEnded s))
  have lamp := takeChains_lamp s.lamp r (headsJudged r (scanEnded s))
  have stands := stands_rule.trans (stands_rule.headsJudged makeAlertRequest_stands r (scanEnded s))
    (stands_rule.takeChains rfl s.lamp r _)
  have alert : AlertFollows s (takeChains s.lamp r (headsJudged r (scanEnded s))) :=
    (AlertFollows.trans (s := s) (u := scanEnded s) (.of_keeps ⟨rfl, rfl⟩ rfl rfl) follows).trans (.of_keeps
      (keepsAlert_rule.takeChains rfl s.lamp r _) (by rw [(takeChains_keeps _ _ _).hazard_eq])
      (takeChains_keeps _ _ _).loader_eq)
  have front : (takeChains s.lamp r (headsJudged r (scanEnded s))).front = (validSeen r (scanEnded s)).front :=
    (takeChains_keeps _ _ _).front_eq.trans keeps.front_eq
  have set : ∀ k, (takeChains s.lamp r (headsJudged r (scanEnded s))).hazard.heads.get k =
      (s.hazard.heads.get k).map (headStep s.control.posture r.heads k) := fun k => by
    rw [(takeChains_keeps _ _ _).hazard_eq]
    exact heads k
  have loader : (takeChains s.lamp r (headsJudged r (scanEnded s))).loader = s.loader := alert.loader
  have untaken : ∀ {x}, hasTaken s x = false → hasTaken (headsJudged r (scanEnded s)) x = false := fun no => (calls _ no).1
  generalize takeChains s.lamp r (headsJudged r (scanEnded s)) = v at *
  have kept : SameOutside scanFootprint s (nextScan s.front.scanHeld present v) := by
    rw [← did]
    exact takeScan_keeps s r present
  have next := nextScan_chains (present := present) s.front.scanHeld v
  refine changes_settled (work := takeScan r present) rfl running did kept (by decide) ?_
  have final := alert.trans (.nextScan (present := present) s.front.scanHeld v)
  have stood := stands_rule.trans stands (stands_rule.nextScan makeAlertRequest_stands s.front.scanHeld present rfl v)
  rw [settle_hazard, settle_front, settle_lamp]
  simp only [hasCall_congr (settle_calls _), hasCall_congr (nextScan_calls _ _), nextScan_heads, set, loader,
    nextScan_front, front, next.sign, next.chainA, next.chainB, lamp]
  refine ⟨fun k => rfl, ?_, ?_, ?_, ?_, ?_, ?_, (by rw [Lamp.graded, sign]; rfl),
    (by rw [Lamp.graded, chainA]; rfl), (by rw [Lamp.graded, chainB]; rfl), fun was now no => ?_, fun was now no => ?_, fun was now no => ?_, fun k h n here after => ?_,
    fun calm fire => (final.asks calm fire).settle stood⟩
  · split
    · rfl
    · exact scan
  · split
    · rfl
    · exact scanHeld
  · split <;> exact run
  · split <;> exact fault
  · split <;> exact refh
  · split <;> exact isg
  · exact askedSign (sign ▸ was) now (untaken no)
  · exact askedA (chainA ▸ was) now (untaken no)
  · exact askedB (chainB ▸ was) now (untaken no)
  · have stepped : n = headStep s.control.posture r.heads k h := by
      rw [here] at after
      split at after
      · split at after
        · exact (Option.some.inj after).symm
        · exact nomatch after
      · exact (Option.some.inj after).symm
    obtain ⟨onFire, onFault, onDirty⟩ := stepped ▸ asked k h here
    exact ⟨fun was now no => (chained _ (untaken no)).2 (onFire was now no),
      fun was now no => (chained _ (untaken no)).2 (onFault was now no),
      fun was now no => (chained _ (untaken no)).2 (onDirty was now no)⟩

end Sys2Proof.Machine
end


section
/-! SUPPORT. What the end of a reset reads, and the warm-up scan of a station in its reset state (sections 1.2, 5.9, 7.4,
10.1, 10.2). -/

namespace Sys2Proof.Machine

variable {s t u : State} {present : BitVec 4}

/-! ## The warm-up scan (R1, R7) -/

/-- The hazard evaluator of a station that has just been reset, with the heads that are present (R7, R24). -/
def hazardPresent (present : BitVec 4) : Hazard :=
  { Hazard.atReset with heads := headsPresent present Hazard.atReset.heads }

theorem hazardPresent_get (present : BitVec 4) (k : Fin 4) :
    (hazardPresent present).heads.get k =
      if present.getLsbD k.val then some (Head.fresh .smoke ⟨12, 24, 40⟩ false) else none := by
  refine (headsPresent_get k _).trans ?_
  rw [show Hazard.atReset.heads.get k = none from Four.get_fill none k]
  rfl

theorem hazardPresent_fresh {k : Fin 4} {h : Head} (here : (hazardPresent present).heads.get k = some h) :
    h = Head.fresh .smoke ⟨12, 24, 40⟩ false := by
  rw [hazardPresent_get] at here
  split at here
  · exact (Option.some.inj here).symm
  · exact nomatch here

theorem withHeads_present (present : BitVec 4) :
    Hazard.atReset.withHeads (headsPresent present Hazard.atReset.heads) = hazardPresent present := by
  have calm : fireRemoved Hazard.atReset.heads (headsPresent present Hazard.atReset.heads) = false := by
    rw [← Bool.not_eq_true, fireRemoved_present]
    rintro ⟨k, h, here, -⟩
    exact nomatch (Four.get_fill none k).symm.trans here
  rw [Hazard.withHeads, calm]
  rfl

theorem dirtyHeads_present (present : BitVec 4) : dirtyHeads (hazardPresent present) = dirtyHeads Hazard.atReset := by
  refine Four.ext_get fun k => ?_
  rw [dirtyHeads, dirtyHeads, Four.get_map, Four.get_map, show Hazard.atReset.heads.get k = none from Four.get_fill none k]
  cases here : (hazardPresent present).heads.get k with
  | none => rfl
  | some h =>
    rw [hazardPresent_fresh here]
    rfl

theorem zoneOf_present (present : BitVec 4) : zoneOf (hazardPresent present) = .clear := by
  obtain clear | ⟨k, r, here, level⟩ := (zoneOf_spec (h := hazardPresent present) rfl).2
  · exact clear
  · rw [← level, hazardPresent_fresh here]
    rfl

theorem blindOf_present (present : BitVec 4) : blindOf false (hazardPresent present).heads = false := by
  rw [← Bool.not_eq_true, blindOf_eq_true]
  rintro (no | ⟨⟨k, some⟩, all⟩)
  · exact nomatch no
  · obtain ⟨h, here⟩ := Option.isSome_iff_exists.1 some
    have dead := all k h here
    rw [hazardPresent_fresh here] at dead
    exact nomatch dead

/-- The warm-up scan of a station in its reset state takes the heads that are present, and nothing else follows. -/
theorem startScan_atReset (warmUp : Bool) (early : s.loader.state ≠ .loaded) (hazard : s.hazard = Hazard.atReset)
    (fault : s.front.fault = false) (turns : s.lamp.turns = []) :
    startScan warmUp present s = (s.setFront (s.front.scanning warmUp)).setHazard (hazardPresent present) := by
  have lamp : { s.lamp with turns := [] } = s.lamp := by rw [← turns]
  have begun : beginScan warmUp s = s.setFront (s.front.scanning warmUp) := by
    rw [beginScan, lamp]
    rfl
  rw [startScan_early warmUp early, begun, changeHeads_eq, headsShown, State.setFront_hazard, hazard, withHeads_present,
    if_pos (dirtyHeads_present present)]
  generalize scanned : (s.setFront (s.front.scanning warmUp)).setHazard (hazardPresent present) = u
  have watched : u.hazard = hazardPresent present := by rw [← scanned]; rfl
  have healthy : u.front.fault = false := by rw [← scanned]; exact fault
  have zone : recomputeZone u = u := if_pos (show zoneOf u.hazard = u.hazard.zone by rw [watched, zoneOf_present]; rfl)
  rw [zone]
  exact if_pos (show blindOf u.front.fault u.hazard.heads = u.hazard.blind by
    rw [watched, healthy, blindOf_present]; rfl)

/-! ## The key matrix (R135) -/

theorem mem_allCrossings (x : Crossing) : x ∈ allCrossings := by
  obtain ⟨kx, ky⟩ := x
  revert kx ky
  decide

theorem keyAt_injective {x y : Crossing} (same : keyAt x = keyAt y) : x = y := by
  have all : ∀ x ∈ allCrossings, ∀ y ∈ allCrossings, keyAt x = keyAt y → x = y := by decide
  exact all x (mem_allCrossings x) y (mem_allCrossings y) same

theorem keyAt_mem_keysRead (matrix : BitVec 9) (x : Crossing) :
    keyAt x ∈ keysRead matrix ↔ matrix.getLsbD (3 * x.kx.val + x.ky.val) = true := by
  rw [keysRead, List.mem_map]
  refine ⟨fun ⟨y, mem, same⟩ => ?_, fun down => ⟨x, List.mem_filter.2 ⟨mem_allCrossings x, down⟩, rfl⟩⟩
  obtain rfl := keyAt_injective same
  exact (List.mem_filter.1 mem).2

theorem keysRead_eq_nil (matrix : BitVec 9) : keysRead matrix = [] ↔ matrix = 0 := by
  refine ⟨fun none => BitVec.eq_of_getLsbD_eq fun i short => ?_, fun zero => by rw [zero]; decide⟩
  have up := (keyAt_mem_keysRead matrix ⟨⟨i / 3, by omega⟩, ⟨i % 3, Nat.mod_lt _ (by decide)⟩⟩).not.1 (by simp [none])
  rw [show 3 * (i / 3) + i % 3 = i from Nat.div_add_mod i 3] at up
  simpa using up

/-! ## The reset ends (R177) -/

/-- A line port that awaits the next Idle with no Alert held starts nothing. -/
theorem startSending_still (discards : s.line.receiver = .discard) (unheld : s.line.alertHeld = false) :
    startSending s = s := by
  simp [startSending, alertStarts, lineFree, discards, unheld]

/-- Settles O5: from its reset state the station reads the pins, and the warm-up scan takes the heads that are
present. -/
theorem resetEndReadsThePins : Obligations.ResetEndReadsThePins := by
  intro pins s held atReset
  have reset := atReset held
  have hazard : s.hazard = Hazard.atReset := by rw [reset]; rfl
  have front : s.front = FrontEnd.atReset := by rw [reset]; rfl
  have lamp : s.lamp.turns = [] := by rw [reset]; rfl
  have line : s.line.receiver = .discard ∧ s.line.alertHeld = false := by rw [reset]; exact ⟨rfl, rfl⟩
  have scanned := startScan_atReset (present := pins.present) (s := readPins pins (s.setPower .running)) true
    (by exact nofun) hazard (by exact front ▸ rfl) lamp
  have settled := startSending_still (s := startScan true pins.present (readPins pins (s.setPower .running)))
    (by rw [scanned]; exact line.1) (by rw [scanned]; exact line.2)
  have read : SameOutside [.loader, .doors, .calls, .post] (s.setPower .running) (readPins pins (s.setPower .running)) :=
    (((setLoader_keeps _ _).then (setDoors_keeps _ _)).then (setCalls_keeps _ _)).then (setPost_keeps _ _)
  refine ⟨_, if_pos held, ?_, ?_⟩
  · rw [settle, settled, scanned]
    exact (((((setPower_keeps s _).then read).then (setFront_keeps _ _)).then (setHazard_keeps _ _)).then
      (showOutputs_keeps _)).widen (by decide)
  · dsimp only
    rw [settle_power, settle_loader, settle_front, settle_hazard, settle_doors, settle_calls, settle_post, scanned]
    refine ⟨rfl, rfl, rfl, rfl, ?_, rfl, rfl, rfl, hazardPresent_get _, fun n => ?_, fun i => ?_, rfl, rfl,
      keyAt_mem_keysRead _, ?_, ?_⟩
    · change s.loader.result = .loading
      rw [reset]
      rfl
    · have leaf : ((readPins pins (s.setPower .running)).doors.leaves.get n) =
          Leaf.provisional (pins.doorClosed.getLsbD n.val) (pins.boltThrown.getLsbD n.val) := Four.get_tabulate _ n
      exact leaf ▸ ⟨rfl, Leaf.provisionalState_eq _⟩
    · exact Six.get_tabulate _ i
    · change freshPanel (keysRead pins.keysDown) = .ready ↔ _
      rw [freshPanel, ← keysRead_eq_nil]
      split <;> simp [*]
    · change freshPanel (keysRead pins.keysDown) = .locked ↔ _
      rw [freshPanel, ne_eq, ← keysRead_eq_nil]
      split <;> simp [*]

end Sys2Proof.Machine
end


section
/-! SUPPORT. What the works that follow a load's first part keep of the line port, the posture controller, the route, the
lamps and the leaves (sections 1.6, 2.4, 4.1, 5.1, 8.2, 10.3). -/

namespace Sys2Proof.Machine

variable {c W : List Block} {s t u : State} {R : State → State → Prop} {p : Profile}

/-! ## The route that stands (R60) -/

theorem routeOf_of_follows (follows : RouteFollows s) : routeOf s = s.route := by
  obtain ⟨exit, entries, again⟩ := follows
  have entries : Eight.tabulate (viaEntry s) = s.route.viaEntry :=
    Eight.ext_get fun j => (Eight.get_tabulate _ j).trans (entries j).symm
  rw [routeOf, ← exit, entries, again]

theorem computeRouteFrom_lamp_of_same {before : Nat} (same : (routeOf s).next = s.route.next) :
    (computeRouteFrom before s).lamp = s.lamp := by
  obtain ⟨-, kept⟩ | derived := computeRouteFrom_lamp before s
  · exact kept
  · unfold computeRouteFrom
    dsimp only
    rw [if_pos same]
    split
    · rfl
    · exact (queueBulletin_keeps _).lamp_eq

/-! ## The zone hazard and the posture (R20, R32) -/

/-- A zone that becomes Fire brings Evacuate. -/
theorem recomputeZone_evacuates (was : s.hazard.zone ≠ .fire) (fire : zoneOf s.hazard = .fire) :
    (recomputeZone s).control.posture = .evacuate := by
  rw [recomputeZone_control_of_fire was fire, takeOwnFire_control]
  split
  · next inside => exact inside
  · rfl

namespace PostureRule

variable {Q : Fin 4 → Posture → Base → Leaf → Prop}

/-- The property reads no more of the station than posture, base and the leaves. -/
theorem congr (_ : PostureRule Q) (posture : t.control.posture = s.control.posture) (base : t.control.base = s.control.base)
    (doors : t.doors = s.doors) (held : EachLeaf Q s) : EachLeaf Q t := fun n => by
  rw [posture, base, doors]
  exact held n

variable (r : PostureRule Q)
include r

theorem enterEvacuateUnled (s : State) (held : EachLeaf Q s) : EachLeaf Q (Machine.enterEvacuateUnled s) := by
  unfold Machine.enterEvacuateUnled Machine.enterEvacuate
  split
  · exact r.setPosture _ _ _ (r.congr rfl rfl rfl held)
  · exact r.setPosture _ _ _ (r.congr rfl rfl rfl held)

theorem takeOwnFire (s : State) (held : EachLeaf Q s) : EachLeaf Q (Machine.takeOwnFire s) := by
  unfold Machine.takeOwnFire
  dsimp only
  have joined : EachLeaf Q (setHushed false (s.setControl
      { s.control with fireSet := joinFireSet s.loader.station s.control.fireSet })) := by
    refine r.congr ?_ ?_ (setHushed_keeps _ false).doors_eq held <;> rw [setHushed_control]
  generalize setHushed false _ = v at joined
  have entered : EachLeaf Q (if v.control.posture = .evacuate then v else Machine.enterEvacuateUnled v) := by
    split
    · exact joined
    · exact r.enterEvacuateUnled v joined
  generalize (if v.control.posture = .evacuate then v else Machine.enterEvacuateUnled v) = w at entered
  refine r.congr ?_ ?_ (makeAlertRequest_keeps w).doors_eq entered <;> rw [makeAlertRequest_control]

theorem recomputeZone (s : State) (held : EachLeaf Q s) : EachLeaf Q (Machine.recomputeZone s) := by
  have w := r.watches
  unfold Machine.recomputeZone
  dsimp only
  have shown : EachLeaf Q (queueBulletin (s.setHazard { s.hazard with zone := zoneOf s.hazard })) :=
    w.outside ((setHazard_keeps s _).then (queueBulletin_keeps _)) rfl held
  split
  · exact held
  · refine r.evaluateMagnets _ (w.outside (computeRouteFrom_keeps _ _) rfl ?_)
    split
    · exact r.takeOwnFire _ shown
    · exact shown

end PostureRule

/-! ## What the works after a load's first part keep -/

/-- The aspect that the sign shows, the profile's default in the placeholder's place (R147). -/
def shownAspect (p : Profile) (l : Lamp) : Aspect := if l.placeholder then p.defaultAspect else l.aspect

/-- A work that re-evaluates the zone or asks for calls: the line port stands, marks and latches stay, a Fire zone under
the latch stays, the route stays current, and outside Evacuate next hop and aspect stand; the leaves follow posture and
magnets alone. -/
structure LoadKeeps (p : Profile) (s t : State) : Prop where
  line : s.line.Stands t.line
  mark : s.control.alertPending = true → t.control.alertPending = true
  manual : s.hazard.manualFire = true → t.hazard.manualFire = true
  fire : s.hazard.manualFire = true → s.hazard.zone = .fire → t.hazard.zone = .fire
  route : RouteCurrent s → RouteCurrent t
  evacuate : s.control.posture = .evacuate → t.control.posture = .evacuate
  calm : RouteCurrent s → t.control.posture ≠ .evacuate →
    t.route.next = s.route.next ∧ shownAspect p t.lamp = shownAspect p s.lamp
      ∧ (s.lamp.placeholder = false → t.lamp.placeholder = false)
  magnets : KeepsMagnets s t
  leaves : ∀ Q, PostureRule Q → EachLeaf Q s → EachLeaf Q t

namespace LoadKeeps

/-- The blocks that the relation reads beside the line port. -/
abbrev blocks : List Block := [.control, .hazard, .route, .lamp, .doors, .peers, .loader]

theorem of_line (h : SameOutside c s t) (clear : c.all (· ∉ blocks) = true) (line : s.line.Stands t.line) :
    LoadKeeps p s t := by
  have out : ∀ b ∈ blocks, b ∉ c := fun b read mem => absurd read (by simpa using List.all_eq_true.1 clear b mem)
  have control := h.control_eq (out _ (by decide))
  have hazard := h.hazard_eq (out _ (by decide))
  have lamp := h.lamp_eq (out _ (by decide))
  have route := h.route_eq (out _ (by decide))
  have apart : ∀ l : List Block, l ⊆ blocks → c.all (· ∉ l) = true := fun l part =>
    List.all_eq_true.2 fun b mem => decide_eq_true fun watched => out b (part watched) mem
  refine ⟨line, ?_, ?_, ?_, routeCurrent_watches.outside h (apart _ (by decide)), ?_, ?_, .of_outside h (apart _ (by decide)),
    fun Q r => r.watches.outside h (apart _ (by decide))⟩
  · rw [control]; exact id
  · rw [hazard]; exact id
  · rw [hazard]; exact fun _ => id
  · rw [control]; exact id
  · rw [route, lamp]; exact fun _ _ => ⟨rfl, rfl, id⟩

theorem trans (h : LoadKeeps p s t) (k : LoadKeeps p t u) : LoadKeeps p s u where
  line := h.line.trans k.line
  mark := k.mark ∘ h.mark
  manual := k.manual ∘ h.manual
  fire latched fire := k.fire (h.manual latched) (h.fire latched fire)
  route := k.route ∘ h.route
  evacuate := k.evacuate ∘ h.evacuate
  calm current calm := by
    obtain ⟨next, shown, placed⟩ := k.calm (h.route current) calm
    obtain ⟨before, was, stood⟩ := h.calm current fun inside => calm (k.evacuate inside)
    exact ⟨next.trans before, shown.trans was, placed ∘ stood⟩
  magnets := h.magnets.trans k.magnets
  leaves Q r := k.leaves Q r ∘ h.leaves Q r

/-- It is a rule for what the call unit asks. -/
theorem notices : NoticeRule [.line, .control, .hazard, .route, .lamp, .doors, .peers, .loader] (LoadKeeps p) where
  trans := .trans
  outside {c _ _} h clear := by
    have line := h.line_eq fun mem => absurd (List.all_eq_true.1 clear _ mem) (by decide)
    refine .of_line h (List.all_eq_true.2 fun b mem => decide_eq_true fun read => ?_) (line ▸ .refl _)
    have off : b ∉ _ := of_decide_eq_true (List.all_eq_true.1 clear b mem)
    exact off (List.mem_cons_of_mem _ read)
  beside := rfl
  notice count n s := .of_line (queueNotice_keeps s count n) rfl (stands_rule.notice count n s)

theorem queueBulletin (s : State) : LoadKeeps p s (Machine.queueBulletin s) :=
  .of_line (queueBulletin_keeps s) rfl (stands_rule.bulletin s)

/-- A change of the hazard evaluator that leaves the zone and does not take the latch back. -/
theorem setHazard {x : Hazard} (zone : x.zone = s.hazard.zone) (latch : s.hazard.manualFire = true → x.manualFire = true) :
    LoadKeeps p s (s.setHazard x) where
  line := .refl _
  mark := id
  manual := latch
  fire _ fire := zone.trans fire
  route := routeCurrent_watches.outside (setHazard_keeps s x) rfl
  evacuate := id
  calm _ _ := ⟨rfl, rfl, id⟩
  magnets := setHazard_keepsMagnets s x zone
  leaves _ r := r.watches.outside (setHazard_keeps s x) rfl

theorem recomputeZone (s : State) : LoadKeeps p s (Machine.recomputeZone s) where
  line := stands_rule.recomputeZone fun _ => makeAlertRequest_stands
  mark marked := by
    obtain ⟨-, kept⟩ | ⟨-, asks⟩ := (AlertFollows.recomputeZone s).marks
    · exact kept.trans marked
    · rw [asks, makeAlertRequest_control, marked]
      rfl
  manual latched := by
    rw [recomputeZone_hazard]
    exact latched
  fire latched _ := by
    rw [recomputeZone_hazard]
    exact zoneOf_of_manual latched
  route := (recomputeZone_run s).rel routeCurrent_watches fun _ _ _ m => move_current m
  evacuate := recomputeZone_posture
  calm current calm := by
    by_cases same : zoneOf s.hazard = s.hazard.zone
    · have still : Machine.recomputeZone s = s := if_pos same
      rw [still]
      exact ⟨rfl, rfl, id⟩
    · have below : zoneOf s.hazard ≠ .fire := fun fire =>
        calm (recomputeZone_evacuates (fun was => same (fire.trans was.symm)) fire)
      unfold Machine.recomputeZone
      dsimp only
      rw [if_neg same, if_neg below]
      have shown := ((setHazard_keeps s { s.hazard with zone := zoneOf s.hazard }).then (queueBulletin_keeps _))
      generalize Machine.queueBulletin (s.setHazard { s.hazard with zone := zoneOf s.hazard }) = v at shown
      have stands : RouteCurrent v := routeCurrent_watches.outside shown rfl current
      have again := routeOf_of_follows stands.1
      rw [(evaluateMagnets_keeps _).route_eq, (evaluateMagnets_keeps _).lamp_eq, computeRouteFrom_route, again,
        computeRouteFrom_lamp_of_same (by rw [again]), shown.route_eq, shown.lamp_eq]
      exact ⟨rfl, rfl, id⟩
  magnets := recomputeZone_keepsMagnets s
  leaves _ r := r.recomputeZone s

theorem evaluateBlind (s : State) : LoadKeeps p s (Machine.evaluateBlind s) :=
  notices.ite (notices.refl s) (.trans
    (.setHazard (x := { s.hazard with blind := blindOf s.front.fault s.hazard.heads }) rfl id) (.queueBulletin _))

theorem changeHeads (new : Four (Option Head)) (s : State) : LoadKeeps p s (Machine.changeHeads new s) := by
  have set : LoadKeeps p s (s.setHazard (s.hazard.withHeads new)) :=
    .setHazard rfl fun latched => by rw [Hazard.withHeads, latched]; rfl
  rw [changeHeads_eq]
  exact ((set.trans (notices.ite (notices.refl _) (.queueBulletin _))).trans (.recomputeZone _)).trans (.evaluateBlind _)

theorem configureHeads (p : Profile) (s : State) : LoadKeeps p s (Machine.configureHeads p s) :=
  notices.ite (.trans (notices.outside (setFront_keeps s _) rfl) (.changeHeads _ _)) (notices.refl s)

theorem showDefaultAspect (p : Profile) (s : State) : LoadKeeps p s (Machine.showDefaultAspect p s) := by
  have keeps := showDefaultAspect_keeps s p
  have lamp : shownAspect p (Machine.showDefaultAspect p s).lamp = shownAspect p s.lamp
      ∧ (s.lamp.placeholder = false → (Machine.showDefaultAspect p s).lamp.placeholder = false) := by
    unfold Machine.showDefaultAspect
    split
    · next replaced =>
      obtain ⟨-, -, placed⟩ := replaced
      simp [shownAspect, placed]
    · exact ⟨rfl, id⟩
  refine ⟨by rw [keeps.line_eq]; exact .refl _, ?_, ?_, ?_, routeCurrent_watches.outside keeps rfl, ?_, fun _ _ => ?_,
    .of_outside keeps rfl, fun Q r => r.watches.outside keeps rfl⟩
  · rw [keeps.control_eq]; exact id
  · rw [keeps.hazard_eq]; exact id
  · rw [keeps.hazard_eq]; exact fun _ => id
  · rw [keeps.control_eq]; exact id
  · rw [keeps.route_eq]
    exact ⟨rfl, lamp⟩

theorem raiseProfileFault (s : State) : LoadKeeps p s (Machine.raiseProfileFault s) := by
  have flagged : LoadKeeps p s (s.setLoader { s.loader with profileFault := true }) :=
    ⟨.refl _, id, id, fun _ => id, routeCurrent_of_view (by rfl), id, fun _ _ => ⟨rfl, rfl, id⟩,
      .of_outside (setLoader_keeps s _) rfl, fun _ r => r.watches.outside (setLoader_keeps s _) rfl⟩
  exact notices.ite (notices.refl s) ((flagged.trans (notices.requestCall _ _)).trans (.queueBulletin _))

theorem takeFirePress (i : Fin 6) (s : State) : LoadKeeps p s (Machine.takeFirePress i s) := by
  unfold Machine.takeFirePress
  dsimp only
  refine notices.ite ?_ (notices.refl s)
  have cleared : LoadKeeps p s (s.setInput i { s.calls.inputs.get i with pressed := false }) :=
    notices.outside (setCalls_keeps s _) rfl
  generalize s.setInput i { s.calls.inputs.get i with pressed := false } = v at cleared
  have latched : LoadKeeps p v (v.setHazard { v.hazard with manualFire := true }) := .setHazard rfl fun _ => rfl
  exact ((cleared.trans latched).trans (.recomputeZone _)).trans (notices.requestCall _ _)

theorem takeWaitingPress (s : State) (i : Fin 6) : LoadKeeps p s (Machine.takeWaitingPress s i) := by
  unfold Machine.takeWaitingPress
  split
  · exact notices.takeHelpPress i s
  · exact .takeFirePress i s
  · exact notices.outside (setCalls_keeps s _) rfl
  · exact notices.outside (setCalls_keeps s _) rfl

theorem takeWaiting (s : State) : LoadKeeps p s (Machine.takeWaiting s) :=
  .trans (notices.foldl _ takeWaitingPress allSix s) (notices.requestMotion _)

end LoadKeeps

end Sys2Proof.Machine
end


section
/-! SUPPORT. What a load makes of the leaves and of the presses that waited (sections 5.1, 5.9, 6.1, 6.2). -/

namespace Sys2Proof.Machine

variable {c : List Block} {s t u : State} {p : Profile} {x src : Source} {old lf : Leaf} {config : LeafConfig}

/-! ## A leaf that is carried over (R80, R103) -/

/-- The leaf comes of the record `old` under a lock demand: the contacts stand, an Open leaf stays Open, and a Closed
one and one Jammed toward release go by the demand and the bolt contact. -/
def Leaf.Rests (old : Leaf) (demand : Bool) (lf : Leaf) : Prop :=
  lf.doorClosed = old.doorClosed ∧ lf.boltThrown = old.boltThrown ∧ lf.pressLatch = old.pressLatch ∧ lf.pass = old.pass
    ∧ (old.state = .opened → old.prop = none →
        lf.state = .opened ∧ lf.bolt = old.bolt ∧ (lf.prop = none ∨ lf.prop = some 0))
    ∧ (old.state = .closed → old.boltThrown = false →
        lf.state = (if demand then .securing else .closed) ∧ lf.bolt = if demand then some 0 else none)
    ∧ (old.state = .jammed .release → old.boltThrown = true →
        lf.state = (if demand then .secured else .releasing) ∧ lf.bolt = if demand then none else some 0)

/-- And its prop timer runs exactly where R93 has it run. -/
def Leaf.Carries (config : LeafConfig) (old : Leaf) (demand : Bool) (lf : Leaf) : Prop :=
  old.Rests demand lf
    ∧ (old.state = .opened → old.prop = none →
        lf.prop = if demand = true ∧ ¬(config.fire = true ∧ lf.magnet = true) then some 0 else none)
    ∧ (lf.state ≠ .opened → lf.prop = none)

theorem Leaf.Rests.propChecked {demand : Bool} (rests : old.Rests demand lf) (d : Bool) : old.Rests demand (lf.propChecked d) := by
  obtain ⟨door, bolt, latch, pass, opened, closed, jammed⟩ := rests
  rw [Leaf.propChecked_eq]
  refine ⟨door, bolt, latch, pass, fun was stopped => ?_, closed, jammed⟩
  obtain ⟨state, bolt, prop⟩ := opened was stopped
  refine ⟨state, bolt, ?_⟩
  dsimp only
  split
  · obtain none | zero := prop
    · exact .inr (by rw [none]; rfl)
    · exact .inr (by rw [zero]; rfl)
  · exact .inl rfl

/-- Where its prop timer is checked, a leaf that comes of a record is carried over (R93, R103). -/
theorem Leaf.Rests.carries {demand : Bool} (rests : old.Rests demand lf) {exitDoor : Bool} {links : List (Fin 8)}
    (role : lf.role = .configured config exitDoor links) : old.Carries config demand (lf.propChecked demand) := by
  refine ⟨rests.propChecked demand, fun was stopped => ?_, fun shut => ?_⟩
  · obtain ⟨-, -, -, -, opened, -, -⟩ := rests
    obtain ⟨state, -, prop⟩ := opened was stopped
    have runs := Leaf.propRuns_iff (demand := demand) state role
    rw [Leaf.propChecked_eq]
    dsimp only
    by_cases goes : demand = true ∧ ¬(config.fire = true ∧ lf.magnet = true)
    · rw [if_pos (runs.2 goes), if_pos goes]
      obtain none | zero := prop
      · rw [none]; rfl
      · rw [zero]; rfl
    · rw [if_neg (runs.not.2 goes), if_neg goes]
  · rw [Leaf.state_propChecked] at shut
    rw [Leaf.propChecked_eq]
    exact if_neg (by simp [Leaf.propRuns, shut])

/-- A leaf that is shut comes to rest by its demand and its bolt contact (R85, R103). -/
theorem Leaf.rests_shut (demand : Bool) (door : lf.doorClosed = old.doorClosed) (bolt : lf.boltThrown = old.boltThrown)
    (latch : lf.pressLatch = old.pressLatch) (pass : lf.pass = old.pass) (shut : old.state = .opened → old.prop ≠ none) :
    old.Rests demand (lf.shut demand) := by
  obtain ⟨doors, bolts, latches, passes⟩ := Leaf.shut_contacts demand lf
  refine ⟨doors.trans door, bolts.trans bolt, latches.trans latch, passes.trans pass,
    fun was stopped => absurd stopped (shut was), fun _ withdrawn => ?_, fun _ thrown => ?_⟩
  · rw [Leaf.shut_state, Leaf.shut_bolt, bolt, withdrawn]
    cases demand <;> exact ⟨rfl, rfl⟩
  · rw [Leaf.shut_state, Leaf.shut_bolt, bolt, thrown]
    cases demand <;> exact ⟨rfl, rfl⟩

/-- A change of the lock demand takes a leaf at rest to rest (R84, R103). -/
theorem Leaf.Rests.takeDemand {before now : Bool} (rests : old.Rests before lf) (changed : before ≠ now) :
    old.Rests now (lf.takeDemand now) := by
  obtain ⟨door, bolt, latch, pass, opened, closed, jammed⟩ := rests
  cases now with
  | false =>
    obtain rfl : before = true := by simpa using changed
    rw [Leaf.takeDemand_false]
    split
    · next lock =>
      refine Leaf.rests_shut false door bolt latch pass fun was stopped => ?_
      rw [(opened was stopped).1] at lock
      exact nomatch lock
    · next release =>
      refine ⟨door, bolt, latch, pass, opened, fun was withdrawn => absurd ?_ release, fun was thrown => absurd ?_ release⟩
      · rw [(closed was withdrawn).1]; rfl
      · rw [(jammed was thrown).1]; rfl
  | true =>
    obtain rfl : before = false := by simpa using changed
    rw [Leaf.takeDemand_true]
    split
    · next stays =>
      refine ⟨door, bolt, latch, pass, opened, fun was withdrawn => absurd stays ?_, fun was thrown => absurd stays ?_⟩
      · rw [(closed was withdrawn).1]; decide
      · rw [(jammed was thrown).1]; decide
    · next moves =>
      refine Leaf.rests_shut true door bolt latch pass fun was stopped => moves (.inl ?_)
      rw [(opened was stopped).1]
      decide

/-- The leaf at the load comes of the provisional record (R103). -/
theorem Leaf.rests_carried (demand : Bool) (old : Leaf) (role : LeafRole) :
    old.Rests demand (Leaf.carried demand { old with role := role }) := by
  unfold Leaf.carried
  split
  · next open' =>
    have was : old.state = .opened := open'
    refine ⟨rfl, rfl, rfl, rfl, fun _ stopped => ⟨was, rfl, .inl stopped⟩, fun no => ?_, fun no => ?_⟩ <;>
      exact nomatch was.symm.trans no
  · next shut => exact Leaf.rests_shut demand rfl rfl rfl rfl fun was => absurd was shut

/-- The role that a profile gives a position (R80). -/
def loadedRole (p : Profile) (n : Fin 4) : LeafRole :=
  match p.leaves.get n with
  | some c => .configured c (p.exitLeaf == some n) (linksOf p n)
  | none => .dropped

theorem loadedRole_some {n : Fin 4} (given : p.leaves.get n = some config) :
    loadedRole p n = .configured config (p.exitLeaf == some n) (linksOf p n) := by rw [loadedRole, given]

/-- A position has the role that the profile gives it, and a configured leaf is carried over. -/
def CarriedOver (p : Profile) (olds : Four Leaf) (n : Fin 4) (posture : Posture) (base : Base) (lf : Leaf) : Prop :=
  lf.role = loadedRole p n
    ∧ ∀ config, p.leaves.get n = some config → (olds.get n).Carries config (lockDemand posture base lf) lf

/-- Changes of posture and magnets keep the leaves carried over. -/
theorem carriedOver_rule (p : Profile) (olds : Four Leaf) : PostureRule (CarriedOver p olds) where
  posture n s oldP oldB lf held := by
    obtain ⟨role, carried⟩ := held
    have claim := claim_leafUnderPosture s oldP oldB lf
    refine ⟨(congrArg Prod.fst claim).trans role, fun config given => ?_⟩
    obtain ⟨rests, -, -⟩ := carried config given
    rw [lockDemand_congr claim]
    unfold leafUnderPosture
    dsimp only
    have switched : (olds.get n).Rests (lockDemand oldP oldB lf) { lf with magnet := magnetNow s lf } := rests
    split
    · next same =>
      have same : lockDemand oldP oldB lf = lockDemand s.control.posture s.control.base lf := same
      rw [same] at switched
      exact switched.carries (role.trans (loadedRole_some given))
    · next changed =>
      refine (switched.takeDemand changed).carries (Eq.trans ?_ (loadedRole_some given))
      exact (congrArg Prod.fst (Leaf.claim_takeDemand _ _)).trans role
  magnet n posture base lf on held := by
    obtain ⟨role, carried⟩ := held
    have claim := Leaf.claim_propChecked (lockDemand posture base { lf with magnet := on }) { lf with magnet := on }
    refine ⟨(congrArg Prod.fst claim).trans role, fun config given => ?_⟩
    obtain ⟨rests, -, -⟩ := carried config given
    rw [lockDemand_congr claim]
    have switched : (olds.get n).Rests (lockDemand posture base lf) { lf with magnet := on } := rests
    exact switched.carries (role.trans (loadedRole_some given))

/-- The load carries the leaves over (R80, R103). -/
theorem configureLeaves_carriedOver (p : Profile) (s : State) :
    EachLeaf (CarriedOver p s.doors.leaves) (configureLeaves p s) := by
  intro n
  rw [configureLeaves, State.setDoors_doors, State.setDoors_control, Four.get_tabulate]
  cases given : p.leaves.get n with
  | none =>
    rw [configureLeaf_of_none s given]
    exact ⟨by rw [loadedRole, given], fun config some => nomatch given.symm.trans some⟩
  | some config =>
    rw [configureLeaf_of_some s given]
    have rests := Leaf.rests_carried
      (demandNow s ((s.doors.leaves.get n).configured p n config)) (s.doors.leaves.get n)
      (.configured config (p.exitLeaf == some n) (linksOf p n))
    have claim := Leaf.claim_carried (demandNow s ((s.doors.leaves.get n).configured p n config))
      ((s.doors.leaves.get n).configured p n config)
    generalize carried : Leaf.carried (demandNow s ((s.doors.leaves.get n).configured p n config))
      ((s.doors.leaves.get n).configured p n config) = lf at claim ⊢
    have rests : (s.doors.leaves.get n).Rests (demandNow s ((s.doors.leaves.get n).configured p n config)) lf :=
      carried ▸ rests
    have role : lf.role = .configured config (p.exitLeaf == some n) (linksOf p n) := congrArg Prod.fst claim
    have checked := Leaf.claim_propChecked (demandNow s ((s.doors.leaves.get n).configured p n config))
      { lf with magnet := magnetNow s lf }
    refine ⟨(congrArg Prod.fst checked).trans (role.trans (loadedRole_some given).symm), fun other some => ?_⟩
    obtain rfl := Option.some.inj (given.symm.trans some)
    have demand : demandNow s ((s.doors.leaves.get n).configured p n config) = lockDemand s.control.posture s.control.base lf :=
      (lockDemand_congr claim).symm
    rw [lockDemand_congr checked, demand]
    have switched : (s.doors.leaves.get n).Rests (lockDemand s.control.posture s.control.base lf)
        { lf with magnet := magnetNow s lf } := by
      rw [← demand]
      exact rests
    exact switched.carries role

/-- Where the magnets agree, a leaf that is carried over is so in the rules' words. -/
theorem leafCarriedOver {n : Fin 4} {olds : Four Leaf} (magnets : MagnetsAgree t)
    (carried : EachLeaf (CarriedOver p olds) t) (given : p.leaves.get n = some config) :
    LeafCarriedOver config (olds.get n) t (t.doors.leaves.get n) := by
  obtain ⟨-, carries⟩ := carried n
  obtain ⟨⟨door, bolt, latch, pass, opened, closed, jammed⟩, prop, still⟩ := carries config given
  refine ⟨door, bolt, latch, pass, magnets n, fun was stopped => ?_, fun was withdrawn => ?_, fun was thrown => ?_⟩
  · obtain ⟨state, bolt, -⟩ := opened was stopped
    exact ⟨state, bolt, prop was stopped⟩
  · obtain ⟨state, bolt⟩ := closed was withdrawn
    refine ⟨still ?_, state, bolt⟩
    rw [state]
    split <;> exact nofun
  · obtain ⟨state, bolt⟩ := jammed was thrown
    refine ⟨still ?_, state, bolt⟩
    rw [state]
    split <;> exact nofun

end Sys2Proof.Machine
end


section
/-! SUPPORT. What a load makes of the presses that waited, and the rows of the profile read (sections 6.1, 6.2, 10.2 to
10.5). -/

namespace Sys2Proof.Machine

variable {c : List Block} {s t u : State} {p : Profile} {x src : Source}

/-! ## Calls that come along the way (R106, R110, R113) -/

/-- A request brings no other source a call. -/
theorem hasCall_requestCall_only (has : hasCall (requestCall src s) x = true) : x = src ∨ hasCall s x = true := by
  cases here : hasCall s src with
  | true => exact .inr (by rwa [requestCall_of_hasCall here] at has)
  | false =>
    rw [requestCall_of_new here] at has
    have raised : ∀ i, (∃ j, ((s.calls.slots.set i (raisedSlot s i src)).get j).isOpen = true
        ∧ ((s.calls.slots.set i (raisedSlot s i src)).get j).source = some x) → x = src ∨ hasCall s x = true := by
      rintro i ⟨j, isOpen, source⟩
      by_cases same : j = i
      · rw [same, Eight.get_set_self] at source
        exact .inl (Option.some.inj source).symm
      · rw [Eight.get_set_of_ne _ _ _ _ same] at isOpen source
        exact .inr (hasCall_iff.2 (.inl ⟨j, isOpen, source⟩))
    cases free : freeSlot s with
    | some i =>
      rw [raiseCall_of_free free, hasCall_iff, raiseInto_calls] at has
      exact has.elim (raised i) fun waits => .inr (hasCall_iff.2 (.inr waits))
    | none =>
      cases evicted : evictedSlot s (kindOf s src).rank with
      | none =>
        rw [raiseCall_of_none free evicted, hasCall_iff, setPendingFlag_calls] at has
        obtain slot | waits := has
        · exact .inr (hasCall_iff.2 (.inl slot))
        · dsimp only at waits
          split at waits
          · exact .inr (hasCall_iff.2 (.inr waits))
          · obtain before | now := List.mem_append.1 waits
            · exact .inr (hasCall_iff.2 (.inr before))
            · exact .inl (List.mem_singleton.1 now)
      | some i =>
        rw [hasCall_iff, raiseCall_evicting free evicted] at has
        refine has.elim (raised i) fun waits => .inr ?_
        obtain same | ⟨old, displaced, -, same⟩ :=
          pendIfAsserted_cases (s.calls.slots.get i).source (queueCleared i s) <;>
          rw [same, queueCleared_calls] at waits
        · exact hasCall_iff.2 (.inr waits)
        · obtain before | now := List.mem_append.1 waits
          · exact hasCall_iff.2 (.inr before)
          · obtain rfl := List.mem_singleton.1 now
            exact hasCall_iff.2 (.inl ⟨i, outranked_isOpen (evictedSlot_spec evicted), displaced⟩)

/-- The Motion sources' requests bring a call to asserted Motion inputs alone. -/
theorem hasCall_requestMotion_only (has : hasCall (requestMotion s) x = true)
    (other : ∀ k, x = .input k → asserted s k = false) : hasCall s x = true := by
  have all : ∀ (l : List (Fin 6)) (u : State), (∀ k, asserted u k = asserted s k) →
      hasCall (l.foldl (fun v i => if asserted v i then requestCall (.input i) v else v) u) x = true →
      hasCall u x = true := by
    intro l
    induction l with
    | nil => exact fun _ _ => id
    | cons i l ih =>
      intro u same has
      rw [List.foldl_cons] at has
      split at has
      · next calls =>
        have before := ih _ (fun k => ((SameAside.requestCall (.input i) u).asserted k).trans (same k)) has
        refine (hasCall_requestCall_only before).resolve_left fun named => ?_
        exact Bool.false_ne_true ((other i named).symm.trans ((same i).symm.trans calls))
      · exact ih u same has
  exact all allSix s (fun _ => rfl) has

theorem CallsHold.requestMotion (s : State) : CallsHold s (Machine.requestMotion s) :=
  callsHold_watches.foldl _ (fun u i => callsHold_watches.ite (.requestCall (.input i) u) (callsHold_watches.refl u)) allSix s

/-! ## The presses that waited (R107) -/

theorem inputKind_of_config (config : s.loader.config = some p) (i : Fin 6) : inputKind s i = p.inputs.get i := by
  rw [inputKind, config]

/-- An input whose press has been taken. -/
def Input.taken (x : Input) : Input := { x with pressed := false }

theorem takeHelpPress_pressed {i : Fin 6} (pressed : (s.calls.inputs.get i).pressed = true)
    (kind : inputKind s i = .helpPoint) :
    takeHelpPress i s = requestCall (.input i) (s.setInput i (s.calls.inputs.get i).taken) := by
  simp only [takeHelpPress, pressed, kind]
  rfl

/-- The waiting press of one input is taken. -/
structure PressTaken (s t : State) (i : Fin 6) (kind : InputKind) : Prop where
  loader : t.loader = s.loader
  inputs : t.calls.inputs = s.calls.inputs.set i (s.calls.inputs.get i).taken
  held : CallsHold s t
  asks : (s.calls.inputs.get i).pressed = true → kind = .helpPoint ∨ kind = .firePoint → hasCall t (.input i) = true
  fire : (s.calls.inputs.get i).pressed = true → kind = .firePoint →
    t.hazard.manualFire = true ∧ t.hazard.zone = .fire
  only : ∀ x, (x = .input i → kind = .unconfigured) → hasCall t x = true → hasCall s x = true

/-- An input that is not pressed stands. -/
theorem pressTaken_of_quiet {i : Fin 6} {kind : InputKind} (quiet : (s.calls.inputs.get i).pressed = false) :
    PressTaken s s i kind where
  loader := rfl
  inputs := by
    refine Six.ext_get fun j => ?_
    by_cases here : j = i
    · rw [here, Six.get_set_self, Input.taken, ← quiet]
    · rw [Six.get_set_of_ne _ _ _ _ here]
  held := callsHold_watches.refl s
  asks pressed := absurd (pressed.symm.trans quiet) (by decide)
  fire pressed := absurd (pressed.symm.trans quiet) (by decide)
  only _ _ := id

theorem takeWaitingPress_taken (s : State) (i : Fin 6) : PressTaken s (takeWaitingPress s i) i (inputKind s i) := by
  cases pressed : (s.calls.inputs.get i).pressed with
  | false =>
    have still : takeWaitingPress s i = s ∨ takeWaitingPress s i = s.setInput i (s.calls.inputs.get i).taken := by
      unfold takeWaitingPress
      split
      · exact .inl (by simp [takeHelpPress, pressed])
      · exact .inl (by simp [takeFirePress, pressed])
      · exact .inr rfl
      · exact .inr rfl
    have same : s.setInput i (s.calls.inputs.get i).taken = s := by
      have inputs := (pressTaken_of_quiet (kind := inputKind s i) pressed).inputs
      rw [State.setInput, ← inputs]
      rfl
    obtain still | still := still
    · rw [still]
      exact pressTaken_of_quiet pressed
    · rw [still, same]
      exact pressTaken_of_quiet pressed
  | true =>
    have cleared : CallsHold s (s.setInput i (s.calls.inputs.get i).taken) := fun x untaken => ⟨untaken, id⟩
    have dropped : ∀ kind, kind ≠ .helpPoint → kind ≠ .firePoint →
        PressTaken s (s.setInput i (s.calls.inputs.get i).taken) i kind := fun kind help fire =>
      ⟨rfl, rfl, cleared, fun _ either => absurd either (by simp [help, fire]), fun _ is => absurd is fire, fun _ _ => id⟩
    unfold takeWaitingPress
    split
    · next help =>
      rw [takeHelpPress_pressed pressed help, help]
      have aside := SameAside.requestCall (.input i) (s.setInput i (s.calls.inputs.get i).taken)
      refine ⟨aside.loader, aside.inputs, callsHold_watches.trans cleared (.requestCall _ _),
        fun _ _ => hasCall_requestCall _ _, fun _ no => (nomatch no), fun x other has => ?_⟩
      exact (hasCall_requestCall_only has).resolve_left fun named => nomatch other named
    · next fire =>
      rw [takeFirePress_fire pressed fire, fire]
      have aside := SameAside.requestCall (.input i) (recomputeZone (firePressed i s))
      have calls : (recomputeZone (firePressed i s)).calls = (s.setInput i (s.calls.inputs.get i).taken).calls :=
        recomputeZone_calls _
      refine ⟨aside.loader.trans (recomputeZone_keeps _).loader_eq, aside.inputs.trans (congrArg Calls.inputs calls), ?_,
        fun _ _ => hasCall_requestCall _ _, fun _ _ => ?_, fun x other has => ?_⟩
      · exact callsHold_watches.trans cleared (callsHold_watches.trans (.of_calls calls) (.requestCall _ _))
      · rw [(requestCall_keeps _ _).hazard_eq, recomputeZone_hazard]
        exact ⟨rfl, zoneOf_of_manual (h := (firePressed i s).hazard) rfl⟩
      · have before := (hasCall_requestCall_only has).resolve_left fun named => nomatch other named
        rw [hasCall_congr calls] at before
        exact before
    · next motion => rw [motion]; exact dropped _ nofun nofun
    · next unconfigured => rw [unconfigured]; exact dropped _ nofun nofun

/-- The waiting presses of a list of inputs are taken one after another. -/
theorem takePresses_spec (config : s.loader.config = some p) (l : List (Fin 6)) (once : l.Nodup) :
    (l.foldl takeWaitingPress s).loader = s.loader
      ∧ (∀ i, (l.foldl takeWaitingPress s).calls.inputs.get i =
          if i ∈ l then (s.calls.inputs.get i).taken else s.calls.inputs.get i)
      ∧ CallsHold s (l.foldl takeWaitingPress s)
      ∧ (∀ i ∈ l, (s.calls.inputs.get i).pressed = true → p.inputs.get i = .helpPoint ∨ p.inputs.get i = .firePoint →
          hasTaken s (.input i) = false → hasCall (l.foldl takeWaitingPress s) (.input i) = true)
      ∧ (∀ i ∈ l, (s.calls.inputs.get i).pressed = true → p.inputs.get i = .firePoint →
          (l.foldl takeWaitingPress s).hazard.manualFire = true ∧ (l.foldl takeWaitingPress s).hazard.zone = .fire)
      ∧ ∀ x, (∀ i ∈ l, x = .input i → p.inputs.get i = .unconfigured) →
          hasCall (l.foldl takeWaitingPress s) x = true → hasCall s x = true := by
  induction l generalizing s with
  | nil => exact ⟨rfl, fun i => rfl, callsHold_watches.refl s, nofun, nofun, fun _ _ => id⟩
  | cons j l ih =>
    obtain ⟨out, once⟩ := List.nodup_cons.1 once
    have one := takeWaitingPress_taken s j
    rw [inputKind_of_config config] at one
    have others : ∀ i, i ≠ j → (takeWaitingPress s j).calls.inputs.get i = s.calls.inputs.get i := fun i other => by
      rw [one.inputs, Six.get_set_of_ne _ _ _ _ other]
    obtain ⟨loader, inputs, held, asks, fire, only⟩ := ih (s := takeWaitingPress s j) (one.loader ▸ config) once
    rw [List.foldl_cons]
    refine ⟨loader.trans one.loader, fun i => ?_, callsHold_watches.trans one.held held, fun i mem pressed kind untaken => ?_,
      fun i mem pressed kind => ?_, fun x other has => ?_⟩
    · rw [inputs i]
      by_cases here : i = j
      · rw [here, if_neg out, if_pos List.mem_cons_self, one.inputs, Six.get_set_self]
      · rw [others i here]
        exact if_congr (by simp [here]) rfl rfl
    · obtain rfl | late := List.mem_cons.1 mem
      · exact (held _ (one.held _ untaken).1).2 (one.asks pressed kind)
      · have other : i ≠ j := fun same => out (same ▸ late)
        exact asks i late (by rw [others i other]; exact pressed) kind (one.held _ untaken).1
    · obtain rfl | late := List.mem_cons.1 mem
      · obtain ⟨latched, burns⟩ := one.fire pressed kind
        have keeps : LoadKeeps p (takeWaitingPress s i) (l.foldl takeWaitingPress (takeWaitingPress s i)) :=
          LoadKeeps.notices.foldl _ LoadKeeps.takeWaitingPress l _
        exact ⟨keeps.manual latched, keeps.fire latched burns⟩
      · have other : i ≠ j := fun same => out (same ▸ late)
        exact fire i late (by rw [others i other]; exact pressed) kind
    · refine one.only x (fun named => other j List.mem_cons_self named) (only x (fun i mem => ?_) has)
      exact other i (List.mem_cons_of_mem _ mem)

/-- The waiting presses are taken, and the asserted Motion inputs ask (R107, R110). -/
structure WaitingTaken (p : Profile) (s t : State) : Prop where
  loader : t.loader = s.loader
  inputs : ∀ i, t.calls.inputs.get i = (s.calls.inputs.get i).taken
  held : CallsHold s t
  asks : ∀ i, (s.calls.inputs.get i).pressed = true → p.inputs.get i = .helpPoint ∨ p.inputs.get i = .firePoint →
    hasTaken s (.input i) = false → hasCall t (.input i) = true
  fire : ∀ i, (s.calls.inputs.get i).pressed = true → p.inputs.get i = .firePoint →
    t.hazard.manualFire = true ∧ t.hazard.zone = .fire
  motion : ∀ i, p.inputs.get i = .motion → (s.calls.inputs.get i).active = true → t.control.posture = .night →
    hasCall t (.input i) = true
  only : ∀ i, p.inputs.get i = .unconfigured → hasCall t (.input i) = true → hasCall s (.input i) = true

theorem takeWaiting_taken (config : s.loader.config = some p) : WaitingTaken p s (takeWaiting s) := by
  obtain ⟨loader, inputs, held, asks, fire, only⟩ := takePresses_spec config allSix (by decide)
  rw [takeWaiting]
  generalize allSix.foldl takeWaitingPress s = v at *
  have aside := SameAside.requestMotion v
  have known : v.loader.config = some p := loader ▸ config
  have taken : ∀ i, v.calls.inputs.get i = (s.calls.inputs.get i).taken := fun i => (inputs i).trans (if_pos (mem_allSix i))
  refine ⟨aside.loader.trans loader, fun i => by rw [aside.inputs, taken], callsHold_watches.trans held (.requestMotion v),
    fun i pressed kind untaken => ?_, fun i pressed kind => ?_, fun i motion active night => ?_, fun i kind has => ?_⟩
  · exact (CallsHold.requestMotion v _ (held _ untaken).1).2 (asks i (mem_allSix i) pressed kind untaken)
  · rw [(requestMotion_keeps v).hazard_eq]
    exact fire i (mem_allSix i) pressed kind
  · refine hasCall_requestMotion ?_
    rw [aside.control] at night
    rw [asserted, inputKind_of_config known, motion, taken, Input.taken, active, night]
    rfl
  · refine only _ (fun j _ named => ?_) (hasCall_requestMotion_only has fun j named => ?_)
    · obtain rfl := Source.input.inj named
      exact kind
    · obtain rfl := Source.input.inj named
      rw [asserted, inputKind_of_config known, kind]
      rfl

/-! ## The load as a whole (R178, R180) -/

/-- The station once a load has built entries and leaves and the route follows. -/
def loadStarted (reached : LoadState) (p : Profile) (s : State) : State :=
  computeRoute (configureLeaves p (buildEntries p (recordLoad reached p s)))

/-- And once the heads are configured and the aspect shows the default. -/
def headsLoaded (reached : LoadState) (p : Profile) (s : State) : State :=
  showDefaultAspect p (configureHeads p (loadStarted reached p s))

/-- And once the profile fault and the waiting presses are taken. -/
def pressesLoaded (reached : LoadState) (p : Profile) (s : State) : State :=
  takeWaiting (raiseProfileFault (headsLoaded reached p s))

theorem completeLoad_eq (reached : LoadState) (p : Profile) (s : State) :
    completeLoad reached p s = startRefresh (serveAlert (startJoin (beginRoleIf p (pressesLoaded reached p s)))) := rfl

theorem loadStarted_keeps (reached : LoadState) (p : Profile) (s : State) :
    SameOutside [.loader, .peers, .doors, .route, .lamp, .line, .counters] s (loadStarted reached p s) :=
  ((((setLoader_keeps s _).then (setPeers_keeps _ _)).then (setDoors_keeps _ _)).then (computeRoute_keeps _)).widen
    (by decide)

/-- What a load's first part makes of the station (R44, R60, R80, R103). -/
theorem loadStarted_spec {reached : LoadState} (done : reached = .loaded ∨ reached = .fallback) (judged : p.exitWeight ≤ 15)
    (s : State) :
    s.line.Stands (loadStarted reached p s).line ∧ RouteCurrent (loadStarted reached p s)
      ∧ LinksAgree (loadStarted reached p s) ∧ MagnetsAgree (loadStarted reached p s)
      ∧ EachLeaf (CarriedOver p s.doors.leaves) (loadStarted reached p s)
      ∧ (s.route.next = .none → (loadStarted reached p s).route.next = .none → (loadStarted reached p s).lamp = s.lamp) := by
  obtain ⟨links, magnets⟩ := configured_agree p (recordLoad reached p s)
  have follows : KeepsMagnets (configureLeaves p (buildEntries p (recordLoad reached p s))) (loadStarted reached p s) :=
    .of_outside (computeRoute_keeps _) rfl
  refine ⟨stands_rule.computeRouteFrom _ (configureLeaves p (buildEntries p (recordLoad reached p s))),
    computeRouteFrom_current _ (routeInputsAgree_config done judged), follows.links links, follows.magnets links magnets,
    (carriedOver_rule p s.doors.leaves).watches.outside (computeRoute_keeps _) rfl
      (configureLeaves_carriedOver p (buildEntries p (recordLoad reached p s))), fun before after => ?_⟩
  have chosen : (routeOf (configureLeaves p (buildEntries p (recordLoad reached p s)))).next = .none := by
    rw [loadStarted, computeRoute, computeRouteFrom_route] at after
    exact after
  exact computeRouteFrom_lamp_of_same (chosen.trans before.symm)

theorem headsLoaded_loadKeeps (reached : LoadState) (p : Profile) (s : State) :
    LoadKeeps p (loadStarted reached p s) (headsLoaded reached p s) :=
  (LoadKeeps.configureHeads p _).trans (.showDefaultAspect p _)

theorem pressesLoaded_loadKeeps (reached : LoadState) (p : Profile) (s : State) :
    LoadKeeps p (headsLoaded reached p s) (pressesLoaded reached p s) :=
  (LoadKeeps.raiseProfileFault _).trans (.takeWaiting _)

/-- Outside Evacuate and with no next hop the placeholder is gone (R147). -/
theorem showDefaultAspect_placed (p : Profile) (s : State) (elsewhere : s.control.posture ≠ .evacuate)
    (none : s.route.next = .none) : (showDefaultAspect p s).lamp.placeholder = false := by
  unfold showDefaultAspect
  split
  · rfl
  · next other => simpa [elsewhere, none] using other

theorem headsLoaded_keeps (reached : LoadState) (p : Profile) (s : State) :
    SameOutside scanFootprint (loadStarted reached p s) (headsLoaded reached p s) :=
  ((configureHeads_keeps _ p).then (showDefaultAspect_keeps _ p)).widen (by decide)

theorem configureHeads_calls (p : Profile) (s : State) : (configureHeads p s).calls = s.calls := by
  unfold configureHeads
  split
  · exact changeHeads_calls _ _
  · rfl

theorem headsLoaded_calls (reached : LoadState) (p : Profile) (s : State) : (headsLoaded reached p s).calls = s.calls := by
  rw [headsLoaded, (showDefaultAspect_keeps _ p).calls_eq, configureHeads_calls, (loadStarted_keeps reached p s).calls_eq]

/-- The loader once a load has been recorded (R178, R180). -/
def loadedLoader (reached : LoadState) (p : Profile) (l : Loader) : Loader :=
  { l with state := reached, config := some p, result := resultOf reached p }

theorem headsLoaded_loader (reached : LoadState) (p : Profile) (s : State) :
    (headsLoaded reached p s).loader = loadedLoader reached p s.loader :=
  (headsLoaded_keeps reached p s).loader_eq.trans (computeRoute_keeps _).loader_eq

/-- The Profile fault follows the result (R181). -/
theorem raiseProfileFault_spec (s : State) :
    (raiseProfileFault s).loader = { s.loader with profileFault := s.loader.profileFault || s.loader.result != .loaded }
      ∧ CallsHold s (raiseProfileFault s) ∧ (raiseProfileFault s).calls.inputs = s.calls.inputs
      ∧ (s.loader.result ≠ .loaded → hasCall (raiseProfileFault s) .profile = true)
      ∧ ∀ i, hasCall (raiseProfileFault s) (.input i) = true → hasCall s (.input i) = true := by
  unfold raiseProfileFault
  split
  · next passed =>
    refine ⟨?_, callsHold_watches.refl s, rfl, fun failed => absurd passed failed, fun _ => id⟩
    rw [passed, bne_self_eq_false, Bool.or_false]
  · next failed =>
    generalize flagged : s.setLoader { s.loader with profileFault := true } = v
    have calls : v.calls = s.calls := by rw [← flagged]; rfl
    have same : (queueBulletin (requestCall .profile v)).calls = (requestCall .profile v).calls :=
      (queueBulletin_keeps _).calls_eq
    refine ⟨?_, ?_, ?_, fun _ => ?_, fun i has => ?_⟩
    · rw [(queueBulletin_keeps _).loader_eq, (requestCall_keeps _ _).loader_eq, ← flagged, bne_iff_ne.2 failed,
        Bool.or_true]
      rfl
    · exact callsHold_watches.trans (.of_calls calls) (callsHold_watches.trans (.requestCall _ _) (.of_calls same))
    · rw [same, (SameAside.requestCall _ _).inputs, calls]
    · rw [hasCall_congr same]
      exact hasCall_requestCall _ _
    · rw [hasCall_congr same] at has
      rw [← hasCall_congr calls]
      exact (hasCall_requestCall_only has).resolve_left nofun

/-- The last works of a load: the post role, the join timer, a pending Alert and the refresh. -/
def loadEnded (p : Profile) (s : State) : State := startRefresh (serveAlert (startJoin (beginRoleIf p s)))

theorem loadEnded_keeps (p : Profile) (s : State) : SameOutside [.post, .control, .line] s (loadEnded p s) :=
  ((((beginRoleIf_keeps s p).then (startJoin_keeps _)).then (serveAlert_keeps _)).then (startRefresh_keeps _)).widen
    (by decide)

theorem loadEnded_control (p : Profile) (s : State) :
    (loadEnded p s).control =
      { s.control with
        joinTimer := if s.control.posture = .startup then some 0 else s.control.joinTimer, alertPending := false } := by
  have began : (beginRoleIf p s).control = s.control := (beginRoleIf_keeps s p).control_eq
  have joined : (startJoin (beginRoleIf p s)).control =
      { s.control with joinTimer := if s.control.posture = .startup then some 0 else s.control.joinTimer } := by
    unfold startJoin
    rw [began]
    split
    · rfl
    · exact began
  rw [loadEnded, (startRefresh_keeps _).control_eq, serveAlert]
  split
  · rw [(requestAlert_keeps _).control_eq, State.setControl_control, joined]
  · next clear =>
    rw [joined] at clear ⊢
    rw [← show s.control.alertPending = false by simpa using clear]

theorem loadEnded_line (p : Profile) (s : State) :
    (loadEnded p s).line.refresh = (if strapped s then some 0 else s.line.refresh)
      ∧ (s.control.alertPending = true → (loadEnded p s).line.alertHeld = true) := by
  have early : SameOutside [.post, .control] s (startJoin (beginRoleIf p s)) :=
    (beginRoleIf_keeps s p).then (startJoin_keeps _)
  have pending : (startJoin (beginRoleIf p s)).control.alertPending = s.control.alertPending := by
    have began : (beginRoleIf p s).control = s.control := (beginRoleIf_keeps s p).control_eq
    unfold startJoin
    split
    · rw [← began]; rfl
    · rw [began]
  have kept : (startJoin (beginRoleIf p s)).line.refresh = s.line.refresh := congrArg LinePort.refresh early.line_eq
  have served : (serveAlert (startJoin (beginRoleIf p s))).line.refresh = s.line.refresh
      ∧ (s.control.alertPending = true → (serveAlert (startJoin (beginRoleIf p s))).line.alertHeld = true) := by
    unfold serveAlert
    split
    · exact ⟨kept, fun _ => rfl⟩
    · next clear => exact ⟨kept, fun marked => absurd (pending.trans marked) clear⟩
  have numbered : strapped (serveAlert (startJoin (beginRoleIf p s))) = strapped s := by
    rw [strapped, strapped, (serveAlert_keeps _).loader_eq, early.loader_eq]
  rw [loadEnded, startRefresh, numbered]
  split
  · exact ⟨rfl, served.2⟩
  · exact served

theorem loadEnded_role (p : Profile) (s : State) : (loadEnded p s).post.role = (s.post.role || p.post) := by
  rw [loadEnded, (startRefresh_keeps _).post_eq, (serveAlert_keeps _).post_eq, (startJoin_keeps _).post_eq, beginRoleIf]
  cases post : p.post with
  | true => simp [beginRole]
  | false => simp

/-- What a completed load has made of the station, whichever profile it took. -/
structure Loaded (reached : LoadState) (p : Profile) (s t : State) : Prop where
  loader : t.loader =
    { loadedLoader reached p s.loader with profileFault := s.loader.profileFault || resultOf reached p != .loaded }
  peers : t.peers = (buildEntries p s).peers
  role : ∀ n, (t.doors.leaves.get n).role = loadedRole p n
  leaves : ∀ n config, p.leaves.get n = some config →
    LeafCarriedOver config (s.doors.leaves.get n) t (t.doors.leaves.get n)
  postRole : t.post.role = (s.post.role || p.post)
  join : t.control.posture = .startup → t.control.joinTimer = some 0
  refresh : t.line.refresh = if strapped s then some 0 else s.line.refresh
  served : t.control.alertPending = false
  alert : s.control.alertPending = true → t.line.alertHeld = true
  aspect : s.route.next = .none → t.route.next = .none → t.control.posture ≠ .evacuate →
    t.lamp.placeholder = false ∧ t.lamp.aspect = shownAspect p s.lamp
  fault : resultOf reached p ≠ .loaded → hasTaken s .profile = false → hasCall t .profile = true
  inputs : ∀ i, t.calls.inputs.get i = (s.calls.inputs.get i).taken
  asks : ∀ i, (s.calls.inputs.get i).pressed = true → p.inputs.get i = .helpPoint ∨ p.inputs.get i = .firePoint →
    hasTaken s (.input i) = false → hasCall t (.input i) = true
  fire : ∀ i, (s.calls.inputs.get i).pressed = true → p.inputs.get i = .firePoint →
    t.hazard.manualFire = true ∧ t.hazard.zone = .fire
  motion : ∀ i, p.inputs.get i = .motion → (s.calls.inputs.get i).active = true → t.control.posture = .night →
    hasCall t (.input i) = true
  only : ∀ i, p.inputs.get i = .unconfigured → hasCall t (.input i) = true → hasCall s (.input i) = true

theorem completeLoad_loaded {reached : LoadState} (done : reached = .loaded ∨ reached = .fallback)
    (judged : p.exitWeight ≤ 15) (s : State) : Loaded reached p s (settle (completeLoad reached p s)) := by
  have w := callsHold_watches
  obtain ⟨stands, current, links, magnets, leaves, shown⟩ := loadStarted_spec done judged s
  have early := loadStarted_keeps reached p s
  have first := headsLoaded_loadKeeps reached p s
  have second := pressesLoaded_loadKeeps reached p s
  have keeps := first.trans second
  have loader := headsLoaded_loader reached p s
  have calls := headsLoaded_calls reached p s
  obtain ⟨flagged, faultHeld, faultInputs, faultCall, faultOnly⟩ := raiseProfileFault_spec (headsLoaded reached p s)
  have taken := takeWaiting_taken (p := p) (s := raiseProfileFault (headsLoaded reached p s)) (by rw [flagged, loader]; rfl)
  have held : CallsHold s (raiseProfileFault (headsLoaded reached p s)) := w.trans (.of_calls calls) faultHeld
  have pressed : ∀ i, (raiseProfileFault (headsLoaded reached p s)).calls.inputs.get i = s.calls.inputs.get i := fun i => by
    rw [faultInputs, calls]
  have outside : SameOutside (zoneFootprint ++ [.loader, .front]) (loadStarted reached p s) (pressesLoaded reached p s) :=
    (((headsLoaded_keeps reached p s).then (raiseProfileFault_keeps _)).then (takeWaiting_keeps _)).widen (by decide)
  have ended := loadEnded_keeps p (pressesLoaded reached p s)
  have control := loadEnded_control p (pressesLoaded reached p s)
  have role := loadEnded_role p (pressesLoaded reached p s)
  obtain ⟨refresh, alert⟩ := loadEnded_line p (pressesLoaded reached p s)
  have numbered : strapped (pressesLoaded reached p s) = strapped s := by
    rw [strapped, strapped, pressesLoaded, taken.loader, flagged, loader]
    rfl
  have placed := showDefaultAspect_placed p (configureHeads p (loadStarted reached p s))
  rw [completeLoad_eq]
  change Loaded reached p s (settle (loadEnded p (pressesLoaded reached p s)))
  have taken : WaitingTaken p (raiseProfileFault (headsLoaded reached p s)) (pressesLoaded reached p s) := taken
  generalize pressesLoaded reached p s = v at *
  obtain ⟨alertHeld, -, refreshed, -⟩ := startSending_line_eqs (loadEnded p v)
  have carried : EachLeaf (CarriedOver p s.doors.leaves) (settle (loadEnded p v)) := by
    refine (carriedOver_rule p _).congr (s := v) ?_ ?_ ?_ (keeps.leaves _ (carriedOver_rule p _) leaves)
    · rw [settle_control, control]
    · rw [settle_control, control]
    · rw [settle_doors, ended.doors_eq]
  have agree : MagnetsAgree (settle (loadEnded p v)) := by
    refine magnetsAgree_of_view (s := v) ?_ (keeps.magnets.links links) (keeps.magnets.magnets links magnets)
    rw [magnetView, magnetView, settle_control, settle_hazard, settle_peers, settle_doors, ended.hazard_eq, ended.peers_eq,
      ended.doors_eq, control]
  constructor
  case loader => rw [settle_loader, ended.loader_eq, taken.loader, flagged, loader]; rfl
  case peers =>
    rw [settle_peers, ended.peers_eq, outside.peers_eq]
    exact (computeRoute_keeps _).peers_eq
  case role => exact fun n => (carried n).1
  case leaves => exact fun n config => leafCarriedOver agree carried
  case postRole =>
    rw [settle_post, role, outside.post_eq, early.post_eq]
  case join =>
    intro startup
    rw [settle_control, control] at startup ⊢
    exact if_pos startup
  case refresh =>
    rw [settle_line, refreshed, refresh, numbered, keeps.line.refresh, stands.refresh]
  case served => rw [settle_control, control]
  case alert =>
    intro marked
    rw [settle_line, alertHeld]
    exact alert (keeps.mark (by rw [early.control_eq]; exact marked))
  case aspect =>
    intro before after elsewhere
    rw [settle_route, ended.route_eq] at after
    rw [settle_control, control] at elsewhere
    obtain ⟨next, aspect, -⟩ := keeps.calm current elsewhere
    obtain ⟨mid, -, stays⟩ := second.calm (first.route current) elsewhere
    have same := shown before (next.symm.trans after)
    have none : (configureHeads p (loadStarted reached p s)).route.next = .none := by
      rw [← show (headsLoaded reached p s).route = (configureHeads p (loadStarted reached p s)).route from
        (showDefaultAspect_keeps _ p).route_eq]
      exact mid.symm.trans after
    have out : (configureHeads p (loadStarted reached p s)).control.posture ≠ .evacuate := fun inside =>
      elsewhere (second.evacuate ((LoadKeeps.showDefaultAspect p _).evacuate inside))
    have gone := stays (placed out none)
    rw [settle_lamp, ended.lamp_eq, gone]
    refine ⟨rfl, ?_⟩
    rw [same] at aspect
    rwa [shownAspect, gone, if_neg Bool.false_ne_true] at aspect
  case fault =>
    intro failed untaken
    rw [hasCall_congr (settle_calls _), hasCall_congr ended.calls_eq]
    exact (taken.held _ (held _ untaken).1).2 (faultCall (by rw [loader]; exact failed))
  case inputs => exact fun i => by rw [settle_calls, ended.calls_eq, taken.inputs, pressed]
  case asks =>
    intro i press kind untaken
    rw [hasCall_congr (settle_calls _), hasCall_congr ended.calls_eq]
    exact taken.asks i (by rw [pressed]; exact press) kind (held _ untaken).1
  case fire =>
    intro i press kind
    rw [settle_hazard, ended.hazard_eq]
    exact taken.fire i (by rw [pressed]; exact press) kind
  case motion =>
    intro i motion active night
    rw [settle_control, control] at night
    rw [hasCall_congr (settle_calls _), hasCall_congr ended.calls_eq]
    exact taken.motion i motion (by rw [pressed]; exact active) night
  case only =>
    intro i kind has
    rw [hasCall_congr (settle_calls _), hasCall_congr ended.calls_eq] at has
    exact hasCall_congr calls _ ▸ faultOnly i (taken.only i kind has)

end Sys2Proof.Machine
end


section
/-! SUPPORT. The rows of the profile read and of the wait after a failed one (sections 10.2 to 10.5). -/

namespace Sys2Proof.Machine

variable {c : List Block} {s t u : State} {p : Profile}

/-! ## A read that fails (R178, R182) -/

theorem takeRead_firstFails {block : List Byte} (first : s.loader.state = .firstRead)
    (fails : profileOf s.loader.station block = none) : takeRead block s = s.setLoadState .waiting := by
  simp only [takeRead, first, fails]

theorem takeRead_secondFails {block : List Byte} (second : s.loader.state = .secondRead)
    (fails : profileOf s.loader.station block = none) : takeRead block s = completeLoad .fallback fallbackProfile s := by
  simp only [takeRead, second, fails]

theorem takeRead_passes {block : List Byte} (reads : s.loader.state = .firstRead ∨ s.loader.state = .secondRead)
    (passes : profileOf s.loader.station block = some p) : takeRead block s = completeLoad .loaded p s := by
  obtain reads | reads := reads <;> simp only [takeRead, reads, passes]

theorem fallback_input (i : Fin 6) : fallbackProfile.inputs.get i = .helpPoint := by revert i; decide

theorem fallback_leaf (n : Fin 4) : fallbackProfile.leaves.get n = some fallbackLeaf := Four.get_fill _ n

theorem fallback_role (n : Fin 4) : loadedRole fallbackProfile n = .configured fallbackLeaf false [] := by
  rw [loadedRole_some (fallback_leaf n)]
  revert n
  decide

/-- Under the fallback profile the presses that waited reach the calls alone. -/
theorem takeWaiting_keeps_of_fallback (config : s.loader.config = some fallbackProfile) :
    SameOutside [.calls, .line, .counters] s (takeWaiting s) := by
  have all : ∀ (l : List (Fin 6)) (u : State), u.loader.config = some fallbackProfile →
      SameOutside [.calls, .line, .counters] u (l.foldl takeWaitingPress u) := by
    intro l
    induction l with
    | nil => exact fun u _ => .refl _ u
    | cons i l ih =>
      intro u known
      have did : takeWaitingPress u i = takeHelpPress i u := by
        rw [takeWaitingPress, inputKind_of_config known, fallback_input]
      rw [List.foldl_cons, did]
      have press := takeHelpPress_keeps u i
      exact press.trans (ih _ (by rw [press.loader_eq]; exact known))
  exact (all allSix s config).trans (requestMotion_keeps _)

theorem completeLoad_keeps_of_fallback (s : State) :
    SameOutside [.loader, .peers, .doors, .route, .lamp, .calls, .control, .line, .counters] s
      (completeLoad .fallback fallbackProfile s) := by
  have early := loadStarted_keeps .fallback fallbackProfile s
  have loader := headsLoaded_loader .fallback fallbackProfile s
  have heads : headsLoaded .fallback fallbackProfile s =
      showDefaultAspect fallbackProfile (loadStarted .fallback fallbackProfile s) := by
    have state : (loadStarted .fallback fallbackProfile s).loader.state = .fallback :=
      congrArg Loader.state (computeRoute_keeps _).loader_eq
    rw [headsLoaded, configureHeads, state]
    rfl
  obtain ⟨flagged, -⟩ := raiseProfileFault_spec (headsLoaded .fallback fallbackProfile s)
  have waited := takeWaiting_keeps_of_fallback (s := raiseProfileFault (headsLoaded .fallback fallbackProfile s))
    (by rw [flagged, loader]; rfl)
  rw [completeLoad_eq, pressesLoaded]
  have first : SameOutside [.loader, .peers, .doors, .route, .lamp, .calls, .line, .counters] s
      (raiseProfileFault (headsLoaded .fallback fallbackProfile s)) := by
    rw [heads]
    exact ((early.then (showDefaultAspect_keeps _ _)).then (raiseProfileFault_keeps _)).widen (by decide)
  exact ((((first.then waited).then (startJoin_keeps _)).then (serveAlert_keeps _)).then (startRefresh_keeps _)).widen
    (by decide)

/-- The relay stands open while the Profile fault holds (R174). -/
theorem settle_relay_of_profile (fault : s.loader.profileFault = true) : (settle s).outputs.relay = false := by
  have loader : (startSending s).loader = s.loader := (startSending_keeps s).loader_eq
  rw [settle_outputs, outputsOf]
  split
  · simp [relayHealthy, loader, fault]
  · rfl

/-- Settles O6: a first failure waits, and a second one completes the load under the fallback profile. -/
theorem failedReadsLeadToFallback : Obligations.FailedReadsLeadToFallback := by
  intro block s running
  refine ⟨fun first fails => ?_, fun waiting => ?_, fun other => ?_, fun second fails => ?_⟩
  · refine changes_settled (work := takeRead block) rfl running (takeRead_firstFails first fails) (setLoader_keeps s _)
      (by decide) ?_
    rw [settle_loader]
    rfl
  · exact changes_shown (work := takeLoadWait) rfl running (if_pos waiting) (setLoader_keeps s _) (by decide) rfl
  · exact changes_shown (work := takeLoadWait) rfl running (if_neg other) (.refl [] s) (by decide) trivial
  · have loaded := completeLoad_loaded (p := fallbackProfile) (.inr rfl) (by decide) s
    have flag : (settle (completeLoad .fallback fallbackProfile s)).loader.profileFault = true := by
      rw [loaded.loader]
      exact Bool.or_true _
    refine changes_settled (work := takeRead block) rfl running (takeRead_secondFails second fails)
      (completeLoad_keeps_of_fallback s) (by decide) ?_
    refine ⟨?_, loaded.peers, settle_relay_of_profile (by rw [settle_loader] at flag; exact flag),
      loaded.fault (by decide), fun i => ⟨loaded.inputs i, fun pressed untaken =>
        loaded.asks i pressed (.inl (fallback_input i)) untaken⟩, loaded.join, loaded.refresh, loaded.served,
      loaded.alert, loaded.aspect, fun n => ⟨(loaded.role n).trans (fallback_role n), loaded.leaves n _ (fallback_leaf n)⟩⟩
    rw [loaded.loader, show (resultOf .fallback fallbackProfile != .loaded) = true from rfl, Bool.or_true]
    rfl

/-! ## A read that passes: heads and scan (R7, R8, R19) -/

theorem thresholdsOrdered_eq (c : HeadConfig) : thresholdsOrdered c.kind c.thresholds = thresholdsInOrder c := by
  unfold thresholdsOrdered thresholdsInOrder
  cases c.kind <;> simp [Bool.decide_and, Bool.and_assoc]

theorem thresholdsInForce_eq (c : HeadConfig) :
    (if thresholdsInOrder c then c.thresholds else defaultThresholds c.kind) = thresholdsInForce c := by
  unfold thresholdsInForce
  split
  · rfl
  · cases c.kind <;> rfl

theorem headByProfile_none (old : Option Head) : headByProfile none old = none := rfl

theorem headByProfile_some (c : HeadConfig) (old : Option Head) :
    (old = none →
        headByProfile (some c) old = some (Head.fresh c.kind (thresholdsInForce c) (!thresholdsInOrder c)))
      ∧ (∀ h, old = some h → c.kind = .smoke →
          headByProfile (some c) old =
            some { h with kind := .smoke, thresholds := thresholdsInForce c, refused := !thresholdsInOrder c })
      ∧ ∀ h, old = some h → c.kind = .heat →
          headByProfile (some c) old =
            some { Head.fresh .heat (thresholdsInForce c) (!thresholdsInOrder c) with
                   level := h.level, fireWorthy := h.fireWorthy } := by
  rw [headByProfile, Option.map_some]
  dsimp only
  rw [thresholdsOrdered_eq, thresholdsInForce_eq]
  refine ⟨fun new => ?_, fun h carried smoke => ?_, fun h carried heat => ?_⟩
  · rw [new]
  · rw [carried, smoke]
  · rw [carried, heat]

theorem thresholdsPass_iff (p : Profile) : thresholdsPass p = true ↔ ∀ c ∈ p.heads, thresholdsInOrder c = true := by
  simp only [thresholdsPass, List.all_eq_true, thresholdsOrdered_eq]

/-- The head set that a profile gives (R7, R8). -/
def headsProfiled (p : Profile) (heads : Four (Option Head)) : Four (Option Head) :=
  Four.tabulate (fun k => headByProfile p.heads[k.val]? (heads.get k))

/-- A Fire head that the profile does not list leaves the set (R7, R19). -/
theorem fireRemoved_profiled {heads : Four (Option Head)} {k : Fin 4} {h : Head} (unlisted : p.heads[k.val]? = none)
    (here : heads.get k = some h) (fire : h.level = .fire) : fireRemoved heads (headsProfiled p heads) = true := by
  rw [fireRemoved, List.any_eq_true]
  refine ⟨k, mem_allFour k, ?_⟩
  rw [headsProfiled, Four.get_tabulate, unlisted, here]
  simp [headByProfile_none, fire]

/-- A loaded profile sets the heads, and a scan that began before it is void. -/
theorem configureHeads_loaded (loaded : s.loader.state = .loaded) :
    configureHeads p s = changeHeads (headsProfiled p s.hazard.heads)
      (s.setFront { s.front with scan := s.front.scan.map (fun sc => { sc with void := true }) }) := if_pos loaded

/-- The presses that waited leave the heads. -/
theorem takeWaiting_heads (s : State) : (takeWaiting s).hazard.heads = s.hazard.heads := by
  have press : ∀ u i, (takeWaitingPress u i).hazard.heads = u.hazard.heads := by
    intro u i
    unfold takeWaitingPress
    split
    · rw [(takeHelpPress_keeps u i).hazard_eq]
    · unfold takeFirePress
      dsimp only
      split
      · rw [(requestCall_keeps _ _).hazard_eq, recomputeZone_hazard]
        rfl
      · rfl
    · rfl
    · rfl
  rw [takeWaiting, (requestMotion_keeps _).hazard_eq]
  exact List.foldlRecOn allSix takeWaitingPress (motive := fun u => u.hazard.heads = s.hazard.heads) rfl
    fun u same i _ => (press u i).trans same

/-- What the completion under a loaded profile makes of the heads, the latch and the scan. -/
theorem completeLoad_heads (p : Profile) (s : State) :
    (completeLoad .loaded p s).hazard.heads = headsProfiled p s.hazard.heads
      ∧ (fireRemoved s.hazard.heads (headsProfiled p s.hazard.heads) = true →
          (completeLoad .loaded p s).hazard.manualFire = true)
      ∧ (completeLoad .loaded p s).front.scan = s.front.scan.map (fun sc => { sc with void := true }) := by
  have early := loadStarted_keeps .loaded p s
  have state : (loadStarted .loaded p s).loader.state = .loaded := congrArg Loader.state (computeRoute_keeps _).loader_eq
  have heads : (headsLoaded .loaded p s).hazard.heads = headsProfiled p s.hazard.heads
      ∧ (headsLoaded .loaded p s).hazard.manualFire =
        (s.hazard.manualFire || fireRemoved s.hazard.heads (headsProfiled p s.hazard.heads))
      ∧ (headsLoaded .loaded p s).front.scan = s.front.scan.map (fun sc => { sc with void := true }) := by
    rw [headsLoaded, (showDefaultAspect_keeps _ p).hazard_eq, (showDefaultAspect_keeps _ p).front_eq,
      configureHeads_loaded state, changeHeads_hazard, changeHeads_front, early.hazard_eq, early.front_eq,
      State.setFront_hazard, State.setFront_front, early.hazard_eq]
    exact ⟨rfl, rfl, rfl⟩
  have ended := loadEnded_keeps p (pressesLoaded .loaded p s)
  rw [completeLoad_eq, ← loadEnded, ended.hazard_eq, ended.front_eq]
  refine ⟨?_, fun left => (pressesLoaded_loadKeeps .loaded p s).manual ?_, ?_⟩
  · rw [pressesLoaded, takeWaiting_heads, (raiseProfileFault_keeps _).hazard_eq, heads.1]
  · rw [heads.2.1, left, Bool.or_true]
  · rw [pressesLoaded, (takeWaiting_keeps _).front_eq, (raiseProfileFault_keeps _).front_eq, heads.2.2]

/-- Settles O7: the profile is in force at every block once the load has completed. -/
theorem passedReadLoadsTheProfile : Obligations.PassedReadLoadsTheProfile := by
  intro block p s running reads passes
  have loaded := completeLoad_loaded (.inl rfl) (profileOf_exitWeight passes) s
  obtain ⟨heads, latch, scan⟩ := completeLoad_heads p s
  have result : resultOf .loaded p = if thresholdsPass p then .loaded else .loadedDefaults := rfl
  have failed : (resultOf .loaded p != .loaded) = !thresholdsPass p := by
    rw [result]
    cases thresholdsPass p <;> rfl
  have head : ∀ k, (settle (completeLoad .loaded p s)).hazard.heads.get k =
      headByProfile p.heads[k.val]? (s.hazard.heads.get k) := fun k => by
    rw [settle_hazard, heads]
    exact Four.get_tabulate _ k
  refine changes_settled (work := takeRead block) rfl running (takeRead_passes reads passes) (completeLoad_keeps s .loaded p)
    (by decide) ?_
  refine ⟨by rw [loaded.loader]; rfl, by rw [loaded.loader]; rfl, by rw [loaded.loader]; rfl, by rw [loaded.loader]; rfl,
    by rw [loaded.loader, failed], by rw [loaded.peers]; rfl, head, loaded.role, loaded.leaves, loaded.postRole, loaded.join,
    loaded.refresh, loaded.served, loaded.alert, thresholdsPass_iff p, fun refused => loaded.fault ?_, fun i => ?_,
    loaded.aspect, fun k c given => ?_, fun k unlisted => ⟨?_, fun h here fire => ?_⟩, fun n j => mem_linksOf,
    fun converting => ?_⟩
  · rw [← bne_iff_ne, failed, refused]
    rfl
  · refine ⟨loaded.inputs i, fun pressed help => loaded.asks i pressed (.inl help), fun pressed fire => ?_,
      fun motion active night _ => loaded.motion i motion active night, loaded.only i⟩
    obtain ⟨latched, burns⟩ := loaded.fire i pressed fire
    exact ⟨latched, burns, loaded.asks i pressed (.inr fire)⟩
  · rw [head, given]
    exact headByProfile_some c (s.hazard.heads.get k)
  · rw [head, unlisted]
    rfl
  · rw [settle_hazard]
    exact latch (fireRemoved_profiled unlisted here fire)
  · rw [settle_front, scan]
    obtain ⟨sc, was⟩ := Option.isSome_iff_exists.1 converting
    rw [was]
    rfl

end Sys2Proof.Machine
end


section
/-! SUPPORT. The survey rows (section 11.4): which sections a row answers, and what becomes of its answer. -/

namespace Sys2Proof.Machine

variable {c : List Block} {s t : State} {f : Frame} {area index : Fin 16} {target : Byte}

/-- The sections for which a section's row stands: its own, and together those past the last (spec 11.4). -/
def rowSections (area : Fin 16) : Fin 16 → Bool :=
  if area.val < 7 then (· == area) else fun a => decide (7 ≤ a.val)

theorem rowSections_self (area : Fin 16) : rowSections area area = true := by
  unfold rowSections
  split
  · exact beq_self_eq_true area
  · next past => exact decide_eq_true (Nat.le_of_not_lt past)

theorem exec_surveyRow (area : Fin 16) (wire : List Byte) (s : State) :
    exec (surveyRow area wire) s = whileRunning (receive wire (wantRequest (rowSections area))) s := by
  fin_cases area <;> rfl

theorem wantRequest_row (source : Station) (target : Byte) (area index : Fin 16) :
    wantRequest (rowSections area) source (.request target area index) = some (handRequest target area index) :=
  if_pos (rowSections_self area)

/-! ## The answer at the queue (R164, R186) -/

theorem handRequest_here (here : addressedHere target s = true) (area index : Fin 16) :
    handRequest target area index s = answerSurvey area index s := if_pos here

theorem handRequest_elsewhere (elsewhere : addressedHere target s = false) (area index : Fin 16) :
    handRequest target area index s = s := by
  rw [handRequest, elsewhere]
  rfl

theorem offerFrame_of_room (room : HasRoom s) (f : Frame) : offerFrame f s = placeNew f s := by
  rw [offerFrame, queueFull_of_room room]
  rfl

theorem offerFrame_of_full (full : ¬HasRoom s) (f : Frame) : offerFrame f s = countRefused s := by
  rw [offerFrame, queueFull_of_full full]
  rfl

/-- An answered request leaves line and counters as its offered answer does. -/
theorem answerSurvey_offers (area index : Fin 16) (s : State) :
    SameOutside [.freeUsed] (offerFrame (.answer (nibbles area index) (surveyAnswerOf area index s)) s)
      (answerSurvey area index s) := spendFree_keeps _ area index

/-- An answer shows nothing of the receiver. -/
theorem surveyAnswerOf_endFrame (area index : Fin 16) (corrected : Bool) (s : State) :
    surveyAnswerOf area index (endFrame corrected s)
      = surveyAnswerOf area index (s.setCounters (headerCounted corrected s.counters)) := by
  rw [endFrame_eq]
  rfl

/-- Settles O47: the frame's end counts the header, and the responder's offer is placed or refused by the room. -/
theorem surveyRequestIsAnswered : Obligations.SurveyRequestIsAnswered := by
  unfold Obligations.SurveyRequestIsAnswered
  intro wire corrected source target area index s heard
  have row := exec_surveyRow area wire s
  have wanted := wantRequest_row source target area index
  have ended : (endFrame corrected s).line = { s.line with receiver := .discard } := endFrame_line corrected s
  have roomed : HasRoom (endFrame corrected s) ↔ HasRoom s := by rw [HasRoom, HasRoom, ended]
  have loader : (endFrame corrected s).loader = s.loader := (endFrame_keeps s corrected).loader_eq
  have here := addressedHere_congr (target := target) loader
  have offers := answerSurvey_offers area index (endFrame corrected s)
  refine ⟨fun addressed room => ?_, fun addressed full => ?_, fun elsewhere => ?_⟩
  · have handed := handRequest_here (here.trans addressed) area index
    refine changes_heard row heard wanted (c := [.line, .counters, .freeUsed])
      (by rw [handed]; exact answerSurvey_keeps _ area index) (by decide) ?_
    rw [handed]
    rw [offerFrame_of_room (roomed.2 room), surveyAnswerOf_endFrame] at offers
    constructor
    · rw [settle_counters, offers.counters_eq]
      exact endFrame_counters corrected s
    · rw [Waits, settle_queue_of_discard (by rw [offers.line_eq]; exact congrArg LinePort.receiver ended), offers.line_eq]
      exact placeNew_waits _ _
  · have handed := handRequest_here (here.trans addressed) area index
    refine changes_heard row heard wanted (c := [.line, .counters, .freeUsed])
      (by rw [handed]; exact answerSurvey_keeps _ area index) (by decide) ?_
    rw [handed]
    rw [offerFrame_of_full (fun room => full (roomed.1 room))] at offers
    have line := offers.line_eq.trans ended
    constructor
    · rw [settle_queue_of_discard (by rw [line]), line]
    · rw [settle_counters, offers.counters_eq]
      cases corrected <;> rfl
  · have nothing := handRequest_elsewhere (here.trans elsewhere) area index
    exact (changes_disregarded row heard wanted nothing).imp fun _ ⟨answers, same, _, queue⟩ => ⟨answers, same, queue⟩

end Sys2Proof.Machine
end


section
/-! SUPPORT. The layout of the survey answers (section 11.4). -/

namespace Sys2Proof.Machine

variable {s : State} {index : Fin 16}

/-! ## Codes and flags -/

theorem bit_eq (b : Bool) (place : Nat) : bit b place = b.toNat * 2 ^ place := by cases b <;> simp [bit]

theorem stripCode_eq (d : Option Direction) :
    stripCode d = if d = some .forward then 1 else if d = some .backward then 2 else 0 := by
  rcases d with _ | _ | _ <;> rfl

theorem jamCode_eq (st : LeafState) :
    st.jamCode = if st = .jammed .lock then 1 else if st = .jammed .release then 2 else 0 := by
  cases st with
  | jammed d => cases d <;> rfl
  | opened | closed | securing | secured | releasing | forced | propped => rfl

theorem identityFlags_eq (line front profile duplicate blind : Bool) :
    bit line 4 + bit front 3 + bit profile 2 + bit duplicate 1 + bit blind 0
      = numberOf [line, front, profile, duplicate, blind] := by
  simp only [bit_eq, numberOf, List.foldl]
  omega

theorem leafFlags_eq (c : LeafConfig) (exitDoor : Bool) :
    leafFlags c exitDoor = numberOf [true, c.secure, c.escape, c.fire, c.failSecure, exitDoor, false, false] := by
  simp only [leafFlags, bit_eq, numberOf, List.foldl, Bool.toNat_true, Bool.toNat_false]
  omega

theorem contacts_eq (doorClosed boltThrown : Bool) :
    bit doorClosed 1 + bit boltThrown 0 = numberOf [doorClosed, boltThrown] := by
  simp only [bit_eq, numberOf, List.foldl]
  omega

theorem leafActs_eq (pass lock magnet : Bool) : bit pass 2 + bit lock 1 + bit magnet 0 = numberOf [pass, lock, magnet] := by
  simp only [bit_eq, numberOf, List.foldl]
  omega

theorem headMarks_eq (frontEndFault : Bool) (h : Head) :
    headMarks frontEndFault h
      = numberOf [h.refused, h.fault, h.dirty, h.fault || frontEndFault, h.baseline.isSome, h.fireWorthy] := by
  simp only [headMarks, bit_eq, numberOf, List.foldl]
  omega

/-! ## Peer entries, call slots and leaves (sections 2 to 4) -/

theorem peerAnswer_of_entry {e : Entry} (there : s.peers.entries[index.val]? = some e) :
    peerAnswer index s = adjacencyBytes e.fixed ++ [byteOf e.status.code] ++ bytesOf16 (e.age.getD ceiling16)
      ++ heardBytes e.heard := by
  rw [peerAnswer, there]

theorem heardBytes_length (heard : Option Heard) : (heardBytes heard).length = 7 := by cases heard <;> rfl

theorem peerAnswer_length (index : Fin 16) (s : State) :
    (peerAnswer index s).length = if index.val < s.peers.entries.length then 14 else 0 := by
  by_cases inside : index.val < s.peers.entries.length
  · rw [peerAnswer_of_entry (List.getElem?_eq_getElem inside), if_pos inside, List.length_append, heardBytes_length]
    rfl
  · rw [peerAnswer, List.getElem?_eq_none (Nat.le_of_not_lt inside), if_neg inside]
    rfl

theorem slotAnswer_of_slot {i : Fin 8} (named : index.val = i.val) (s : State) :
    slotAnswer index s =
      [byteOf (s.calls.slots.get i).state.code, byteOf (s.calls.slots.get i).seq.val,
        byteOf (kindCode (s.calls.slots.get i).kind), byteOf (sourceCode (s.calls.slots.get i).source),
        byteOf (s.calls.slots.get i).state.taker, byteOf ((s.calls.slots.get i).age / 256),
        byteOf (s.calls.slots.get i).age,
        byteOf (remaining (s.calls.slots.get i).repeatTimer (repeatInterval (s.calls.slots.get i).state)),
        byteOf s.calls.pending.length] := by
  have found : slotOf index.val = some i := by rw [named]; exact dif_pos i.isLt
  rw [slotAnswer, found]
  rfl

theorem slotAnswer_length (index : Fin 16) (s : State) :
    (slotAnswer index s).length = if index.val < 8 then 9 else 0 := by
  by_cases inside : index.val < 8
  · rw [slotAnswer_of_slot (i := ⟨index.val, inside⟩) rfl, if_pos inside]
    rfl
  · have absent : slotOf index.val = none := dif_neg inside
    rw [slotAnswer, absent, if_neg inside]
    rfl

theorem quarterOf_val {k : Fin 4} (named : index.val = k.val) : quarterOf index.val = some k := by
  rw [named]
  exact dif_pos k.isLt

theorem quarterOf_past (past : 4 ≤ index.val) : quarterOf index.val = none := dif_neg (Nat.not_lt.2 past)

theorem leafAnswer_of_configured {n : Fin 4} {c : LeafConfig} {exitDoor : Bool} {links : List (Fin 8)}
    (named : index.val = n.val) (role : (s.doors.leaves.get n).role = .configured c exitDoor links) :
    leafAnswer index s =
      [byteOf (leafFlags c exitDoor), byteOf c.boltTime, byteOf (s.doors.leaves.get n).state.code,
        byteOf (s.doors.leaves.get n).state.jamCode,
        byteOf (bit (s.doors.leaves.get n).doorClosed 1 + bit (s.doors.leaves.get n).boltThrown 0),
        byteOf (bit (s.doors.leaves.get n).pass.isSome 2 + bit (s.doors.leaves.get n).state.atLock 1
          + bit (s.doors.leaves.get n).magnet 0),
        byteOf (remaining (s.doors.leaves.get n).pass Config.passTime),
        byteOf (min ((s.doors.leaves.get n).prop.getD 0) 255), byteOf (s.doors.leaves.get n).state.doorClass.code,
        byteOf links.length] := by
  rw [leafAnswer, quarterOf_val named]
  dsimp only
  rw [role]

theorem leafAnswer_of_unconfigured {n : Fin 4} (named : index.val = n.val)
    (unconfigured : ∀ c exitDoor links, (s.doors.leaves.get n).role ≠ .configured c exitDoor links) :
    leafAnswer index s = [] := by
  rw [leafAnswer, quarterOf_val named]
  dsimp only
  split
  · next c exitDoor links role => exact absurd role (unconfigured c exitDoor links)
  · rfl

/-! ## Heads and the route (sections 5 and 6) -/

theorem headAnswer_of_head {k : Fin 4} {h : Head} (named : index.val = k.val) (there : s.hazard.heads.get k = some h) :
    headAnswer index s =
      [byteOf h.kind.code, byteOf h.level.code, byteOf h.confirm, byteOf (headMarks s.front.fault h)]
        ++ baselineBytes s.freeUsed h.baseline ++ rawBytes h.kind (s.front.lastRaw.heads.get k)
        ++ [byteOf h.window.length] := by
  have found : headAt index s = some (k, h) := by rw [headAt, quarterOf_val named, Option.bind_some, there]; rfl
  rw [headAnswer, found]

theorem headAnswer_of_none {k : Fin 4} (named : index.val = k.val) (absent : s.hazard.heads.get k = none) :
    headAnswer index s = [] := by
  have none : headAt index s = none := by rw [headAt, quarterOf_val named, Option.bind_some, absent]; rfl
  rw [headAnswer, none]

theorem baselineBytes_pair (freeUsed : Nat) (baseline : Option Nat) :
    ∃ b1 b0 : Byte, baselineBytes freeUsed baseline = [b1, b0]
      ∧ ∀ b, baseline = some b → b1 = byteOf (b / 256) ∧ b0 = byteOf b := by
  cases baseline with
  | none => exact ⟨_, _, rfl, nofun⟩
  | some b => exact ⟨_, _, rfl, fun _ same => by cases same; exact ⟨rfl, rfl⟩⟩

theorem rawBytes_eq (k : HeadKind) (r : HeadReading) :
    rawBytes k r =
      [byteOf (r.first.toNat / 256), byteOf r.first.toNat,
        if k = .smoke then byteOf (r.second.toNat / 256) else 0, if k = .smoke then byteOf r.second.toNat else 0] := by
  cases k <;> rfl

theorem headAnswer_layout {k : Fin 4} {h : Head} (named : index.val = k.val) (there : s.hazard.heads.get k = some h) :
    ∃ b1 b0 : Byte,
      headAnswer index s =
        [byteOf h.kind.code, byteOf h.level.code, byteOf h.confirm,
          byteOf (numberOf [h.refused, h.fault, h.dirty, h.fault || s.front.fault, h.baseline.isSome, h.fireWorthy]),
          b1, b0,
          byteOf ((s.front.lastRaw.heads.get k).first.toNat / 256), byteOf (s.front.lastRaw.heads.get k).first.toNat,
          (if h.kind = .smoke then byteOf ((s.front.lastRaw.heads.get k).second.toNat / 256) else 0),
          (if h.kind = .smoke then byteOf (s.front.lastRaw.heads.get k).second.toNat else 0),
          byteOf h.window.length]
        ∧ ∀ b, h.baseline = some b → b1 = byteOf (b / 256) ∧ b0 = byteOf b := by
  obtain ⟨b1, b0, bytes, seeded⟩ := baselineBytes_pair s.freeUsed h.baseline
  exact ⟨b1, b0, by rw [headAnswer_of_head named there, bytes, rawBytes_eq, headMarks_eq]; rfl, seeded⟩

theorem headAnswer_length {k : Fin 4} (named : index.val = k.val) (s : State) :
    (headAnswer index s).length = if (s.hazard.heads.get k).isSome then 11 else 0 := by
  cases there : s.hazard.heads.get k with
  | none => rw [headAnswer_of_none named there]; rfl
  | some h =>
    obtain ⟨b1, b0, layout, -⟩ := headAnswer_layout named there
    rw [layout]
    rfl

theorem surveyAnswerOf_past {area : Fin 16} (past : 7 ≤ area.val) (index : Fin 16) (s : State) :
    surveyAnswerOf area index s = [] := by
  unfold surveyAnswerOf
  split
  case h_8 => rfl
  all_goals omega

/-- Settles O48: each section's layout, its flag bytes read as numbers. -/
theorem surveyAnswersHaveTheirLayout : Obligations.SurveyAnswersHaveTheirLayout := by
  unfold Obligations.SurveyAnswersHaveTheirLayout
  intro area index s
  refine ⟨?identity, rfl, peerAnswer_length index s, fun e there => ?peer, slotAnswer_length index s,
    fun i named => ?slot, fun n named => ?leafLength, fun n c exitDoor links named role => ?leaf,
    fun k named => headAnswer_length named s, fun k h named there => headAnswer_layout named there,
    fun past => ⟨?leafPast, ?headPast⟩, rfl, fun past => surveyAnswerOf_past past index s⟩
  case identity => exact (identityFlags_eq _ _ _ _ _) ▸ rfl
  case peer =>
    refine (peerAnswer_of_entry there).trans ?_
    rw [← stripCode_eq]
    cases e.heard <;> rfl
  case slot =>
    refine (slotAnswer_of_slot named s).trans ?_
    rcases (s.calls.slots.get i).repeatTimer with _ | n <;> rcases (s.calls.slots.get i).state with _ | _ | taker <;> rfl
  case leafLength =>
    show (leafAnswer index s).length = _
    cases role : (s.doors.leaves.get n).role with
    | configured c exitDoor links => rw [leafAnswer_of_configured named role]; rfl
    | dropped | provisional => rw [leafAnswer_of_unconfigured named (by simp [role])]; rfl
  case leaf =>
    refine (leafAnswer_of_configured named role).trans ?_
    rw [leafFlags_eq, jamCode_eq, contacts_eq, leafActs_eq]
    cases (s.doors.leaves.get n).pass <;> rfl
  case leafPast =>
    show leafAnswer index s = []
    rw [leafAnswer, quarterOf_past past]
  case headPast =>
    have absent : headAt index s = none := by rw [headAt, quarterOf_past past]; rfl
    show headAnswer index s = []
    rw [headAnswer, absent]

end Sys2Proof.Machine
end


section
/-! SUPPORT. The header check (section 11.1): what one wrong bit makes of the parity bits, the overall parity and the
syndrome. -/

namespace Sys2Proof.Machine

variable {data : List Bool} {check : Byte} {m position : Nat}

/-! ## Exclusive-or of bits -/

theorem xorAll_cons (b : Bool) (bits : List Bool) : xorAll (b :: bits) = Bool.xor b (xorAll bits) := by
  have shift : ∀ (bits : List Bool) (c : Bool), bits.foldl Bool.xor c = Bool.xor c (xorAll bits) := by
    intro bits
    induction bits with
    | nil => exact fun c => (Bool.xor_false c).symm
    | cons d bits ih =>
      intro c
      rw [xorAll, List.foldl_cons, List.foldl_cons, ih, ih (Bool.xor false d), Bool.false_xor, Bool.xor_assoc]
  exact (shift bits _).trans (by rw [Bool.false_xor])

/-- One inverted bit inverts the exclusive-or. -/
theorem xorAll_modify_not {bits : List Bool} (inside : m < bits.length) : xorAll (bits.modify m not) = !xorAll bits := by
  induction bits generalizing m with
  | nil => exact absurd inside (Nat.not_lt_zero m)
  | cons b bits ih =>
    cases m with
    | zero => rw [List.modify_zero_cons, xorAll_cons, xorAll_cons, Bool.not_xor]
    | succ m =>
      rw [List.modify_succ_cons, xorAll_cons, xorAll_cons, ih (Nat.lt_of_succ_lt_succ inside), Bool.xor_not]

/-- One inverted bit inverts the exclusive-or of a selection exactly where it is selected. -/
theorem xorAll_selected_modify (selects : Nat → Bool) {places : List Nat} {bits : List Bool} (placed : m < places.length)
    (inside : m < bits.length) :
    xorAll ((places.zip (bits.modify m not)).map (fun p => selects p.1 && p.2))
      = Bool.xor (xorAll ((places.zip bits).map (fun p => selects p.1 && p.2))) (selects places[m]) := by
  induction bits generalizing m places with
  | nil => exact absurd inside (Nat.not_lt_zero m)
  | cons b bits ih =>
    cases places with
    | nil => exact absurd placed (Nat.not_lt_zero m)
    | cons place places =>
      cases m with
      | zero =>
        rw [List.modify_zero_cons, List.zip_cons_cons, List.zip_cons_cons, List.map_cons, List.map_cons, xorAll_cons,
          xorAll_cons]
        have inverted : ∀ u v w : Bool, Bool.xor (u && !v) w = Bool.xor (Bool.xor (u && v) w) u := by decide
        exact inverted _ _ _
      | succ m =>
        rw [List.modify_succ_cons, List.zip_cons_cons, List.zip_cons_cons, List.map_cons, List.map_cons, xorAll_cons,
          xorAll_cons, ih (Nat.lt_of_succ_lt_succ placed) (Nat.lt_of_succ_lt_succ inside), Bool.xor_assoc]
        rfl

/-! ## The syndrome and the overall parity (R184) -/

/-- The parity bits that a check byte brings. -/
def receivedParity (check : Byte) : List Bool := (bitsOf check).tail.take 6

/-- The number that the wrong parity bits spell. -/
def syndromeOf (data : List Bool) (check : Byte) : Nat :=
  numberOf (List.zipWith Bool.xor (parityBits data) (receivedParity check))

/-- The overall parity is wrong. -/
def parityFails (data : List Bool) (check : Byte) : Bool :=
  Bool.xor (xorAll data) (Bool.xor (xorAll (receivedParity check)) (check.getLsbD 0))

theorem invertAt_of_notMem (long : data.length = 32) (none : position ∉ dataPositions) : invertAt position data = data := by
  refine List.ext_getElem (by simp [invertAt, dataPositions, long]) fun n _ inside => ?_
  have placed : n < dataPositions.length := Nat.lt_of_lt_of_eq inside long
  have other : dataPositions[n] ≠ position := fun same => none (same ▸ List.getElem_mem _)
  simp [invertAt, other]

theorem invertAt_modify (long : data.length = 32) (inside : m < dataPositions.length) :
    invertAt dataPositions[m] (data.modify m not) = data := by
  refine List.ext_getElem (by simp [invertAt, dataPositions, long]) fun n _ there => ?_
  have distinct : dataPositions.Nodup := by decide
  have placed : n < dataPositions.length := Nat.lt_of_lt_of_eq there long
  have same : dataPositions[n] = dataPositions[m] ↔ n = m := distinct.getElem_inj_iff
  by_cases here : n = m
  · subst here
    simp [invertAt]
  · simp [invertAt, same, here, Ne.symm here]

theorem judgeHeader_eq (data : List Bool) (check : Byte) :
    judgeHeader data check =
      if check.getLsbD 7 then if !parityFails data check && syndromeOf data check == 0 then .corrected data else .twoBit
      else if !parityFails data check then if syndromeOf data check = 0 then .clean else .twoBit
      else if syndromeOf data check = 0 then .corrected data
      else if syndromeOf data check ≤ 38 then .corrected (invertAt (syndromeOf data check) data)
      else .twoBit := rfl

theorem judgeHeader_clean (spare : check.getLsbD 7 = false) (holds : parityFails data check = false)
    (zero : syndromeOf data check = 0) : judgeHeader data check = .clean := by
  rw [judgeHeader_eq, spare, holds, zero]
  rfl

theorem judgeHeader_spare (spare : check.getLsbD 7 = true) (holds : parityFails data check = false)
    (zero : syndromeOf data check = 0) : judgeHeader data check = .corrected data := by
  rw [judgeHeader_eq, spare, holds, zero]
  rfl

/-- Where the overall parity is wrong and the syndrome names a position, the bit there is inverted. -/
theorem judgeHeader_odd (long : data.length = 32) (spare : check.getLsbD 7 = false)
    (fails : parityFails data check = true) (names : syndromeOf data check = position) (within : position ≤ 38) :
    judgeHeader data check = .corrected (invertAt position data) := by
  rw [judgeHeader_eq, spare, fails, names]
  by_cases zero : position = 0
  · rw [invertAt_of_notMem long (by rw [zero]; decide), zero]
    rfl
  · exact (if_neg zero).trans (if_pos within)

/-! ## The check byte -/

theorem bitsOf_headerCheck (data : List Bool) :
    bitsOf (headerCheck data) = false :: parityBits data ++ [Bool.xor (xorAll data) (xorAll (parityBits data))] :=
  byteOf_numberOf ..

theorem receivedParity_headerCheck (data : List Bool) : receivedParity (headerCheck data) = parityBits data := by
  rw [receivedParity, bitsOf_headerCheck]
  rfl

theorem headerCheck_spare (data : List Bool) : (headerCheck data).getLsbD 7 = false :=
  (List.cons.inj (bitsOf_headerCheck data)).1

theorem headerCheck_overall (data : List Bool) :
    (headerCheck data).getLsbD 0 = Bool.xor (xorAll data) (xorAll (parityBits data)) := by
  have last := congrArg (·.getD 7 false) (bitsOf_headerCheck data)
  exact last

theorem bitsOf_flipped (b : Byte) (k : Fin 8) : bitsOf (b ^^^ (1#8 <<< k.val)) = (bitsOf b).modify (7 - k.val) not := by
  fin_cases k <;> simp [bitsOf]

/-! ## A wrong data bit -/

theorem parityBit_modify (long : data.length = 32) (inside : m < dataPositions.length) (j : Nat) :
    parityBit j (data.modify m not) = Bool.xor (parityBit j data) (dataPositions[m].testBit j) :=
  xorAll_selected_modify (·.testBit j) inside (Nat.lt_of_lt_of_eq inside long.symm)

theorem numberOf_positionBits :
    ∀ p ∈ dataPositions, numberOf [p.testBit 5, p.testBit 4, p.testBit 3, p.testBit 2, p.testBit 1, p.testBit 0] = p := by
  decide

/-- A wrong data bit makes the syndrome the number of its position. -/
theorem syndromeOf_modify (long : data.length = 32) (inside : m < dataPositions.length) :
    syndromeOf (data.modify m not) (headerCheck data) = dataPositions[m] := by
  refine Eq.trans ?_ (numberOf_positionBits dataPositions[m] (List.getElem_mem inside))
  have wrong : ∀ u v : Bool, Bool.xor (Bool.xor u v) u = v := by decide
  simp only [syndromeOf, receivedParity_headerCheck, parityBits, parityBit_modify long inside, List.zipWith_cons_cons,
    List.zipWith_nil_left, wrong]

theorem judgeHeader_dataBit (long : data.length = 32) (inside : m < 32) :
    judgeHeader (data.modify m not) (headerCheck data) = .corrected data := by
  have fails : parityFails (data.modify m not) (headerCheck data) = true := by
    have wrong : ∀ u v : Bool, Bool.xor (!u) (Bool.xor v (Bool.xor u v)) = true := by decide
    rw [parityFails, receivedParity_headerCheck, headerCheck_overall, xorAll_modify_not (by omega)]
    exact wrong _ _
  have within : ∀ p ∈ dataPositions, p ≤ 38 := by decide
  rw [judgeHeader_odd (by rw [List.length_modify, long]) (headerCheck_spare data) fails (syndromeOf_modify long inside)
    (within _ (List.getElem_mem inside)), invertAt_modify long inside]

/-! ## A wrong bit of the check byte -/

theorem check_fields {spare overall : Bool} {received : List Bool} (six : received.length = 6)
    (bits : bitsOf check = spare :: received ++ [overall]) :
    check.getLsbD 7 = spare ∧ receivedParity check = received ∧ check.getLsbD 0 = overall := by
  obtain ⟨first, rest⟩ := List.cons.inj bits
  have split : receivedParity check ++ [check.getLsbD 0] = received ++ [overall] := rest
  obtain ⟨middle, last⟩ := List.append_inj split six.symm
  exact ⟨first, middle, List.singleton_inj.1 last⟩

theorem syndromeOf_own (same : receivedParity check = parityBits data) : syndromeOf data check = 0 := by
  simp [syndromeOf, same, parityBits, numberOf]

theorem judgeHeader_own (data : List Bool) : judgeHeader data (headerCheck data) = .clean := by
  have holds : ∀ u v : Bool, Bool.xor u (Bool.xor v (Bool.xor u v)) = false := by decide
  have same := receivedParity_headerCheck data
  refine judgeHeader_clean (headerCheck_spare data) ?_ (syndromeOf_own same)
  rw [parityFails, same, headerCheck_overall]
  exact holds _ _

theorem judgeHeader_spareBit (data : List Bool) :
    judgeHeader data (headerCheck data ^^^ (1#8 <<< (7 : Fin 8).val)) = .corrected data := by
  have bits := bitsOf_flipped (headerCheck data) 7
  rw [bitsOf_headerCheck] at bits
  obtain ⟨spare, same, overall⟩ := check_fields (received := parityBits data) rfl bits
  have holds : ∀ u v : Bool, Bool.xor u (Bool.xor v (Bool.xor u v)) = false := by decide
  refine judgeHeader_spare spare ?_ (syndromeOf_own same)
  rw [parityFails, same, overall]
  exact holds _ _

theorem judgeHeader_overallBit (long : data.length = 32) :
    judgeHeader data (headerCheck data ^^^ (1#8 <<< (0 : Fin 8).val)) = .corrected data := by
  have bits := bitsOf_flipped (headerCheck data) 0
  rw [bitsOf_headerCheck] at bits
  obtain ⟨spare, same, overall⟩ := check_fields (received := parityBits data) rfl bits
  have fails : parityFails data (headerCheck data ^^^ (1#8 <<< (0 : Fin 8).val)) = true := by
    have wrong : ∀ u v : Bool, Bool.xor u (Bool.xor v (!Bool.xor u v)) = true := by decide
    rw [parityFails, same, overall]
    exact wrong _ _
  rw [judgeHeader_odd long spare fails (syndromeOf_own same) (Nat.zero_le 38), invertAt_of_notMem long (by decide)]

/-- A wrong parity bit makes the syndrome its own position, where no data bit stands. -/
theorem judgeHeader_parityBit (long : data.length = 32) (j : Fin 6) :
    judgeHeader data (headerCheck data ^^^ (1#8 <<< (j.val + 1))) = .corrected data := by
  have bits : bitsOf (headerCheck data ^^^ (1#8 <<< (j.val + 1)))
      = false :: (parityBits data).modify (5 - j.val) not ++ [Bool.xor (xorAll data) (xorAll (parityBits data))] := by
    refine (bitsOf_flipped (headerCheck data) j.succ.castSucc).trans ?_
    rw [bitsOf_headerCheck]
    fin_cases j <;> rfl
  obtain ⟨spare, received, overall⟩ := check_fields (by rw [List.length_modify]; rfl) bits
  have fails : parityFails data (headerCheck data ^^^ (1#8 <<< (j.val + 1))) = true := by
    have wrong : ∀ u v : Bool, Bool.xor u (Bool.xor (!v) (Bool.xor u v)) = true := by decide
    have six : (parityBits data).length = 6 := rfl
    rw [parityFails, received, overall, xorAll_modify_not (by omega)]
    exact wrong _ _
  have names : syndromeOf data (headerCheck data ^^^ (1#8 <<< (j.val + 1))) = 2 ^ j.val := by
    rw [syndromeOf, received]
    fin_cases j <;> simp [parityBits, numberOf]
  have places : ∀ j : Fin 6, 2 ^ j.val ≤ 38 ∧ 2 ^ j.val ∉ dataPositions := by decide
  obtain ⟨within, apart⟩ := places j
  rw [judgeHeader_odd long spare fails names within, invertAt_of_notMem long apart]

/-- The check byte names each of its own bits. -/
theorem judgeHeader_checkBit (long : data.length = 32) (k : Fin 8) :
    judgeHeader data (headerCheck data ^^^ (1#8 <<< k.val)) = .corrected data := by
  induction k using Fin.lastCases with
  | last => exact judgeHeader_spareBit data
  | cast k =>
    cases k using Fin.cases with
    | zero => exact judgeHeader_overallBit long
    | succ j => exact judgeHeader_parityBit long j

/-! ## The five header bytes (R184) -/

theorem headerData_eq (kind source a b : Byte) : headerData kind source a b = [kind, source, a, b].flatMap bitsOf := by
  simp [headerData]

theorem headerData_length (kind source a b : Byte) : (headerData kind source a b).length = 32 := rfl

/-- A wrong bit of a byte is the wrong bit of its place in sending order. -/
theorem flatMap_bitsOf_set {bytes : List Byte} (inside : m < bytes.length) (k : Fin 8) :
    (bytes.set m (bytes.getD m 0 ^^^ (1#8 <<< k.val))).flatMap bitsOf
      = (bytes.flatMap bitsOf).modify (8 * m + (7 - k.val)) not := by
  induction bytes generalizing m with
  | nil => exact absurd inside (Nat.not_lt_zero m)
  | cons b bytes ih =>
    cases m with
    | zero =>
      rw [List.set_cons_zero, List.flatMap_cons, List.flatMap_cons, List.getD_cons_zero, bitsOf_flipped]
      fin_cases k <;> rfl
    | succ m =>
      have later : 8 * (m + 1) + (7 - k.val) = 8 * m + (7 - k.val) + 8 := by omega
      rw [List.set_cons_succ, List.flatMap_cons, List.flatMap_cons, List.getD_cons_succ,
        ih (Nat.lt_of_succ_lt_succ inside), later]
      rfl

/-- Settles O60: a wrong bit of the first four bytes is a wrong data bit, one of the fifth a wrong bit of the check. -/
theorem oneHeaderBitIsCorrected : Obligations.OneHeaderBitIsCorrected := by
  unfold Obligations.OneHeaderBitIsCorrected
  intro kind source a b i k c0 c1 c2 c3 c4 received
  have long := headerData_length kind source a b
  have dataByte : ∀ n : Fin 4,
      [c0, c1, c2, c3] = [kind, source, a, b].set n.val ([kind, source, a, b].getD n.val 0 ^^^ (1#8 <<< k.val)) →
      judgeHeader (headerData c0 c1 c2 c3) (headerCheck (headerData kind source a b))
        = .corrected (headerData kind source a b) := by
    intro n wrong
    rw [headerData_eq c0, wrong, flatMap_bitsOf_set n.isLt, ← headerData_eq]
    exact judgeHeader_dataBit long (by omega)
  induction i using Fin.lastCases with
  | last =>
    cases received
    exact judgeHeader_checkBit long k
  | cast n =>
    have whole : headerBytes kind source a b = [kind, source, a, b] ++ [headerCheck (headerData kind source a b)] := rfl
    rw [whole, Fin.val_castSucc, List.set_append_left (h := n.isLt), List.getD_append _ _ _ _ n.isLt] at received
    obtain ⟨same, check⟩ := List.append_inj' (s₁ := [c0, c1, c2, c3]) (t₁ := [c4]) received rfl
    rw [List.singleton_inj.1 check]
    exact dataByte n same

end Sys2Proof.Machine
end


section
/-! SUPPORT. What a receiver reads of the bytes that a station writes (sections 9.2, 11.1, 11.2). -/

namespace Sys2Proof.Machine

variable {f : Frame} {source : Station} {kind src a b : Byte} {rest payload : List Byte}

/-! ## Bytes (spec 9.2) -/

theorem byteOf_toNat {n : Nat} (small : n < 256) : (byteOf n).toNat = n := Nat.mod_eq_of_lt small

theorem bitsOf_injective {b c : Byte} (same : bitsOf b = bitsOf c) : b = c := by
  simp only [bitsOf, List.cons.injEq, and_true] at same
  obtain ⟨b7, b6, b5, b4, b3, b2, b1, b0⟩ := same
  refine BitVec.eq_of_getLsbD_eq fun i inside => ?_
  interval_cases i <;> assumption

theorem byteOf_numberOf_bitsOf (b : Byte) : byteOf (numberOf (bitsOf b)) = b := bitsOf_injective (byteOf_numberOf ..)

theorem highNibble_nibbles (hi lo : Fin 16) : highNibble (nibbles hi lo) = hi := by
  have value : (nibbles hi lo).toNat = hi.val * 16 + lo.val := byteOf_toNat (by omega)
  refine Fin.ext ?_
  simp only [highNibble, value]
  omega

theorem lowNibble_nibbles (hi lo : Fin 16) : lowNibble (nibbles hi lo) = lo := by
  have value : (nibbles hi lo).toNat = hi.val * 16 + lo.val := byteOf_toNat (by omega)
  refine Fin.ext ?_
  simp only [lowNibble, value]
  omega

theorem bytesOf16_toNat {n : Nat} (small : n < 65536) : (byteOf (n / 256)).toNat * 256 + (byteOf n).toNat = n := by
  rw [byteOf_toNat (by omega), byteOf, BitVec.toNat_ofNat]
  omega

theorem word_append (w : BitVec 16) : byteOf (w.toNat / 256) ++ byteOf w.toNat = w := by
  have small := w.isLt
  refine BitVec.eq_of_toNat_eq ?_
  rw [BitVec.toNat_append, ← Nat.shiftLeft_add_eq_or_of_lt (byteOf w.toNat).isLt, Nat.shiftLeft_eq]
  exact bytesOf16_toNat small

/-- Each two-bit field of a byte is the number put there. -/
theorem pairAt_packPairs {w x y z : Nat} (hw : w < 4) (hx : x < 4) (hy : y < 4) (hz : z < 4) :
    pairAt (packPairs w x y z) 0 = w ∧ pairAt (packPairs w x y z) 1 = x ∧ pairAt (packPairs w x y z) 2 = y
      ∧ pairAt (packPairs w x y z) 3 = z := by
  have value : (packPairs w x y z).toNat = w * 64 + x * 16 + y * 4 + z := byteOf_toNat (by omega)
  simp only [pairAt, value]
  omega

/-! ## Coded values -/

theorem Level.ofCode_code (l : Level) : Level.ofCode l.code = some l := by cases l <;> rfl

theorem Level.code_lt (l : Level) : l.code < 4 := by cases l <;> decide

theorem Posture.ofCode_code (p : Posture) : Posture.ofCode p.code = some p := by cases p <;> rfl

theorem Posture.code_lt (p : Posture) : p.code < 4 := by cases p <;> decide

theorem Base.ofCode_code (b : Base) : Base.ofCode b.code = some b := by cases b <;> rfl

theorem Base.code_lt (b : Base) : b.code < 4 := by cases b <;> decide

theorem Order.ofCode_code (o : Order) : Order.ofCode o.code = some o := by cases o <;> rfl

theorem Order.code_lt (o : Order) : o.code < 4 := by cases o <;> decide

theorem DoorClass.ofCode_doorCode (c : Option DoorClass) : DoorClass.ofCode (doorCode c) = c := by
  rcases c with _ | _ | _ | _ <;> rfl

theorem doorCode_lt (c : Option DoorClass) : doorCode c < 4 := by rcases c with _ | _ | _ | _ <;> decide

theorem AdvertisedHop.code_lt (h : AdvertisedHop) : h.code < 256 := by
  cases h with
  | none | exit => decide
  | station n => exact Nat.lt_trans n.isLt (by decide)

theorem AdvertisedHop.ofCode_code {h : AdvertisedHop} (named : h ≠ .station 0) : AdvertisedHop.ofCode h.code = some h := by
  cases h with
  | none | exit => rfl
  | station n =>
    have positive : n.val ≠ 0 := fun zero => named (congrArg _ (Fin.ext zero))
    exact (if_neg positive).trans (dif_pos n.isLt)

theorem CallKind.ofCode_kindCode (k : Option CallKind) : CallKind.ofCode (kindCode k) = some k := by
  rcases k with _ | _ | _ | _ | _ <;> rfl

theorem kindCode_lt (k : Option CallKind) : kindCode k < 5 := by rcases k with _ | _ | _ | _ | _ <;> decide

theorem NoticeState.ofCode_code (st : NoticeState) : NoticeState.ofCode st.code = some st := by cases st <;> rfl

theorem NoticeState.code_lt (st : NoticeState) : st.code < 4 := by cases st <;> decide

theorem mem_allSources (s : Source) : s ∈ allSources := by
  cases s with
  | input i | head i | headFault i | headDirty i | leaf i | leafFault i => fin_cases i <;> decide
  | frontEnd | chainSign | chainA | chainB | profile | duplicate | line => decide

theorem Source.ofCode_sourceCode (s : Option Source) : Source.ofCode (sourceCode s) = some s := by
  cases s with
  | none => rfl
  | some s =>
    have all : ∀ s ∈ allSources, Source.ofCode s.code = some (some s) := by decide
    exact all s (mem_allSources s)

theorem sourceCode_lt (s : Option Source) : sourceCode s < 256 := by
  cases s with
  | none => decide
  | some s =>
    have all : ∀ s ∈ allSources, s.code < 256 := by decide
    exact all s (mem_allSources s)

theorem stationOf_byte (n : Station) : stationOf (byteOf n.val).toNat = some n := by
  rw [byteOf_toNat (by omega)]
  exact dif_pos n.isLt

/-! ## Payloads (spec 11.2) -/

theorem require_true {c : Bool} (holds : c = true) : require c = some () := if_pos holds

theorem payloadSum_lt (payload : List Byte) : payloadSum payload < 65536 := Nat.mod_lt _ (by decide)

/-- The payload that was written with its sum is the payload that is read. -/
theorem checkedPayload_written {length : Nat} (long : payload.length = length) :
    checkedPayload length (payload ++ bytesOf16 (payloadSum payload)) = some payload := by
  have sum := bytesOf16_toNat (payloadSum_lt payload)
  unfold checkedPayload
  rw [List.drop_left' long, List.take_left' long]
  exact if_pos sum.symm

theorem headMarks_written (w x : Four Bool) :
    let b := byteOf (numberOf (w.toList ++ x.toList))
    (⟨b.getLsbD 7, b.getLsbD 6, b.getLsbD 5, b.getLsbD 4⟩ : Four Bool) = w
      ∧ (⟨b.getLsbD 3, b.getLsbD 2, b.getLsbD 1, b.getLsbD 0⟩ : Four Bool) = x := by
  have bits := byteOf_numberOf w.p0 w.p1 w.p2 w.p3 x.p0 x.p1 x.p2 x.p3
  simp only [bitsOf, List.cons.injEq, and_true] at bits
  obtain ⟨b7, b6, b5, b4, b3, b2, b1, b0⟩ := bits
  exact ⟨congr (congr (congr (congrArg Four.mk b7) b6) b5) b4, congr (congr (congr (congrArg Four.mk b3) b2) b1) b0⟩

theorem Bulletin.ofPayload_payload {b : Bulletin} (hops : b.hops.toNat ≤ Config.hopCeiling) (calls : b.openCalls.toNat ≤ 8)
    (named : b.nextHop ≠ .station 0) : Bulletin.ofPayload b.payload = some b := by
  obtain ⟨d0, d1, d2, d3⟩ :=
    pairAt_packPairs (doorCode_lt b.doors.p0) (doorCode_lt b.doors.p1) (doorCode_lt b.doors.p2) (doorCode_lt b.doors.p3)
  obtain ⟨l0, l1, l2, l3⟩ :=
    pairAt_packPairs b.levels.p0.code_lt b.levels.p1.code_lt b.levels.p2.code_lt b.levels.p3.code_lt
  obtain ⟨faults, dirty⟩ := headMarks_written b.headFaults b.headDirty
  have hazard : (byteOf b.hazard.code).toNat = b.hazard.code := byteOf_toNat (by have := b.hazard.code_lt; omega)
  have posture : (byteOf b.posture.code).toNat = b.posture.code := byteOf_toNat (by have := b.posture.code_lt; omega)
  have base : (byteOf b.base.code).toNat = b.base.code := byteOf_toNat (by have := b.base.code_lt; omega)
  have hop : (byteOf b.nextHop.code).toNat = b.nextHop.code := byteOf_toNat b.nextHop.code_lt
  have latch : (byteOf b.manualFire.toNat).toNat = b.manualFire.toNat := byteOf_toNat (by have := b.manualFire.toNat_le; omega)
  have latchOne : b.manualFire.toNat ≤ 1 := b.manualFire.toNat_le
  simp only [Bulletin.payload, Bulletin.ofPayload, hazard, posture, base, hop, latch, doorSummary, d0, d1, d2, d3, l0, l1,
    l2, l3, Level.ofCode_code, Posture.ofCode_code, Base.ofCode_code, AdvertisedHop.ofCode_code named,
    DoorClass.ofCode_doorCode, require_true (decide_eq_true hops), require_true (decide_eq_true calls),
    require_true (decide_eq_true latchOne), Option.bind_eq_bind, Option.bind_some]
  have flag : (b.manualFire.toNat == 1) = b.manualFire := by cases b.manualFire <;> rfl
  rw [faults, dirty, flag]

theorem Notice.ofPayload_payload (n : Notice) : Notice.ofPayload n.payload = some n := by
  have slot : (byteOf n.slot.val).toNat = n.slot.val := byteOf_toNat (by omega)
  have seq : (byteOf n.seq.val).toNat = n.seq.val := byteOf_toNat (by omega)
  have kind : (byteOf (kindCode n.kind)).toNat = kindCode n.kind := byteOf_toNat (by have := kindCode_lt n.kind; omega)
  have state : (byteOf n.state.code).toNat = n.state.code := byteOf_toNat (by have := n.state.code_lt; omega)
  have source : (byteOf (sourceCode n.source)).toNat = sourceCode n.source := byteOf_toNat (sourceCode_lt n.source)
  have short : n.seq.val ≤ 15 := by omega
  have slotNamed : slotOf n.slot.val = some n.slot := dif_pos n.slot.isLt
  have seqRead : lowNibble (byteOf n.seq.val) = n.seq := by
    refine Fin.ext ?_
    simp only [lowNibble, seq]
    omega
  simp only [Notice.payload, Notice.ofPayload, bytesOf16, List.cons_append, List.nil_append, slot, seq, kind, state, source,
    CallKind.ofCode_kindCode, NoticeState.ofCode_code, Source.ofCode_sourceCode, stationOf_byte,
    require_true (decide_eq_true short), slotNamed, seqRead, word_append, Option.bind_eq_bind, Option.bind_some]

/-! ## Frames (spec 9.2, 11.1) -/

theorem Bulletin.payload_length (b : Bulletin) : b.payload.length = 12 := rfl

theorem Notice.payload_length (n : Notice) : n.payload.length = 8 := rfl

/-- The receiver's stages for either kind of bulletin. -/
theorem frameOf_bulletin (asFire : Bool) (content : Bulletin) (src count : Byte) (rest : List Byte) :
    frameOf (byteOf (Frame.bulletin asFire count content).kindValue) src 12 count rest =
      (stationOf src.toNat).bind fun source => (checkedPayload 12 rest).bind fun p =>
        (Bulletin.ofPayload p).bind fun b => some (source, Frame.bulletin asFire count b) := by
  cases asFire <;> rfl

/-- What a station writes as the four header bytes and the tail reads as the frame. -/
theorem frameOf_written (source : Station) (inRange : f.InRange) :
    frameOf (byteOf f.kindValue) (byteOf source.val) f.valueA f.valueB f.tail = some (source, f) := by
  have sent := stationOf_byte source
  cases f with
  | bulletin asFire count b =>
    obtain ⟨hops, calls, named⟩ := inRange
    have content := Bulletin.ofPayload_payload hops calls named
    refine (frameOf_bulletin asFire b (byteOf source.val) count _).trans ?_
    rw [sent, Option.bind_some, Frame.tail, checkedPayload_written b.payload_length, Option.bind_some, content, Option.bind_some]
  | order o =>
    unfold frameOf
    rw [sent]
    show (Order.ofCode (byteOf o.code).toNat).bind (fun o => some (source, Frame.order o)) = _
    rw [byteOf_toNat (Nat.lt_trans o.code_lt (by decide)), Order.ofCode_code, Option.bind_some]
  | notice count n =>
    unfold frameOf
    rw [sent]
    show (checkedPayload 8 (n.payload ++ bytesOf16 (payloadSum n.payload))).bind
      (fun p => (Notice.ofPayload p).bind fun n => some (source, Frame.notice count n)) = _
    rw [checkedPayload_written n.payload_length, Option.bind_some, n.ofPayload_payload, Option.bind_some]
  | take target slot seq =>
    unfold frameOf
    rw [sent]
    show some (source, Frame.take target (highNibble (nibbles slot seq)) (lowNibble (nibbles slot seq))) = _
    rw [highNibble_nibbles, lowNibble_nibbles]
  | cancel target slot seq =>
    unfold frameOf
    rw [sent]
    show some (source, Frame.cancel target (highNibble (nibbles slot seq)) (lowNibble (nibbles slot seq))) = _
    rw [highNibble_nibbles, lowNibble_nibbles]
  | request target area index =>
    unfold frameOf
    rw [sent]
    show some (source, Frame.request target (highNibble (nibbles area index)) (lowNibble (nibbles area index))) = _
    rw [highNibble_nibbles, lowNibble_nibbles]
  | answer tag payload =>
    have short : payload.length ≤ 24 := inRange
    have length : (byteOf payload.length).toNat = payload.length := byteOf_toNat (by omega)
    unfold frameOf
    rw [sent]
    show (require (decide ((byteOf payload.length).toNat ≤ 24))).bind (fun _ =>
      (checkedPayload (byteOf payload.length).toNat (payload ++ bytesOf16 (payloadSum payload))).bind
        fun p => some (source, Frame.answer tag p)) = _
    rw [length, require_true (decide_eq_true short), Option.bind_some, checkedPayload_written rfl, Option.bind_some]

/-- A header's data bits are judged as the four bytes that they spell. -/
theorem judgeRest_headerData {corrected : Bool} (read : frameOf kind src a b rest = some (source, f)) :
    judgeRest corrected (headerData kind src a b) rest = .accepted corrected source f := by
  have spelled : ∀ (k : Nat) (c : Byte), ((headerData kind src a b).drop (8 * k)).take 8 = bitsOf c →
      byteOf (numberOf (((headerData kind src a b).drop (8 * k)).take 8)) = c := by
    intro k c bits
    rw [bits, byteOf_numberOf_bitsOf]
  unfold judgeRest
  dsimp only
  rw [spelled 0 kind rfl, spelled 1 src rfl, spelled 2 a rfl, spelled 3 b rfl, read]

theorem judgeFrame_headerBytes (read : frameOf kind src a b rest = some (source, f)) :
    judgeFrame (headerBytes kind src a b ++ rest) = .accepted false source f := by
  have judged := judgeHeader_own (headerData kind src a b)
  have accepted := judgeRest_headerData (corrected := false) read
  simp only [headerBytes, List.cons_append, List.nil_append, judgeFrame, judged, accepted]

/-- Settles O59: the header of an unharmed frame is clean, and its bytes read back field by field. -/
theorem writtenFrameIsReadBack : Obligations.WrittenFrameIsReadBack := by
  unfold Obligations.WrittenFrameIsReadBack
  intro source f inRange
  exact judgeFrame_headerBytes (frameOf_written source inRange)

end Sys2Proof.Machine
end
